-- ==== Sys2Proof/Word.lean ====
section
/-! DEFINITION. The word types of the Valgra 7140 (spec/00_scope.md, "Numbers") and their plainest arithmetic.

Cells, straps, check codes and the raw 32-bit fields of the loaded tables are what the manual treats as bits, so they are
bit vectors. Everything the manual computes exactly ("computed exactly", spec/00_scope.md "Arithmetic") is an `Int` or a `Nat`. -/

namespace Sys2Proof

/-- One byte of a cell. -/
abbrev Byte := BitVec 8

/-- The 32 bits of a cell's value, of a table field, or of the process clock. -/
abbrev Word := BitVec 32

/-- The remainder of a CRC-16 (R75, R196). -/
abbrev Crc16 := BitVec 16

/-- The 32 bits that show the integer `i` (a cell's value field is signed 32-bit, table 1.1). -/
def Word.ofValue (i : Int) : Word := BitVec.ofInt 32 i

end Sys2Proof
end

