-- ==== Sys2Proof/Syntax.lean ====
section
/-! DEFINITION. The commands of the Valgra 7140: one constructor of `Instr` for each row of spec/opcode_table.json, with
the operands the row's rule speaks of.

Three kinds of row stand in the table (spec/95_what_each_step_holds.md).
* What arrives from outside: resets, slots of the loop, management cells, the second of the time base.
* What falls due at a second of the time base (a step's maximum, an evaluation, a poll deadline, ...).
* What follows in the part from an arrival (a terminal count, a grant, a poll answered, ...).
A command of the last two kinds says "this step is taken now"; the machine tests its condition itself (log entry 2, 3). -/

namespace Sys2Proof

/-- The twelve bytes of a slot (spec/01_the_process_loop.md, table 1.1); `value` is bytes 6 to 9, most significant first. -/
structure Slot where
  code : Byte
  dest : Byte
  source : Byte
  kind : Byte
  func : Byte
  tag : Byte
  value : Word
  qual : Byte
  check : Byte
deriving DecidableEq, Repr

/-- What a management cell addressed to the part brings (R6): its source, tag, value and qualifier. `fillFirst` says in which
order the cell's slot is filled and the cell is served, an order that R10 leaves open (log entry 5). -/
structure Req where
  source : Byte
  tag : Byte
  value : Word
  qual : Byte
  fillFirst : Bool
deriving DecidableEq, Repr

/-- The status of a vote (R38, R39), in the coding of a sample record (R195). -/
inductive VoteStatus where
  | agreed3
  | agreed2
  | disagree
  | missing
deriving DecidableEq, Repr

/-- The kind of a sample record (R195, field 2). -/
inductive SampleKind where
  | steepOut
  | kilnIn
  | kilnOut
  | spot
  | void
deriving DecidableEq, Repr

/-- A record of the Excise Register (R195); the four optional fields are absent as `none`. -/
structure SampleRecord where
  number : Nat
  kind : SampleKind
  batch : Nat
  unit : Nat
  time : Word
  timeUnset : Bool
  mass : Int
  massStatus : VoteStatus
  moisture : Int
  moistureStatus : VoteStatus
  estimate : Option Nat
  peat : Option Nat
  officer : Option Byte
  voided : Option Nat
  check : Crc16
deriving DecidableEq, Repr

/-- The memory that VKEEP supplies (R197, R207): the records, oldest first, the next sample number, the base check, the
based flag and the valid mark. -/
structure Retained where
  records : List SampleRecord
  next : Nat
  baseCheck : Crc16
  based : Bool
  valid : Bool
deriving DecidableEq, Repr

/-- Whose refused offer is made again: a dosing channel's valve (R132), the turner's waiting commands (R164), a poll list
entry's POLL cell (R42), or the pending outputs of a unit (R122, R153, R183). -/
inductive ReofferTarget where
  | valve (c : Fin 12)
  | turner
  | poll (e : Fin 4)
  | unit (u : Fin 20)
deriving DecidableEq, Repr

/-- The commands: one constructor per row of spec/opcode_table.json, in the table's order.

`fillFirst` of a slot is the order R10 leaves open (log entry 5). -/
inductive Instr where
  /-- R13: the end of power-on reset, with the straps NODE7–NODE0 as they stand and whether the retention indication of
  R207 shows VKEEP held. -/
  | powerOnReset (straps : Byte) (retentionHeld : Bool)
  /-- R13: RESET# goes low or power is lost. `torn` is the retained memory as an interrupted register event left it (R207);
  `none` when the reset falls within no such event. -/
  | resetAssert (torn : Option Retained)
  | emptySlot (slot : Slot) (fillFirst : Bool)
  | badCell (slot : Slot) (fillFirst : Bool)
  | sampleCell (slot : Slot) (fillFirst : Bool)
  | pollAnswered (p : Fin 192)
  | terminalCount (c : Fin 12)
  | commandCell (slot : Slot) (fillFirst : Bool)
  | timeCell (slot : Slot) (fillFirst : Bool)
  | forwardCell (slot : Slot) (fillFirst : Bool)
  /-- R16: `elapsed` is the time in ms since the last slot arrived, which the silence timer measures. -/
  | loopSilent (elapsed : Nat)
  | loopUp
  | pendingReoffer (who : ReofferTarget)
  | congested
  | timeBaseSecond
  | qualityHeld (p : Fin 192)
  | qualityStale (p : Fin 192)
  | pollDeadline (e : Fin 4)
  /-- R211: a management cell whose function byte is `code`. -/
  | badFunction (code : Byte) (r : Req)
  | cursor (r : Req)
  | write (r : Req)
  | read (r : Req)
  | clearShadow (r : Req)
  | copyActive (r : Req)
  | activate (r : Req)
  | endOfCheck
  | start (r : Req)
  | hold (r : Req)
  | resume (r : Req)
  | manual (r : Req)
  | auto (r : Req)
  | stopProgram (r : Req)
  | discard (r : Req)
  | transfer (r : Req)
  /-- The batch is named by its slot of the Batch Table. -/
  | transferAttempt (b : Fin 20)
  | voteWaitExpiry (b : Fin 20)
  | transferDone (r : Req)
  | transferAbort (r : Req)
  | transferOverdue (b : Fin 20)
  | doseStart (r : Req)
  | unmask (r : Req)
  | doseClear (r : Req)
  | turnerEnable (r : Req)
  | refresh (r : Req)
  | timeSet (r : Req)
  | restart (r : Req)
  | captureClear (r : Req)
  | base (r : Req)
  | take (r : Req)
  | spot (r : Req)
  | holdSet (r : Req)
  | holdClear (r : Req)
  | walkEnd
  | vesselEvaluation (v : Fin 6)
  | stepMaximum (v : Fin 6)
  | boxEvaluation (b : Fin 12)
  | dayEnded (b : Fin 12)
  | turnIntervalReached (b : Fin 12)
  | grant
  | fanFeedbackMet
  | turnerAtBox
  | turnerFinished
  | release
  | prepTimeout
  | startTimeout
  | turnOverrun
  | sprayTrailExpiry
  | parkDelayExpiry
  | parkPositionReached
  | kilnEvaluation (k : Fin 2)
  | phaseMaximum (k : Fin 2)
  | flameLost (k : Fin 2)
deriving DecidableEq, Repr

end Sys2Proof
end

