-- ==== Sys2Proof/Decode.lean ====
section
/-! DEFINITION. The commands that words of the opcode table spell. -/

namespace Sys2Proof

/-- The command that a word spells by the table's bits. No row of spec/opcode_table.json gives bits (its `fields` are
empty and it has no `fixed`): the part is commanded by slots, by its pins and by its time base, so no word spells a
command. The bytes of a slot are read by `classify` and `handleSlot` (Machine/Operands.lean, Machine/Loop.lean). -/
def decodeTableWord (_nbits _w : Nat) : Option Instr := none

end Sys2Proof
end

