-- ==== Sys2Proof/Config.lean ====
section
/-! DEFINITION. What the spec leaves open for the part: free values (constants without a body, so that no proof can see
what they are), and the one input of the board that the model fixes for `State.reset`. -/

namespace Sys2Proof.Config

/-- FREE VALUE (log entry 20). The base count a channel takes from a request above 2^31 − 1. R131 bounds the base count by
2^31 − 1 and R186 computes a peat base exactly; the spec does not say what a larger request gives. -/
opaque baseBeyondRange : Nat → Nat

/-- FREE VALUE (log entry 21). The byte a POLL cell carries for a Channel Map source node or channel outside 0–255. R68
holds such a field as written and R42 copies it into a cell's byte; the spec does not say which byte results. -/
opaque mapByteBeyond : Int → Byte

/-- FREE VALUE (log entry 22). The fan percentage a RUNNING box's formula gives when its bed point has no usable value
(STALE or NONE). R153 takes a value that is FRESH or HELD and R152 names no other for RUNNING. The argument is a counter of
the model, so that each decision gets a value of its own. -/
opaque fanWithoutBed : Nat → Int

/-- The node straps that `State.reset` was reset with: DESIGN CHOICE (log entry 7), the node number of the spec's worked
sequences (sections 3.8 and 4.9). A `powerOnReset` command brings straps of its own. -/
def resetStraps : Byte := 5#8

end Sys2Proof.Config
end

