-- ==== Sys2Proof/Machine/State.lean ====
section
/-! DEFINITION. The state of the Valgra 7140 as plain data: every register, table, queue, counter, mode and pin the spec
names, the waiting commands, and the state right after power-on reset.

The state has two storeys. `Floor` holds what unit events change: the units, the dosing channels, the Turner Arbiter, the
batches, the Excise Register, the insertion queue. `State` holds the floor and what unit events only read: the points, the
tables, the clocks, the loop state. `Env` is the reading of the latter that a unit event works with. -/

namespace Sys2Proof.Machine

/-! ### Why a step may stop -/

/-- The faults of the machine. There are none: the spec names no condition that stops the part (SAFE). -/
inductive Fault where
deriving DecidableEq

/-- The refusals of the machine. -/
inductive Refusal where
  /-- Raised by an arm of `exec` whose command has no meaning yet. No arm does (SAFE). -/
  | notModelled (mnemonic : String)
deriving DecidableEq, Repr

/-! ### The Loop Interface -/

/-- The six reasons of the capture record and NONE (section 1.6), in the coding of view 39. -/
inductive CaptureReason where
  | none
  | badCell
  | orphan
  | badKind
  | denied
  | retryExhausted
  | unmappedPoll
deriving DecidableEq, Repr

/-- The capture record (section 1.6, R23). -/
structure Capture where
  reason : CaptureReason
  dest : Byte
  source : Byte
  kind : Byte
  func : Byte
  time : Word
  further : Nat
deriving DecidableEq, Repr

/-- A cell of the insertion queue (section 1.5). The own node number and the check are added at insertion (R10). -/
structure QCell where
  dest : Byte
  kind : Byte
  func : Byte
  tag : Byte
  value : Word
  qual : Byte
  joined : Nat
deriving DecidableEq, Repr

/-- The insertion queue: its four classes, each oldest first, its lost flag (R19) and its CONGESTED condition (R21). -/
structure Queue where
  trip : List QCell
  command : List QCell
  reply : List QCell
  event : List QCell
  lost : Bool
  congested : Bool
deriving DecidableEq, Repr

/-- What the Loop Interface keeps of the loop (R3, R14–R16). `silence` is the silence timer: `none` while it is stopped,
and while it runs the silence time in ms that its last restart loaded (R84). `silenceAlert` is the loop silence condition of
R223. -/
structure LoopState where
  node : Byte
  up : Bool
  goodRun : Nat
  badRun : Nat
  silence : Option Nat
  silenceAlert : Bool
deriving DecidableEq, Repr

/-- The output lines: BYP# (high while the part carries the loop), the two permits (high = firing permitted), and whether
ALERT# is driven low. -/
structure Pins where
  byp : Bool
  permits : Vector Bool 2
  alertLow : Bool
deriving DecidableEq, Repr

/-! ### The Point Store -/

inductive Quality where
  | none
  | fresh
  | held
  | stale
deriving DecidableEq, Repr

/-- A point record (R24). -/
structure Point where
  value : Int
  quality : Quality
  clamped : Bool
  suspect : Bool
  age : Nat
deriving DecidableEq, Repr

/-- A poll list entry (section 2.5). `offered` says that its POLL cell has been merged or admitted (R42). -/
structure Poll where
  point : Fin 192
  made : Nat
  requesters : List (Byte × Byte)
  offered : Bool
deriving DecidableEq, Repr

/-- A voted value and its status (R40). -/
structure Vote where
  status : VoteStatus
  value : Option Int
deriving DecidableEq, Repr

/-! ### The Interlock Unit -/

/-- A retry list entry (section 3.5). -/
structure Retry where
  source : Byte
  dest : Byte
  func : Byte
  count : Nat
  last : Nat
deriving DecidableEq, Repr

/-! ### The Table Bank -/

/-- A bank of the twelve tables (R65): its fields that are not 0, by their place in the order of R75, rising. -/
abbrev Bank := List (Nat × Word)

/-- The Table Bank (section 4). `check` is the activation state: `none` is IDLE, and CHECKING notes the node and the tag of
the ACTIVATE (R76). -/
structure TableBank where
  active : Bank
  shadow : Bank
  present : Bool
  cursorNumber : Nat
  cursorIndex : Nat
  check : Option (Byte × Byte)
deriving DecidableEq, Repr

/-! ### Units -/

/-- The states of a unit (R89). -/
inductive UnitState where
  | empty
  | loaded
  | running
  | held
  | manual
  | done
  | discharging
  | receiving
  | tripped
deriving DecidableEq, Repr

/-- The hold reasons (R89). -/
inductive HoldReason where
  | station
  | loop
  | point
  | dose
  | restart
  | programGone
deriving DecidableEq, Repr

/-- The states that HELD and MANUAL may return to (R88). -/
inductive ResumeState where
  | running
  | loaded
  | done
deriving DecidableEq, Repr

/-- A unit's place in its program, with its copies of the current item and of the program entry (R85). -/
structure Position where
  program : Nat
  item : Nat
  fields : List Int
  entry : List Int
deriving DecidableEq, Repr

/-- The common part of a unit context (R88). -/
structure Ctx where
  state : UnitState
  reason : Option HoldReason
  resume : Option ResumeState
  batch : Option Nat
  pos : Option Position
  noted : Option Nat
deriving DecidableEq, Repr

/-- A unit by its kind and number. -/
inductive PlantUnit where
  | vessel (v : Fin 6)
  | box (b : Fin 12)
  | kiln (k : Fin 2)
deriving DecidableEq, Repr

/-- The decision of a steep vessel's output record (R113); for the drain valve OPEN counts as `on`. -/
inductive Decision where
  | none
  | on
  | off
deriving DecidableEq, Repr

structure Output where
  decision : Decision
  pending : Bool
deriving DecidableEq, Repr

/-- The fill state (R113), and the peat state (R174) with FEEDING for FILLING. -/
inductive FillState where
  | none
  | notBegun
  | filling
  | complete
deriving DecidableEq, Repr

/-- A steep vessel's context (R113). Outputs: 0 chiller, 1 heater, 2 extraction fan, 3 aeration blower, 4 drain valve. -/
structure Vessel where
  ctx : Ctx
  timer : Nat
  note : Bool
  fill : FillState
  outs : Vector Output 5
  endCo2 : Option (Int × Int)
  origin : Nat
deriving DecidableEq, Repr

/-- A germination box's context (R151). -/
structure Box where
  ctx : Ctx
  dayClock : Nat
  turnClock : Nat
  fan : Option Int
  fanPending : Bool
  origin : Nat
deriving DecidableEq, Repr

/-- A kiln's output record (R174): the last decided value, `none` for NONE, and its pending flag. -/
structure SetRecord where
  value : Option Int
  pending : Bool
deriving DecidableEq, Repr

/-- The causes of a trip (R189). -/
inductive TripCause where
  | tonHigh
  | tonLost
  | flameLost
  | loop
deriving DecidableEq, Repr

structure TripRecord where
  cause : TripCause
  phase : Nat
  time : Word
  timeUnset : Bool
  ton : Int
deriving DecidableEq, Repr

/-- A kiln's context (R174). The number of values the history holds is the length of `history`. -/
structure Kiln where
  ctx : Ctx
  timer : Nat
  setpoint : Int
  burner : SetRecord
  fan : SetRecord
  dry : Nat
  water : Nat
  noBasis : Bool
  removed : Nat
  carry : Nat
  moisture : Nat
  filter : Option Int
  history : List Int
  cure : Nat
  peat : FillState
  peatBase : Nat
  peatDelivered : Nat
  flame : Nat
  trip : Option TripRecord
  skipped : Nat
  skipNote : Bool
  noPickup : Bool
  origin : Nat
deriving DecidableEq, Repr

/-! ### Dosing channels -/

inductive ChannelState where
  | idle
  | active
  | paused
  | done
  | stopped
deriving DecidableEq, Repr

inductive ValveDecision where
  | none
  | closed
  | opened
deriving DecidableEq, Repr

/-- A dosing channel's record (R131). -/
structure Channel where
  state : ChannelState
  masked : Bool
  base : Nat
  current : Nat
  tc : Bool
  overrun : Nat
  lastReading : Option Nat
  closeTime : Option Nat
  demand : Bool
  valve : ValveDecision
  valvePending : Bool
  note : Bool
deriving DecidableEq, Repr

/-! ### The Turner Arbiter -/

/-- A turn request (R157, R158). -/
structure Request where
  box : Fin 12
  urgent : Bool
  number : Nat
deriving DecidableEq, Repr

inductive ArbiterState where
  | idle
  | parking
  | preparing
  | dispatched
  | turning
  | releasing
  | disabled
deriving DecidableEq, Repr

inductive TurnResult where
  | none
  | complete
  | incomplete
deriving DecidableEq, Repr

/-- A command to the turner (R148). -/
inductive TurnerCommand where
  | goto (position : Int)
  | turn
  | stop
  | park
deriving DecidableEq, Repr

/-- The Turner Arbiter (R158). `waiting` holds the turner commands that wait to be offered, in order (R164). -/
structure Arbiter where
  state : ArbiterState
  queue : List Request
  grant : Option (Fin 12)
  faults : Nat
  result : TurnResult
  timer : Option Nat
  parked : Bool
  parkTimer : Option Nat
  counter : Nat
  parkOffered : Bool
  waiting : List TurnerCommand
deriving DecidableEq, Repr

/-! ### Batches and the Excise Register -/

inductive TransferPhase where
  | pendingSample
  | inTransit
deriving DecidableEq, Repr

/-- A transfer record (R101); `dest` is `none` for STORE. `order` is the model's own: the order of acceptance, by which
R103 attempts waiting transfers. -/
structure Transfer where
  dest : Option PlantUnit
  phase : TransferPhase
  startTime : Word
  startUnset : Bool
  startSecond : Nat
  voteWait : Option Nat
  waitExpired : Bool
  sample : Option Nat
  overdue : Bool
  order : Nat
deriving DecidableEq, Repr

/-- A mass and a moisture figure, each present once a sample has given it a value (R99). -/
structure Figures where
  mass : Option Int
  moisture : Option Int
deriving DecidableEq, Repr

/-- A batch record (R99). -/
structure Batch where
  id : Nat
  location : PlantUnit
  steepIn : Int
  steepOut : Figures
  kilnIn : Figures
  kilnOut : Figures
  samples : List Nat
  exciseHold : Bool
  unverified : Bool
  inTransit : Bool
  transfer : Option Transfer
deriving DecidableEq, Repr

inductive RegisterState where
  | unset
  | checking
  | ready
  | faulted
deriving DecidableEq, Repr

/-- A reservation (R199). -/
structure Reservation where
  number : Nat
  batch : Nat
  unit : Nat
  mass : Int
  massStatus : VoteStatus
  moisture : Int
  moistureStatus : VoteStatus
deriving DecidableEq, Repr

/-- The Excise Register (R197). Its high flag is derived (Flags.lean). -/
structure Register where
  state : RegisterState
  retained : Retained
  reservations : List Reservation
  firstFailed : Option Nat
deriving DecidableEq, Repr

/-! ### The state -/

/-- What unit events change. `acceptCount` numbers the accepted transfers and `freeCount` the free values drawn; both are
the model's own. -/
structure Floor where
  queue : Queue
  eventSeq : Byte
  vessels : Vector Vessel 6
  channels : Vector Channel 12
  boxes : Vector Box 12
  arbiter : Arbiter
  kilns : Vector Kiln 2
  batches : Vector (Option Batch) 20
  register : Register
  acceptCount : Nat
  freeCount : Nat
deriving DecidableEq, Repr

/-- What a unit event reads and does not change: the active bank, whether the part is in operating mode, the points, the
second of the time base, the process clock with its TIME_UNSET mark, and whether the loop is UP. -/
structure Env where
  bank : Bank
  operating : Bool
  points : Vector Point 192
  second : Nat
  time : Word
  timeUnset : Bool
  loopUp : Bool
deriving DecidableEq, Repr

/-- The state of the part. `inReset` is set while RESET# is low or the part is unpowered. `outPort` is the slot that left
the out-port last (`none`: no slot yet, the out-port sends EMPTY slots, R13). `due` lists the steps that have fallen due at
the current second and are not yet taken (the model's own, log entry 2). `pending` is the queue of waiting commands. -/
structure State where
  pending : List Instr
  due : List Instr
  inReset : Bool
  pins : Pins
  outPort : Option Slot
  loop : LoopState
  capture : Capture
  second : Nat
  time : Word
  timeUnset : Bool
  points : Vector Point 192
  polls : Vector (Option Poll) 4
  retries : Vector (Option Retry) 8
  tables : TableBank
  floor : Floor
deriving DecidableEq, Repr

/-! ### Power-on values -/

/-- The empty capture record (R23). -/
def Capture.cleared : Capture := ⟨.none, 0#8, 0#8, 0#8, 0#8, 0#32, 0⟩

/-- R22: the queue after power-on reset. -/
def Queue.initial : Queue := ⟨[], [], [], [], false, false⟩

/-- R46: a point after power-on reset. -/
def Point.initial : Point := ⟨0, .none, false, false, 0⟩

/-- R110: a unit context after power-on reset. -/
def Ctx.initial : Ctx := ⟨.empty, none, none, none, none, none⟩

/-- R129; the evaluation origin is the second of the reset, which is 0 (log entry 8). -/
def Vessel.initial : Vessel := ⟨.initial, 0, false, .none, .replicate 5 ⟨.none, false⟩, none, 0⟩

/-- R170. -/
def Box.initial : Box := ⟨.initial, 0, 0, none, false, 0⟩

/-- R194. -/
def Kiln.initial : Kiln where
  ctx := .initial
  timer := 0
  setpoint := 0
  burner := ⟨none, false⟩
  fan := ⟨none, false⟩
  dry := 0
  water := 0
  noBasis := false
  removed := 0
  carry := 0
  moisture := 0
  filter := none
  history := []
  cure := 0
  peat := .none
  peatBase := 0
  peatDelivered := 0
  flame := 0
  trip := none
  skipped := 0
  skipNote := false
  noPickup := false
  origin := 0

/-- R146: a channel after power-on reset. -/
def Channel.initial : Channel where
  state := .idle
  masked := true
  base := 0
  current := 0
  tc := false
  overrun := 0
  lastReading := none
  closeTime := none
  demand := false
  valve := .none
  valvePending := false
  note := false

/-- R170: the arbiter after power-on reset. -/
def Arbiter.initial : Arbiter where
  state := .idle
  queue := []
  grant := none
  faults := 0
  result := .none
  timer := none
  parked := false
  parkTimer := none
  counter := 0
  parkOffered := false
  waiting := []

/-- R207, retention lost: retained memory cleared. The valid mark is set at the end of the clearing (log entry 24). -/
def retainedCleared : Retained := ⟨[], 0, 0xFFFF#16, false, true⟩

/-- R207, retention lost: the register is UNSET. -/
def Register.unsetState : Register := ⟨.unset, retainedCleared, [], none⟩

/-- R87: the Table Bank after power-on reset. -/
def TableBank.initial : TableBank := ⟨[], [], false, 0, 0, none⟩

/-- The part at the end of power-on reset (section 1.7 and the reset section of every chapter), with its node number and
the register as R207 leaves it. The lines are as R13, R188 and R223 give them, except that `alertLow` is driven by
`Flags.lean` where the register calls for it. -/
def State.powerOn (node : Byte) (register : Register) (pending : List Instr) : State where
  pending := pending
  due := []
  inReset := false
  pins := ⟨true, .replicate 2 false, false⟩
  outPort := none
  loop := ⟨node, false, 0, 0, none, false⟩
  capture := .cleared
  second := 0
  time := 0#32
  timeUnset := true
  points := .replicate 192 .initial
  polls := .replicate 4 none
  retries := .replicate 8 none
  tables := .initial
  floor :=
    { queue := .initial
      eventSeq := 0#8
      vessels := .replicate 6 .initial
      channels := .replicate 12 .initial
      boxes := .replicate 12 .initial
      arbiter := .initial
      kilns := .replicate 2 .initial
      batches := .replicate 20 none
      register := register
      acceptCount := 0
      freeCount := 0 }

/-- The machine right after reset, with nothing in its queue. The spec gives the straps and the retention indication as
inputs; this is the reset of a part strapped as `Config.resetStraps` says, with retention lost (log entry 7). -/
def State.reset : State := State.powerOn Config.resetStraps .unsetState []

end Sys2Proof.Machine
end

