-- ==== Sys2Proof/Machine/Ops.lean ====
section
/-! DEFINITION. The named operations that every block uses: vectors, the banks and their check code, points and votes, the
insertion queue, events, replies and the capture record. -/

namespace Sys2Proof.Machine

/-! ### Vectors and indices -/

/-- `v` with its entry `i` changed by `f`. -/
def upd {α : Type} {n : Nat} (v : Vector α n) (i : Fin n) (f : α → α) : Vector α n := v.set i (f v[i])

/-- The entry of an `n`-place block that the signed field value `i` names, if it names one. -/
def indexOf (n : Nat) (i : Int) : Option (Fin n) :=
  if h : 0 ≤ i ∧ i.toNat < n then some ⟨i.toNat, h.2⟩ else none

/-- `i` clamped to [lo, hi] (spec/00_scope.md, "Arithmetic"). -/
def clamp (lo hi i : Int) : Int := if i < lo then lo else if hi < i then hi else i

/-- The number of the first entry of a vector that `p` holds of. -/
def firstIndex {α : Type} {n : Nat} (v : Vector α n) (p : α → Bool) : Option (Fin n) :=
  (List.finRange n).find? fun i => p v[i]

/-! ### Banks (R65, R66) -/

/-- The number of entries of a table (R66). -/
def tableEntries : Nat → Nat
  | 0 => 1
  | 1 => 256
  | 2 => 192
  | 3 => 16
  | 4 => 8
  | 5 => 64
  | 6 => 21
  | 7 => 12
  | 8 => 136
  | 9 => 72
  | 10 => 36
  | 11 => 96
  | _ => 0

/-- The number of fields of each entry of a table (R66). -/
def tableFields : Nat → Nat
  | 0 => 15
  | 1 => 5
  | 2 => 7
  | 3 => 4
  | 4 => 7
  | 5 => 11
  | 6 => 16
  | 7 => 8
  | 8 => 11
  | 9 => 8
  | 10 => 11
  | 11 => 1
  | _ => 0

/-- The place of a table's first field when the fields of all tables are counted in the order of R75. -/
def tableBase : Nat → Nat
  | 0 => 0
  | t + 1 => tableBase t + tableEntries t * tableFields t

/-- The place of field `i` of entry `e` of table `t`. -/
def flatIndex (t e i : Nat) : Nat := tableBase t + e * tableFields t + i

/-- The 32 bits at a place of a bank; a field not listed is 0 (R65: a field that has not been written holds 0). -/
def Bank.read : Bank → Nat → Word
  | [], _ => 0#32
  | (k, v) :: r, a => if k = a then v else Bank.read r a

/-- Writes a place of a bank, keeping the canonical form: places rising, no field of value 0 listed. -/
def Bank.write : Bank → Nat → Word → Bank
  | [], a, v => if v = 0#32 then [] else [(a, v)]
  | (k, w) :: r, a, v =>
    if a < k then (if v = 0#32 then (k, w) :: r else (a, v) :: (k, w) :: r)
    else if a = k then (if v = 0#32 then r else (a, v) :: r)
    else (k, w) :: Bank.write r a v

/-- Every place of the bank is at least `lo`, the places rise, and no listed field is 0. -/
def Bank.wfFrom : Nat → Bank → Bool
  | _, [] => true
  | lo, (k, v) :: r => lo ≤ k && v != 0#32 && Bank.wfFrom (k + 1) r

/-- The canonical form of a bank. Equal banks are equal lists. -/
def Bank.wf (b : Bank) : Bool := Bank.wfFrom 0 b

/-- Field `i` of entry `e` of table `t`, read as a signed number (R65). -/
def Bank.field (b : Bank) (t e i : Nat) : Int := (b.read (flatIndex t e i)).toInt

/-- The same field, taken as unsigned. -/
def Bank.unsigned (b : Bank) (t e i : Nat) : Nat := (b.read (flatIndex t e i)).toNat

/-- The copy of an entry that R85 speaks of. -/
def Bank.entry (b : Bank) (t e : Nat) : List Int := (List.range (tableFields t)).map (b.field t e)

/-- Field `i` of the Unit Bindings entry of unit index `u`. -/
def Bank.binding (b : Bank) (u i : Nat) : Int := b.field 6 u i

/-- Whether unit index `u` is in service (R66, R88). -/
def Bank.inService (b : Bank) (u : Nat) : Bool := b.binding u 0 != 0

/-- EVAL_SECONDS, clamped to 10–600 (R67). -/
def Bank.evalSeconds (b : Bank) : Nat := (clamp 10 600 (b.field 0 0 7)).toNat

/-- SILENCE_MS, clamped to 5–1000 (R67). -/
def Bank.silenceMs (b : Bank) : Nat := (clamp 5 1000 (b.field 0 0 6)).toNat

/-! ### Check codes -/

/-- One bit of a CRC-16 with polynomial 1021h. -/
def crc16Bit (r : Crc16) : Crc16 := if r.msb then (r <<< 1) ^^^ 0x1021#16 else r <<< 1

/-- One byte of it, most significant bit first. -/
def crc16Byte (r : Crc16) (b : Byte) : Crc16 :=
  let r := r ^^^ (b.setWidth 16 <<< 8)
  crc16Bit (crc16Bit (crc16Bit (crc16Bit (crc16Bit (crc16Bit (crc16Bit (crc16Bit r)))))))

/-- The four bytes of a word, most significant first. -/
def wordBytes (w : Word) : List Byte :=
  [(w >>> 24).setWidth 8, (w >>> 16).setWidth 8, (w >>> 8).setWidth 8, w.setWidth 8]

/-- A CRC-16 over words, each taken as four bytes, most significant first (R75, R196). -/
def crc16Words (seed : Crc16) (ws : List Word) : Crc16 :=
  ws.foldl (fun r w => (wordBytes w).foldl crc16Byte r) seed

/-- One bit of the CRC-8 of R2, polynomial x^8 + x^2 + x + 1. -/
def crc8Bit (r : Byte) : Byte := if r.msb then (r <<< 1) ^^^ 0x07#8 else r <<< 1

def crc8Byte (r b : Byte) : Byte :=
  let r := r ^^^ b
  crc8Bit (crc8Bit (crc8Bit (crc8Bit (crc8Bit (crc8Bit (crc8Bit (crc8Bit r)))))))

/-- R2: the check over bytes, initial remainder 00h. -/
def crc8 (bs : List Byte) : Byte := bs.foldl crc8Byte 0#8

/-- The number of fields of tables 0 to 11 (R66). -/
def bankSize : Nat := 6459

/-- The place of the header's CHECK field, which R75 leaves out. -/
def checkPlace : Nat := 4

/-- The values of the places `a` to `a + n - 1` of a bank. -/
def Bank.values (b : Bank) (a n : Nat) : List Word := (List.range n).map fun i => b.read (a + i)

/-- R75: the check code of a bank, over every field but CHECK. -/
def Bank.checkCode (b : Bank) : Crc16 :=
  crc16Words 0xFFFF#16 (b.values 0 checkPlace ++ b.values (checkPlace + 1) (bankSize - checkPlace - 1))

/-! ### The reading of the state that a unit event works with -/

/-- What the floor's operations read of the state. -/
def State.env (s : State) : Env where
  bank := s.tables.active
  operating := s.tables.present
  points := s.points
  second := s.second
  time := s.time
  timeUnset := s.timeUnset
  loopUp := s.loop.up

/-- Runs a floor operation on a state. -/
def State.onFloor (s : State) (op : Env → Floor → Floor) : State := { s with floor := op s.env s.floor }

/-! ### Points and votes -/

/-- The record of the point that the field value `i` names (R35). A field out of 0–191 names no point and reads as a NONE
point; R78 keeps such fields out of the entries that are in use. -/
def Env.point (e : Env) (i : Int) : Point :=
  match indexOf 192 i with
  | some p => e.points[p]
  | none => .initial

/-- FRESH or HELD: the value may be used (R35). -/
def Point.usable (p : Point) : Bool := p.quality == .fresh || p.quality == .held

/-- A member of a vote is eligible (R37). -/
def Point.eligible (p : Point) : Bool := p.usable && !p.clamped && !p.suspect

/-- R37: two values agree within a tolerance. -/
def agree (tol a b : Int) : Bool := decide (a - b ≤ tol) && decide (b - a ≤ tol)

/-- The mean of two values, rounded toward negative infinity (R38, R39). -/
def meanDown (a b : Int) : Int := (a + b).fdiv 2

/-- The median of three values (R38). -/
def median (a b c : Int) : Int := max (min a b) (min (max a b) c)

/-- R38: the vote of three eligible members. -/
def voteThree (tol a b c : Int) : Vote :=
  match agree tol a b, agree tol a c, agree tol b c with
  | true, true, true => ⟨.agreed3, some (median a b c)⟩
  | true, true, false => ⟨.agreed2, some a⟩
  | true, false, true => ⟨.agreed2, some b⟩
  | false, true, true => ⟨.agreed2, some c⟩
  | true, false, false => ⟨.agreed2, some (meanDown a b)⟩
  | false, true, false => ⟨.agreed2, some (meanDown a c)⟩
  | false, false, true => ⟨.agreed2, some (meanDown b c)⟩
  | false, false, false => ⟨.disagree, none⟩

/-- R38, R39: the vote of the values of the eligible members. -/
def voteValues (tol : Int) : List Int → Vote
  | [a, b, c] => voteThree tol a b c
  | [a, b] => if agree tol a b then ⟨.agreed2, some (meanDown a b)⟩ else ⟨.disagree, none⟩
  | _ => ⟨.missing, none⟩

/-- R36–R40: the vote of group `g` of the active bank, from the records as they stand. -/
def Env.vote (e : Env) (g : Nat) : Vote :=
  let members := [e.point (e.bank.field 3 g 0), e.point (e.bank.field 3 g 1), e.point (e.bank.field 3 g 2)]
  let tol := max 0 (e.bank.field 3 g 3)
  voteValues tol ((members.filter Point.eligible).map Point.value)

/-- AGREED3 or AGREED2. -/
def VoteStatus.agreed : VoteStatus → Bool
  | .agreed3 => true
  | .agreed2 => true
  | .disagree => false
  | .missing => false

/-! ### The insertion queue (section 1.5) -/

/-- The cells of the three classes that share 28 places. -/
def Queue.shared (q : Queue) : Nat := q.command.length + q.reply.length + q.event.length

/-- The number of cells in all four classes (R17). -/
def Queue.depth (q : Queue) : Nat := q.trip.length + q.shared

/-- R18: two cells have the same key. -/
def QCell.sameKey (a b : QCell) : Bool := a.dest == b.dest && a.kind == b.kind && a.func == b.func

/-- R18: the queued cell of the offer's key takes the value and the tag of the offer. -/
def mergeCell (c : QCell) : List QCell → List QCell
  | [] => []
  | x :: r => if x.sameKey c then { x with value := c.value, tag := c.tag } :: r else x :: mergeCell c r

/-- R17–R19: an offer of the COMMAND class; the answer says whether it was merged or admitted. -/
def Queue.offerCommand (q : Queue) (c : QCell) : Queue × Bool :=
  if q.trip.any (·.sameKey c) then ({ q with trip := mergeCell c q.trip }, true)
  else if q.command.any (·.sameKey c) then ({ q with command := mergeCell c q.command }, true)
  else if q.command.length < 16 ∧ q.shared < 28 then ({ q with command := q.command ++ [c] }, true)
  else (q, false)

/-- R17, R18: an offer of the TRIP class. -/
def Queue.offerTrip (q : Queue) (c : QCell) : Queue :=
  if q.trip.any (·.sameKey c) then { q with trip := mergeCell c q.trip }
  else { q with command := q.command.filter (fun x => !x.sameKey c), trip := q.trip ++ [c] }

/-- R17, R19: an offer of the REPLY class; dropped if there is no room. -/
def Queue.offerReply (q : Queue) (c : QCell) : Queue :=
  if q.reply.length < 8 ∧ q.shared < 28 then { q with reply := q.reply ++ [c] } else q

/-- R17, R19, R222: an offer of the EVENT class. An admitted cell carries the lost flag in its qualifier and clears it; a
dropped one sets it. -/
def Queue.offerEvent (q : Queue) (c : QCell) : Queue :=
  if q.event.length < 8 ∧ q.shared < 28 then
    { q with event := q.event ++ [{ c with qual := if q.lost then c.qual + 128#8 else c.qual }], lost := false }
  else { q with lost := true }

/-- R20: the head of the queue, and the queue without it. -/
def Queue.pop (q : Queue) : Option (QCell × Queue) :=
  match q.trip, q.command, q.reply, q.event with
  | c :: r, _, _, _ => some (c, { q with trip := r })
  | [], c :: r, _, _ => some (c, { q with command := r })
  | [], [], c :: r, _ => some (c, { q with reply := r })
  | [], [], [], c :: r => some (c, { q with event := r })
  | [], [], [], [] => none

/-- R21: the queue holds a cell more than 2 seconds old. -/
def Queue.hasOld (q : Queue) (second : Nat) : Bool :=
  (q.trip ++ q.command ++ q.reply ++ q.event).any fun c => c.joined + 3 ≤ second

/-- R22: RESTART empties the queue. -/
def Queue.emptied (q : Queue) : Queue :=
  { q with trip := [], command := [], reply := [], event := [], lost := q.lost || !q.event.isEmpty, congested := false }

/-- A COMMAND cell of the part (kind 2). -/
def Env.commandCell (e : Env) (dest func : Byte) (tag : Nat) (value : Int) : QCell :=
  ⟨dest, 2#8, func, BitVec.ofNat 8 tag, Word.ofValue value, 0#8, e.second⟩

/-- Offers a COMMAND cell. -/
def offerCommand (c : QCell) (f : Floor) : Floor × Bool :=
  let r := f.queue.offerCommand c
  ({ f with queue := r.1 }, r.2)

/-- Offers a TRIP cell. -/
def offerTrip (c : QCell) (f : Floor) : Floor := { f with queue := f.queue.offerTrip c }

/-- R213: offers a REPLY with a value and a qualifier. -/
def offerReply (e : Env) (dest func tag : Byte) (value : Int) (qual : Nat) (f : Floor) : Floor :=
  { f with
    queue := f.queue.offerReply ⟨dest, 6#8, func, tag, Word.ofValue value, BitVec.ofNat 8 qual, e.second⟩ }

/-- R222: raises an event. In TRANSPARENT mode no event is raised (R11). -/
def raiseEvent (e : Env) (code index : Nat) (param : Int) (f : Floor) : Floor :=
  if e.operating then
    { f with
      eventSeq := f.eventSeq + 1#8
      queue := f.queue.offerEvent
        ⟨BitVec.ofInt 8 (e.bank.field 0 0 5), 7#8, BitVec.ofNat 8 code, f.eventSeq + 1#8, Word.ofValue param,
          BitVec.ofNat 8 index, e.second⟩ }
  else f

/-! ### The capture record (R23) -/

/-- R23: an offence is met. -/
def capture (reason : CaptureReason) (dest source kind func : Byte) (s : State) : State :=
  if s.capture.reason = .none then { s with capture := ⟨reason, dest, source, kind, func, s.time, s.capture.further⟩ }
  else { s with capture := { s.capture with further := min 65535 (s.capture.further + 1) } }

/-! ### Units -/

/-- The unit index of a unit (R88). -/
def PlantUnit.index : PlantUnit → Nat
  | .vessel v => v
  | .box b => 6 + b
  | .kiln k => 18 + k

/-- The unit of a unit index 0–19. -/
def unitOf (u : Nat) : Option PlantUnit :=
  if h : u < 6 then some (.vessel ⟨u, h⟩)
  else if h : u < 18 then some (.box ⟨u - 6, by omega⟩)
  else if h : u < 20 then some (.kiln ⟨u - 18, by omega⟩)
  else none

/-- The common context of a unit. -/
def Floor.ctx (f : Floor) : PlantUnit → Ctx
  | .vessel v => f.vessels[v].ctx
  | .box b => f.boxes[b].ctx
  | .kiln k => f.kilns[k].ctx

/-- Changes a vessel's context. -/
def Floor.vessel (f : Floor) (v : Fin 6) (g : Vessel → Vessel) : Floor := { f with vessels := upd f.vessels v g }

def Floor.box (f : Floor) (b : Fin 12) (g : Box → Box) : Floor := { f with boxes := upd f.boxes b g }

def Floor.kiln (f : Floor) (k : Fin 2) (g : Kiln → Kiln) : Floor := { f with kilns := upd f.kilns k g }

def Floor.channel (f : Floor) (c : Fin 12) (g : Channel → Channel) : Floor := { f with channels := upd f.channels c g }

/-- Changes the common context of a unit. -/
def Floor.updCtx (f : Floor) (u : PlantUnit) (g : Ctx → Ctx) : Floor :=
  match u with
  | .vessel v => f.vessel v fun x => { x with ctx := g x.ctx }
  | .box b => f.box b fun x => { x with ctx := g x.ctx }
  | .kiln k => f.kiln k fun x => { x with ctx := g x.ctx }

/-- Enters a state in which no hold reason, resume state or noted item is present. -/
def Ctx.enter (c : Ctx) (st : UnitState) : Ctx := { c with state := st, reason := none, resume := none, noted := none }

/-- Enters HELD for a reason, with a resume state (R90). -/
def Ctx.enterHeld (c : Ctx) (r : HoldReason) (back : ResumeState) : Ctx :=
  { c with state := .held, reason := some r, resume := some back }

/-- The copies of a unit's current item and program entry, as field lists; empty while it holds no position. -/
def Ctx.fields (c : Ctx) : List Int := match c.pos with | some p => p.fields | none => []

def Ctx.entry (c : Ctx) : List Int := match c.pos with | some p => p.entry | none => []

def Ctx.item (c : Ctx) : Nat := match c.pos with | some p => p.item | none => 0

/-- Field `i` of a copied entry. -/
def copied (l : List Int) (i : Nat) : Int := l.getD i 0

/-- HELD(RESTART): the unit decides and offers nothing (R122, R153, R194). -/
def Ctx.heldRestart (c : Ctx) : Bool := c.state == .held && c.reason == some .restart

/-- Changes a batch record. -/
def Floor.batch (f : Floor) (b : Fin 20) (g : Batch → Batch) : Floor :=
  { f with batches := upd f.batches b fun x => x.map g }

/-- The slot of the batch with an id, if such a batch is present. -/
def Floor.findBatch (f : Floor) (id : Nat) : Option (Fin 20) :=
  firstIndex f.batches fun x => match x with | some b => b.id == id | none => false

end Sys2Proof.Machine
end

