-- ==== Sys2Proof/Machine/Operands.lean ====
section
/-! DEFINITION. The operand forms: slots and their classes, reply statuses and the codes of every state, node windows and
translation, actuator references, and the fields of loaded entries as the manual says they are used (clamped, exchanged, or
with their codes interpreted). -/

namespace Sys2Proof.Machine

/-! ### Slots (section 1.1) -/

/-- Bytes 1 to 10 of a slot. -/
def slotBody (s : Slot) : List Byte :=
  [s.dest, s.source, s.kind, s.func, s.tag] ++ wordBytes s.value ++ [s.qual]

/-- The check that R2 defines over a slot's bytes 1 to 10. -/
def slotCheck (s : Slot) : Byte := crc8 (slotBody s)

/-- The slot with a fresh check (R2). -/
def Slot.fresh (s : Slot) : Slot := { s with check := slotCheck s }

/-- The EMPTY slot that the part makes: 00h in every byte (R1). -/
def emptySlotBytes : Slot := ⟨0#8, 0#8, 0#8, 0#8, 0#8, 0#8, 0#32, 0#8, 0#8⟩

/-- FULL. -/
def codeFull : Byte := 0x5A#8

/-- FULL_MARKED. -/
def codeMarked : Byte := 0xA5#8

inductive SlotClass where
  | empty
  | good
  | bad
deriving DecidableEq, Repr

/-- R1: the class of an arriving slot. -/
def classify (s : Slot) : SlotClass :=
  if s.code = 0#8 then .empty
  else if (s.code = codeFull ∨ s.code = codeMarked) ∧ s.check = slotCheck s ∧ s.dest ≠ 0#8 ∧ s.source ≠ 0#8 ∧
      s.source ≠ 255#8 then .good
  else .bad

/-- The good FULL cell of kind MGMT that brings a request for function `func` to node `node` (R6). -/
def mgmtSlot (node func : Byte) (r : Req) : Slot :=
  Slot.fresh ⟨codeFull, node, r.source, 5#8, func, r.tag, r.value, r.qual, 0#8⟩

/-! ### Codes -/

/-- The reply statuses (R213). -/
inductive Status where
  | ok
  | busy
  | denied
  | badFunction
  | badArgument
  | notActive
  | refused
  | retry
  | clamped
  | hold
  | full
  | wait
  | badName
  | badCheck
  | oldGeneration
  | dupKey
  | badWindow
  | badReference
  | unitBusy
deriving DecidableEq, Repr

/-- R213. -/
def Status.code : Status → Nat
  | .ok => 0
  | .busy => 1
  | .denied => 2
  | .badFunction => 3
  | .badArgument => 4
  | .notActive => 5
  | .refused => 6
  | .retry => 7
  | .clamped => 8
  | .hold => 9
  | .full => 10
  | .wait => 11
  | .badName => 16
  | .badCheck => 17
  | .oldGeneration => 18
  | .dupKey => 19
  | .badWindow => 20
  | .badReference => 21
  | .unitBusy => 22

/-- R89. -/
def UnitState.code : UnitState → Nat
  | .empty => 0
  | .loaded => 1
  | .running => 2
  | .held => 3
  | .manual => 4
  | .done => 5
  | .discharging => 6
  | .receiving => 7
  | .tripped => 8

/-- R89. -/
def HoldReason.code : HoldReason → Nat
  | .station => 1
  | .loop => 2
  | .point => 3
  | .dose => 4
  | .restart => 5
  | .programGone => 6

/-- The state that a resume state names. -/
def ResumeState.state : ResumeState → UnitState
  | .running => .running
  | .loaded => .loaded
  | .done => .done

/-- R217. -/
def Quality.code : Quality → Nat
  | .none => 0
  | .fresh => 1
  | .held => 2
  | .stale => 3

/-- R195, field 8. -/
def voteCode : VoteStatus → Nat
  | .agreed3 => 1
  | .agreed2 => 2
  | .disagree => 3
  | .missing => 4

/-- R195, field 2. -/
def kindCode : SampleKind → Nat
  | .steepOut => 1
  | .kilnIn => 2
  | .kilnOut => 3
  | .spot => 4
  | .void => 5

/-- R189. -/
def TripCause.code : TripCause → Nat
  | .tonHigh => 1
  | .tonLost => 2
  | .flameLost => 3
  | .loop => 4

/-- R197. -/
def RegisterState.code : RegisterState → Nat
  | .unset => 0
  | .checking => 1
  | .ready => 2
  | .faulted => 3

/-- R131. -/
def ChannelState.code : ChannelState → Nat
  | .idle => 0
  | .active => 1
  | .paused => 2
  | .done => 3
  | .stopped => 4

/-- R217, R218. -/
def FillState.code : FillState → Nat
  | .none => 0
  | .notBegun => 1
  | .filling => 2
  | .complete => 3

/-- R218. -/
def ArbiterState.code : ArbiterState → Nat
  | .idle => 0
  | .parking => 1
  | .preparing => 2
  | .dispatched => 3
  | .turning => 4
  | .releasing => 5
  | .disabled => 6

/-- R218. -/
def TurnResult.code : TurnResult → Nat
  | .none => 0
  | .complete => 1
  | .incomplete => 2

/-- R219. -/
def CaptureReason.code : CaptureReason → Nat
  | .none => 0
  | .badCell => 1
  | .orphan => 2
  | .badKind => 3
  | .denied => 4
  | .retryExhausted => 5
  | .unmappedPoll => 6

/-! ### Node windows (R47–R50) -/

/-- The class of a node (R49); `none` is NONE. -/
inductive NodeClass where
  | none
  | station
  | officer
  | probe
  | actuator
  | turner
deriving DecidableEq, Repr

/-- The class codes of R47. A code that is none of the five gives NONE; R48 keeps it out of an in-use window. -/
def classOfCode (c : Int) : NodeClass :=
  if c = 1 then .station
  else if c = 2 then .officer
  else if c = 3 then .probe
  else if c = 4 then .actuator
  else if c = 5 then .turner
  else .none

/-- Window `w` is in use and covers node `n` (R47). -/
def Bank.windowCovers (b : Bank) (n : Byte) (w : Nat) : Bool :=
  b.field 4 w 0 != 0 && decide (b.field 4 w 1 ≤ n.toNat) && decide ((n.toNat : Int) < b.field 4 w 1 + b.field 4 w 2)

/-- The in-use window that covers a node. -/
def Bank.windowOf (b : Bank) (n : Byte) : Option Nat := (List.range 8).find? (b.windowCovers n)

/-- R49. -/
def Bank.nodeClass (b : Bank) (n : Byte) : NodeClass :=
  match b.windowOf n with
  | some w => classOfCode (b.field 4 w 3)
  | none => .none

/-- R50: the destination that a cell leaving to `n` is addressed to. R9 and R50 translate in a window of any class, while the last
sentence of R47 would leave out those that are neither ACTUATOR nor TURNER; following R9 and R50 is the model's choice (log entry
42). -/
def Bank.translate (b : Bank) (n : Byte) : Byte :=
  match b.windowOf n with
  | some w =>
    if b.field 4 w 4 ≠ 0 then BitVec.ofInt 8 (b.field 4 w 5 + (n.toNat - b.field 4 w 1)) else n
  | none => n

/-- The retry limit of window `w`, clamped to 0–255 (R47). -/
def Bank.retryLimit (b : Bank) (w : Nat) : Nat := (clamp 0 255 (b.field 4 w 6)).toNat

/-! ### Actuator references (R111) -/

/-- The node and the function that an actuator reference names; `none` for 0. -/
def actuatorRef (r : Int) : Option (Byte × Byte) :=
  if r = 0 then none else some (BitVec.ofInt 8 (r / 256), BitVec.ofInt 8 (r % 256))

/-! ### Points (R25) -/

/-- The kind of a point is TOTAL. -/
def Bank.isTotal (b : Bank) (p : Nat) : Bool := b.field 2 p 0 == 1

def Bank.gain (b : Bank) (p : Nat) : Int := clamp (-32768) 32767 (b.field 2 p 1)

/-- The lower end of the LEVEL range, with Lo and Hi exchanged where Lo exceeds Hi. -/
def Bank.lo (b : Bank) (p : Nat) : Int := min (b.field 2 p 3) (b.field 2 p 4)

def Bank.hi (b : Bank) (p : Nat) : Int := max (b.field 2 p 3) (b.field 2 p 4)

def Bank.staleTime (b : Bank) (p : Nat) : Nat := (clamp 1 3600 (b.field 2 p 5)).toNat

def Bank.holdTime (b : Bank) (p : Nat) : Nat := (clamp 0 3600 (b.field 2 p 6)).toNat

/-! ### Programs (R69) -/

/-- The table, the greatest number of items and the first program entry of a unit's kind of program. -/
def programTable : PlantUnit → Nat × Nat × Nat
  | .vessel _ => (8, 16, 128)
  | .box _ => (9, 8, 64)
  | .kiln _ => (10, 8, 32)

/-- The number of programs of a kind. -/
def programCount : PlantUnit → Nat
  | .vessel _ => 8
  | .box _ => 8
  | .kiln _ => 4

/-- The length of program `p` of a unit's kind in a bank (R69). -/
def Bank.programLength (b : Bank) (u : PlantUnit) (p : Nat) : Int :=
  b.field (programTable u).1 ((programTable u).2.2 + p) 0

/-- The position of item `i` of program `p`, with both copies taken from the bank (R85). -/
def Bank.position (b : Bank) (u : PlantUnit) (p i : Nat) : Position where
  program := p
  item := i
  fields := b.entry (programTable u).1 (p * (programTable u).2.1 + i)
  entry := b.entry (programTable u).1 ((programTable u).2.2 + p)

/-! ### Steep steps (R112); `l` is the copied entry -/

inductive StepKind where
  | fill
  | wet
  | drain
  | airRest
deriving DecidableEq, Repr

def stepKind (l : List Int) : StepKind :=
  if copied l 0 = 0 then .fill else if copied l 0 = 1 then .wet else if copied l 0 = 2 then .drain else .airRest

/-- The maximum time in seconds. -/
def stepMaxTime (l : List Int) : Nat := (clamp 1 10080 (copied l 2)).toNat * 60

/-- The minimum time in seconds; where the clamped minimum exceeds the clamped maximum, the maximum is used as the minimum. -/
def stepMinTime (l : List Int) : Nat := (min (clamp 0 10080 (copied l 1)) (clamp 1 10080 (copied l 2))).toNat * 60

def stepTarget (l : List Int) : Int := copied l 3

def stepBand (l : List Int) : Int := max 0 (copied l 4)

def stepCo2Limit (l : List Int) : Int := copied l 5

def stepCo2Hysteresis (l : List Int) : Int := max 0 (copied l 6)

def stepAeration (l : List Int) : Bool := copied l 7 != 0

def stepFillVolume (l : List Int) : Int := copied l 8

def stepDrainLevel (l : List Int) : Int := copied l 9

def stepMoistureTarget (l : List Int) : Int := copied l 10

/-! ### Germination days (R149) and program entries (R150) -/

def dayTarget (l : List Int) : Int := copied l 0

def dayGain (l : List Int) : Int := clamp 0 50 (copied l 1)

def dayMaxAir (l : List Int) : Int := clamp 0 100 (copied l 3)

/-- The minimum air; where it exceeds the maximum air, the maximum is used as the minimum. -/
def dayMinAir (l : List Int) : Int := min (clamp 0 100 (copied l 2)) (dayMaxAir l)

/-- The turn interval in minutes; 0 = no turning. -/
def dayInterval (l : List Int) : Nat := (clamp 0 10080 (copied l 4)).toNat

def daySpray (l : List Int) : Int := copied l 5

def dayLength (l : List Int) : Nat := (clamp 1 10080 (copied l 6)).toNat

def entryUrgentDelta (l : List Int) : Int := copied l 1

def entryMinGap (l : List Int) : Nat := (clamp 0 10080 (copied l 2)).toNat

def entryTurnAirMax (l : List Int) : Int := clamp 0 100 (copied l 3)

def entryPrepTimeout (l : List Int) : Nat := (clamp 1 3600 (copied l 4)).toNat

def entryStartTimeout (l : List Int) : Nat := (clamp 1 3600 (copied l 5)).toNat

def entryTurnTimeout (l : List Int) : Nat := (clamp 1 240 (copied l 6)).toNat

def entrySprayTrail (l : List Int) : Nat := (clamp 0 3600 (copied l 7)).toNat

/-! ### Kiln phases (R172) and program entries (R173) -/

inductive PhaseKind where
  | freeDry
  | forcedDry
  | cure
  | cool
deriving DecidableEq, Repr

def phaseKind (l : List Int) : PhaseKind :=
  if copied l 0 = 0 then .freeDry else if copied l 0 = 1 then .forcedDry else if copied l 0 = 2 then .cure else .cool

def phaseStart (l : List Int) : Int := copied l 1

def phaseEnd (l : List Int) : Int := copied l 2

def phaseRamp (l : List Int) : Int := copied l 3

def phaseFan (l : List Int) : Int := clamp 0 100 (copied l 4)

def phaseMaxTime (l : List Int) : Nat := (clamp 1 10080 (copied l 5)).toNat * 60

def phaseExit (l : List Int) : Int := copied l 6

def phasePeat (l : List Int) : Int := copied l 7

def phasePeatMaxTon (l : List Int) : Int := copied l 8

def entryTripTemp (l : List Int) : Int := copied l 1

/-- R173: the setpoint ceiling. -/
def entryCeiling (l : List Int) : Int := max 0 (copied l 1 - max 0 (copied l 2))

def entryFlameGrace (l : List Int) : Nat := (clamp 1 600 (copied l 3)).toNat

def entryPurge (l : List Int) : Int := clamp 0 100 (copied l 4)

def entryShift (l : List Int) : Nat := (clamp 0 4 (copied l 5)).toNat

def entryWindow (l : List Int) : Nat := (clamp 1 15 (copied l 6)).toNat

def entryBreakRise (l : List Int) : Int := copied l 7

def entryBreakMoisture (l : List Int) : Int := copied l 8

def entryForcedBreak (l : List Int) : Int := copied l 9

def entryCureBase (l : List Int) : Int := copied l 10

/-! ### Dosing channel entries (R130) -/

inductive ChannelMode where
  | block
  | single
  | demand
deriving DecidableEq, Repr

def Bank.channelMode (b : Bank) (c : Nat) : ChannelMode :=
  if b.field 7 c 5 = 1 then .single else if b.field 7 c 5 = 2 then .demand else .block

/-- The unit that owns channel `c`. -/
def Bank.channelOwner (b : Bank) (c : Nat) : Option PlantUnit :=
  if 0 ≤ b.field 7 c 0 then unitOf (b.field 7 c 0).toNat else none

def Bank.meterPoint (b : Bank) (c : Nat) : Int := b.field 7 c 1

def Bank.feedbackPoint (b : Bank) (c : Nat) : Int := b.field 7 c 2

/-- The node and function of the valve or feeder; `none` where the channel has no actuator. -/
def Bank.channelActuator (b : Bank) (c : Nat) : Option (Byte × Byte) :=
  if 1 ≤ b.field 7 c 3 ∧ b.field 7 c 3 ≤ 254 then some (BitVec.ofInt 8 (b.field 7 c 3), BitVec.ofInt 8 (b.field 7 c 4))
  else none

def Bank.autoReinit (b : Bank) (c : Nat) : Bool := b.field 7 c 6 != 0

def Bank.overrunWindow (b : Bank) (c : Nat) : Nat := (clamp 0 3600 (b.field 7 c 7)).toNat

/-- The field of a unit's binding that names its fill, spray or peat channel (R111, R147, R171). -/
def channelField : PlantUnit → Nat
  | .vessel _ => 6
  | .box _ => 4
  | .kiln _ => 10

/-- The dosing channel that a unit's binding names as its fill, spray or peat channel. Only an in-use entry's fields are used
(R111, R147, R171), so that a unit out of service has none. -/
def Bank.unitChannel (b : Bank) (u : PlantUnit) : Option (Fin 12) :=
  if b.inService u.index then indexOf 12 (b.binding u.index (channelField u)) else none

/-- The mass and moisture vote groups that a unit's binding names (R111, R147, R171). -/
def Bank.unitGroups (b : Bank) : PlantUnit → Nat × Nat
  | .vessel v => ((b.binding v 4).toNat, (b.binding v 5).toNat)
  | .box n => ((b.binding (6 + n) 6).toNat, (b.binding (6 + n) 7).toNat)
  | .kiln k => ((b.binding (18 + k) 8).toNat, (b.binding (18 + k) 9).toNat)

/-- The three member fields of vote group `g` (R36). -/
def Bank.groupMembers (b : Bank) (g : Nat) : List Int := [b.field 3 g 0, b.field 3 g 1, b.field 3 g 2]

/-! ### The Channel Map (R68) -/

def Bank.mapInUse (b : Bank) (m : Nat) : Bool := b.field 1 m 0 != 0

/-- R7: the in-use entry that matches a source node and a channel. -/
def Bank.mapFind (b : Bank) (source chan : Byte) : Option Nat :=
  (List.range 256).find? fun m => b.mapInUse m && b.field 1 m 1 == (source.toNat : Int) && b.field 1 m 2 == (chan.toNat : Int)

/-- R41: the in-use entry with the lowest index that names a point. -/
def Bank.mapOfPoint (b : Bank) (p : Nat) : Option Nat :=
  (List.range 256).find? fun m => b.mapInUse m && b.field 1 m 3 == (p : Int)

/-- The byte that R42 takes from a Channel Map field; outside 0–255 a free value (log entry 21). -/
def mapByte (i : Int) : Byte := if 0 ≤ i ∧ i ≤ 255 then BitVec.ofInt 8 i else Config.mapByteBeyond i

/-! ### Request values -/

/-- The value of a request as a signed number. -/
def Req.signed (r : Req) : Int := r.value.toInt

/-- The upper 16 bits of the value, unsigned (R92, R93). -/
def Req.upper (r : Req) : Nat := r.value.toNat / 65536

/-- The lower 16 bits of the value, unsigned. -/
def Req.lower (r : Req) : Nat := r.value.toNat % 65536

end Sys2Proof.Machine
end

