-- ==== Sys2Proof/Machine/Flags.lean ====
section
/-! DEFINITION. Every flag and condition that follows from the state: the burner permits, the demand conditions, the ALERT#
conditions, the high flag of the register, the watched points, and the output lines. -/

namespace Sys2Proof.Machine

/-! ### Burner permits (R188) and demand conditions (R136, R186, section 6.6) -/

/-- The field `i` of kiln `k`'s binding. -/
def Bank.kilnBinding (b : Bank) (k : Fin 2) (i : Nat) : Int := b.binding (18 + k) i

/-- The Ton point of a kiln. -/
def Env.ton (e : Env) (k : Fin 2) : Point := e.point (e.bank.kilnBinding k 1)

/-- RUNNING, or HELD(STATION): the states of a kiln in which its permit may be high. -/
def Ctx.firing (c : Ctx) : Bool := c.state == .running || (c.state == .held && c.reason == some .station)

/-- R188: kiln `k` is RUNNING or HELD(STATION) in a phase that is not COOL, its Ton is FRESH or HELD, and the loop is UP. -/
def permit (e : Env) (f : Floor) (k : Fin 2) : Bool :=
  let c := f.kilns[k].ctx
  c.firing && c.pos.isSome && phaseKind c.fields != .cool && (e.ton k).usable && e.loopUp

/-- R186: the demand condition of a kiln's peat channel, which only a FREE_DRY phase with peat greater than 0 gives. -/
def kilnDemand (e : Env) (f : Floor) (k : Fin 2) : Bool :=
  let c := f.kilns[k].ctx
  c.state == .running && phaseKind c.fields == .freeDry && decide (0 < phasePeat c.fields) && (e.ton k).usable &&
    decide ((e.ton k).value ≤ phasePeatMaxTon c.fields) && permit e f k

/-- Section 6.6: the demand condition of a vessel's fill channel. -/
def vesselDemand (f : Floor) (v : Fin 6) : Bool :=
  let x := f.vessels[v]
  x.ctx.state == .running && stepKind x.ctx.fields == .fill && x.fill == .filling

/-! ### The Excise Register (R197, R198) -/

/-- Records held plus reservations held. -/
def Register.sum (r : Register) : Nat := r.retained.records.length + r.reservations.length

/-- The high flag. -/
def Register.high (r : Register) : Bool := decide (240 ≤ r.sum)

/-- R198: room and numbers for `n` places. -/
def Register.room (r : Register) (n : Nat) : Bool :=
  decide (r.sum + n ≤ 256) && decide (r.reservations.length + n ≤ 2 ^ 32 - r.retained.next)

/-! ### ALERT# (R223) -/

def Floor.anyTripped (f : Floor) : Bool := f.kilns[0].ctx.state == .tripped || f.kilns[1].ctx.state == .tripped

def Floor.anyOverdue (f : Floor) : Bool :=
  f.batches.toList.any fun x =>
    match x with
    | some b => match b.transfer with | some t => t.overdue | none => false
    | none => false

def Floor.registerAlert (f : Floor) : Bool := f.register.state == .faulted || f.register.high

/-- Field 15 of the device status view: the sum of the conditions that hold (R219, R223). -/
def alertConditions (s : State) : Nat :=
  (if s.floor.anyTripped then 1 else 0) + (if s.loop.silenceAlert then 2 else 0) +
  (if s.floor.queue.congested then 4 else 0) + (if s.floor.anyOverdue then 8 else 0) +
  (if s.floor.arbiter.state = .disabled then 16 else 0) + (if s.floor.registerAlert then 32 else 0)

/-- The output lines as R13, R188 and R223 give them for a part that is out of reset. -/
def linesOf (s : State) : Pins where
  byp := true
  permits := #v[permit s.env s.floor 0, permit s.env s.floor 1]
  alertLow := alertConditions s != 0

/-- The output lines while RESET# is low or the part is unpowered (R13, R188, R223). -/
def linesInReset : Pins := ⟨false, .replicate 2 false, false⟩

/-- The output lines that the state calls for (R13, R188, R223). -/
def State.lines (s : State) : Pins := if s.inReset then linesInReset else linesOf s

/-! ### Watched points (R34) -/

/-- The fields of unit index `u`'s binding that name a point directly, and those that name a vote group. -/
def watchFields (u : Nat) : List Nat × List Nat :=
  if u < 6 then ([1, 2, 3], [4, 5])
  else if u < 18 then ([1, 3], [6, 7])
  else if u < 20 then ([1, 2, 3, 4, 5], [8, 9])
  else ([6, 7], [])

/-- Unit index `u` is in service and its binding names point `p`, directly or as a member of a vote group. -/
def Bank.unitWatches (b : Bank) (p u : Nat) : Bool :=
  b.inService u &&
    ((watchFields u).1.any (fun i => b.binding u i == (p : Int)) ||
      (watchFields u).2.any fun i => (b.groupMembers (b.binding u i).toNat).any (· == (p : Int)))

/-- R34: point `p` is watched. -/
def Bank.watched (b : Bank) (p : Nat) : Bool :=
  (List.range 21).any (b.unitWatches p) ||
    (List.range 12).any fun c => b.meterPoint c == (p : Int) || b.feedbackPoint c == (p : Int)

/-! ### Units -/

/-- R91: the value of an OK or REFUSED reply to a unit command. -/
def Ctx.replyValue (c : Ctx) : Int := c.state.code + 256 * (match c.reason with | some r => (r.code : Int) | none => 0)

/-- ACTIVE or PAUSED: the channel is open (R131). -/
def Channel.isOpen (c : Channel) : Bool := c.state == .active || c.state == .paused

/-- R59, R89: the unit's state as UNIT_AUTO reads it. -/
def UnitState.auto (s : UnitState) : Bool := s == .running || s == .held || s == .tripped

/-- R54: the unit's state as UNIT_MOVING reads it. -/
def UnitState.moving (s : UnitState) : Bool := s == .discharging || s == .receiving

/-- Second `t` exceeds the evaluation origin by a whole multiple of the period (R119, R152, R177). -/
def evaluationSecond (period origin t : Nat) : Bool := decide (origin < t) && (t - origin) % period == 0

/-- R90: a unit enters HELD for a reason with a resume state, and UNIT_HELD is raised. -/
def enterHeld (e : Env) (u : PlantUnit) (r : HoldReason) (back : ResumeState) (f : Floor) : Floor :=
  raiseEvent e 8 u.index r.code (f.updCtx u (·.enterHeld r back))

/-- R86: a unit enters HELD(PROGRAM_GONE), noting the item it could not fetch. -/
def enterGone (e : Env) (u : PlantUnit) (item : Nat) (f : Floor) : Floor :=
  enterHeld e u .programGone .running (f.updCtx u fun c => { c with noted := some item })

/-- What a unit finds at a program boundary (R85). -/
inductive Boundary where
  | ended
  | next (p : Position)
  | gone (item : Nat)
deriving DecidableEq, Repr

/-- R85: the boundary after the item that `c` holds, judged by the copied length and the active bank. -/
def boundary (b : Bank) (u : PlantUnit) (c : Ctx) : Boundary :=
  match c.pos with
  | none => .ended
  | some p =>
    if copied p.entry 0 ≤ p.item + 1 then .ended
    else if (p.item + 1 : Int) < b.programLength u p.program then .next (b.position u p.program (p.item + 1))
    else .gone (p.item + 1)

end Sys2Proof.Machine
end

