-- ==== Sys2Proof/Machine/Channels.lean ====
section
/-! DEFINITION. The Dosing Channels (spec/07_dosing_channels.md): the valve, the requests of the owner, metering, the
terminal count, the mask, and what a bank swap and a RESTART do to a channel. -/

namespace Sys2Proof.Machine

/-- The answer of a channel to START or CONTINUE. `terminal`: accepted, and the channel takes its terminal count at once
(R133 step 3, R134), which the requester's block then runs. -/
inductive Granting where
  | refused
  | accepted
  | terminal
deriving DecidableEq, Repr

/-! ### The valve (R132) -/

/-- Offers the valve's cell with its current decision. A channel without an actuator offers nothing. -/
def offerValve (e : Env) (c : Fin 12) (f : Floor) : Floor :=
  match e.bank.channelActuator c with
  | none => f
  | some (node, func) =>
    let r := offerCommand (e.commandCell node func (32 + c) (if f.channels[c].valve = .opened then 1 else 0)) f
    r.1.channel c fun x => { x with valvePending := !r.2 }

/-- R132: the valve is decided; a changed decision is recorded and offered, and one that becomes CLOSED sets the close
time. -/
def setValve (e : Env) (c : Fin 12) (want : ValveDecision) (f : Floor) : Floor :=
  if f.channels[c].valve = want then f
  else
    offerValve e c (f.channel c fun x =>
      { x with valve := want, closeTime := if want = .closed then some e.second else x.closeTime })

/-- Enters a channel state and decides the valve: OPEN in ACTIVE, CLOSED otherwise. -/
def enterChannel (e : Env) (c : Fin 12) (st : ChannelState) (f : Floor) : Floor :=
  setValve e c (if st = .active then .opened else .closed) (f.channel c fun x => { x with state := st })

/-! ### Requests (R133–R136) -/

/-- R136: the owner tells the channel its demand condition. -/
def tellDemand (e : Env) (c : Fin 12) (d : Bool) (f : Floor) : Floor :=
  let f := f.channel c fun x => { x with demand := d }
  if e.bank.channelMode c = .demand then
    match f.channels[c].state, d with
    | .active, false => enterChannel e c .paused f
    | .paused, true => enterChannel e c .active f
    | _, _ => f
  else f

/-- R133: a point's quality is STALE or NONE. -/
def Point.silent (p : Point) : Bool := p.quality == .stale || p.quality == .none

/-- R133: the point test, which sets the mask where a point is STALE or NONE; and then whether the mask rule lets a START
or CONTINUE through. -/
def maskRule (e : Env) (c : Fin 12) (f : Floor) : Floor × Bool :=
  let m := e.point (e.bank.meterPoint c)
  let b := e.point (e.bank.feedbackPoint c)
  let f := if m.silent || b.silent then f.channel c fun x => { x with masked := true } else f
  (f, !f.channels[c].masked || (m.quality == .fresh && b.quality == .fresh))

/-- R131: a base count from a request, 0 if negative; above 2^31 − 1 a free value within the bound (log entry 20). -/
def baseCount (q : Int) : Nat :=
  if q < 0 then 0 else if q < 2 ^ 31 then q.toNat else min (2 ^ 31 - 1) (Config.baseBeyondRange q.toNat)

/-- Enters ACTIVE, or PAUSED in DEMAND mode with the demand flag clear (R133 step 4, R134). -/
def openChannel (e : Env) (c : Fin 12) (f : Floor) : Floor :=
  enterChannel e c (if e.bank.channelMode c = .demand ∧ ¬f.channels[c].demand then .paused else .active) f

/-- R133 steps 2 to 4: a dose begins. -/
def beginDose (e : Env) (c : Fin 12) (base : Nat) (f : Floor) : Floor × Granting :=
  let f := f.channel c fun x => { x with masked := false, base := base, current := base, overrun := 0, note := false }
  if base = 0 then (f, .terminal) else (openChannel e c f, .accepted)

/-- R133: START, asked by unit `u` (or by the Turner Arbiter on its behalf). -/
def startChannel (e : Env) (u : PlantUnit) (c : Fin 12) (quantity : Int) (f : Floor) : Floor × Granting :=
  if e.bank.channelOwner c = some u then
    let r := maskRule e c f
    if r.2 then beginDose e c (baseCount quantity) r.1 else (r.1, .refused)
  else (f, .refused)

/-- R134: CONTINUE. The point test of R133 is made in IDLE and STOPPED, where R134 names it; that a DONE channel refuses without
it, its mask as it was, is the model's choice (log entry 70). -/
def continueChannel (e : Env) (u : PlantUnit) (c : Fin 12) (f : Floor) : Floor × Granting :=
  if e.bank.channelOwner c = some u then
    match f.channels[c].state with
    | .active => (f, .accepted)
    | .paused => (f, .accepted)
    | .done => (f, .refused)
    | _ =>
      let r := maskRule e c f
      if r.2 then
        let f := r.1.channel c fun x => { x with masked := false, note := false }
        if f.channels[c].current = 0 then (f, .terminal) else (openChannel e c f, .accepted)
      else (r.1, .refused)
  else (f, .refused)

/-- R135: STOP. -/
def stopChannel (e : Env) (c : Fin 12) (f : Floor) : Floor :=
  if f.channels[c].isOpen then enterChannel e c .stopped f else f

/-- STOP of the channel that a unit's binding names, where it names one. -/
def stopUnitChannel (e : Env) (u : PlantUnit) (f : Floor) : Floor :=
  match e.bank.unitChannel u with
  | some c => stopChannel e c f
  | none => f

/-- Whether the channel that a unit's binding names is ACTIVE or PAUSED. -/
def unitChannelOpen (e : Env) (u : PlantUnit) (f : Floor) : Bool :=
  match e.bank.unitChannel u with
  | some c => f.channels[c].isOpen
  | none => false

/-! ### The channels that a unit owns (R158) -/

/-- The dosing channels whose entries name unit `u` as their owner, in ascending number. -/
def Bank.channelsOf (b : Bank) (u : PlantUnit) : List (Fin 12) := (List.finRange 12).filter fun c => b.channelOwner c = some u

/-- The lowest-numbered channel of unit `u` that is ACTIVE or PAUSED. -/
def openChannelOf (e : Env) (u : PlantUnit) (f : Floor) : Option (Fin 12) :=
  (e.bank.channelsOf u).find? fun c => f.channels[c].isOpen

/-- STOP of every channel of unit `u`. -/
def stopChannelsOf (e : Env) (u : PlantUnit) (f : Floor) : Floor := (e.bank.channelsOf u).foldl (fun f c => stopChannel e c f) f

/-- R136: unit `u` tells every channel of its own that its demand condition is false. -/
def endDemandOf (e : Env) (u : PlantUnit) (f : Floor) : Floor := (e.bank.channelsOf u).foldl (fun f c => tellDemand e c false f) f

/-! ### Terminal count (R139) -/

/-- R186: base count less current count plus overrun total. -/
def Channel.delivered (c : Channel) : Nat := c.base - c.current + c.overrun

/-- R139: the terminal count. `report` is what the owner does on the report, given the quantity delivered as the record
stood at the terminal count. The state of step 5 is entered before the report, which finds the channel no longer open
(R167; log entry 11). -/
def terminalCountWith (report : Nat → Floor → Floor) (e : Env) (c : Fin 12) (f : Floor) : Floor :=
  let f := setValve e c .closed f
  let ch := f.channels[c]
  let f := f.channel c fun x =>
    if e.bank.autoReinit c then { x with tc := true, state := .idle, current := x.base }
    else { x with tc := true, state := .done, current := 0 }
  raiseEvent e 20 c ch.base (report ch.delivered f)

/-! ### Metering (R137, R138) -/

/-- The greatest overrun total. -/
def overrunMax : Nat := 2 ^ 32 - 1

/-- R138: a delta of flow is counted; the answer says whether a subtraction has brought the current count to 0. -/
def countFlow (e : Env) (c : Fin 12) (delta : Nat) (f : Floor) : Floor × Bool :=
  let ch := f.channels[c]
  if delta = 0 then (f, false)
  else if ch.isOpen then
    (f.channel c fun x =>
      { x with current := x.current - delta, overrun := min overrunMax (x.overrun + (delta - x.current)) },
      ch.current ≤ delta)
  else
    match ch.closeTime with
    | some t =>
      if e.second ≤ t + e.bank.overrunWindow c then
        (f.channel c fun x => { x with overrun := min overrunMax (x.overrun + delta) }, false)
      else (uncommanded f, false)
    | none => (uncommanded f, false)
where
  /-- R138: uncommanded flow is reported once for each spell. -/
  uncommanded (f : Floor) : Floor :=
    if f.channels[c].note then f
    else raiseEvent e 23 c delta (f.channel c fun x => { x with note := true })

/-- R137: a sample notice for the channel's meter point, whose value is the count `reading`. -/
def meterChannel (e : Env) (c : Fin 12) (reading : Nat) (f : Floor) : Floor × Bool :=
  let last := f.channels[c].lastReading
  let f := f.channel c fun x => { x with lastReading := some reading }
  match last with
  | none => (f, false)
  | some l =>
    let delta := (reading + 2 ^ 32 - l) % 2 ^ 32
    if delta ≤ 2 ^ 31 then countFlow e c delta f else (raiseEvent e 22 c reading f, false)

/-! ### The mask (R140), the swap (R145) and RESTART (R146) -/

/-- R140: an open channel hears that point `p`, its meter or feedback point, has become STALE. -/
def maskChannel (report : Floor → Floor) (e : Env) (c : Fin 12) (p : Nat) (f : Floor) : Floor :=
  if f.channels[c].isOpen ∧ (e.bank.meterPoint c = p ∨ e.bank.feedbackPoint c = p) then
    let f := enterChannel e c .stopped (f.channel c fun x => { x with masked := true })
    raiseEvent e 21 c p (report f)
  else f

/-- R145: at a swap a channel whose meter point changed forgets its last reading. -/
def swapChannel (old new : Bank) (c : Fin 12) (x : Channel) : Channel :=
  if old.meterPoint c = new.meterPoint c then x else { x with lastReading := none }

/-- R146: RESTART brings a channel to rest and marks its valve pending. -/
def restartChannel (second : Nat) (x : Channel) : Channel :=
  let y :=
    if x.isOpen then
      { x with
        state := .stopped
        valve := .closed
        closeTime := if x.valve = .closed then x.closeTime else some second }
    else x
  { y with masked := true, valvePending := y.valve != .none }

end Sys2Proof.Machine
end

