-- ==== Sys2Proof/Machine/Boxes.lean ====
section
/-! DEFINITION. The fan of a germination box (R152, R153) and its clocks (R155, R156). The turns of a box are in
Arbiter.lean, and what a box does with both is in Germination.lean. -/

namespace Sys2Proof.Machine

/-- The field `i` of box `b`'s binding. -/
def Bank.boxBinding (b : Bank) (n : Fin 12) (i : Nat) : Int := b.binding (6 + n) i

/-- The bed point of a box. -/
def Env.bed (e : Env) (b : Fin 12) : Point := e.point (e.bank.boxBinding b 1)

/-- R153: the fan formula, from the copied day and the bed temperature. -/
def fanFormula (day : List Int) (t : Int) : Int :=
  clamp (dayMinAir day) (dayMaxAir day) (dayMinAir day + (dayGain day * (t - dayTarget day)).fdiv 10)

/-- R152: while a box holds the grant its fan is kept to the turn-air maximum. -/
def turnAirLimit (f : Floor) (b : Fin 12) (v : Int) : Int :=
  if f.arbiter.grant = some b then min v (entryTurnAirMax f.boxes[b].ctx.entry) else v

/-- R152: the fan decision of a box by its state; `none` where the state takes no decision, and where a HELD box holds no copied day
(the model's choice, log entry 39). The second part says whether a
free value was drawn: a RUNNING box without a usable bed point (log entry 22). -/
def fanDecision (e : Env) (f : Floor) (b : Fin 12) : Option Int × Bool :=
  let c := f.boxes[b].ctx
  let bed := e.bed b
  match c.pos with
  | none => (none, false)
  | some p =>
    let byFormula := fanFormula p.fields bed.value
    let orMaximum := if bed.usable then byFormula else dayMaxAir p.fields
    match c.state with
    | .running =>
      if bed.usable then (some (turnAirLimit f b byFormula), false)
      else
        let free := clamp (dayMinAir p.fields) (dayMaxAir p.fields) (Config.fanWithoutBed f.freeCount)
        (some (turnAirLimit f b free), true)
    | .held => (some orMaximum, false)
    | .done => (some orMaximum, false)
    | .discharging => (some orMaximum, false)
    | _ => (none, false)

/-- Offers the recorded fan percentage. A fan reference of 0, or a record of NONE, offers nothing. The reference is read also where
a swap has taken the entry out of use (the model's choice, log entry 56). -/
def offerFan (e : Env) (b : Fin 12) (f : Floor) : Floor :=
  match actuatorRef (e.bank.boxBinding b 2), f.boxes[b].fan with
  | some a, some v =>
    let r := offerCommand (e.commandCell a.1 a.2 (6 + b) v) f
    r.1.box b fun x => { x with fanPending := !r.2 }
  | _, _ => f

/-- R153: a fan decision is recorded and offered if it differs; in HELD(RESTART) it is marked pending instead. -/
def decideFan (e : Env) (b : Fin 12) (v : Int) (f : Floor) : Floor :=
  let x := f.boxes[b]
  if x.fan = some v then f
  else if x.ctx.heldRestart then f.box b fun x => { x with fan := some v, fanPending := true }
  else offerFan e b (f.box b fun x => { x with fan := some v })

/-- R152: a decision round of a box. -/
def boxRound (e : Env) (b : Fin 12) (f : Floor) : Floor :=
  let d := fanDecision e f b
  let f := if d.2 then { f with freeCount := f.freeCount + 1 } else f
  match d.1 with
  | some v => decideFan e b v f
  | none => f

/-- R153: a pending fan is offered again, but not in HELD(RESTART). -/
def reofferFan (e : Env) (b : Fin 12) (f : Floor) : Floor :=
  let x := f.boxes[b]
  if x.fanPending ∧ ¬x.ctx.heldRestart then offerFan e b f else f

/-- R155, R156: a second of the time base at a box. -/
def boxSecond (granted : Bool) (x : Box) : Box :=
  if x.ctx.state = .running then
    { x with
      dayClock := min 604800 (x.dayClock + 1)
      turnClock := if granted then x.turnClock else min 16777215 (x.turnClock + 1) }
  else x

/-- R170: RESTART marks a fan record that holds a percentage pending. -/
def restartBox (x : Box) : Box := { x with fanPending := x.fan.isSome }

end Sys2Proof.Machine
end

