-- ==== Sys2Proof/Machine/Arbiter.lean ====
section
/-! DEFINITION. The Turner Arbiter (R158–R168): the request queue, the turner commands, the grant decision, the states of a
turn, faults, parking, and RESTART (R170). -/

namespace Sys2Proof.Machine

/-- Changes the arbiter. -/
def Floor.arb (f : Floor) (g : Arbiter → Arbiter) : Floor := { f with arbiter := g f.arbiter }

/-! ### The request queue (R157, R158) -/

/-- The queue order: URGENT before NORMAL, and within a class the lower joining number first. -/
def Request.before (a b : Request) : Bool := (a.urgent && !b.urgent) || (a.urgent == b.urgent && decide (a.number < b.number))

/-- Puts a request in its place. -/
def insertRequest (r : Request) : List Request → List Request
  | [] => [r]
  | x :: q => if r.before x then r :: x :: q else x :: insertRequest r q

/-- Renumbers the requests `n`, `n + 1`, … in queue order. -/
def renumber : Nat → List Request → List Request
  | _, [] => []
  | n, r :: q => { r with number := n } :: renumber (n + 1) q

/-- R158: before a number is given at a counter of 65535, the queued requests are renumbered. -/
def Arbiter.readyCounter (a : Arbiter) : Arbiter :=
  if a.counter = 65535 then { a with queue := renumber 0 a.queue, counter := a.queue.length } else a

def Arbiter.hasRequest (a : Arbiter) (b : Fin 12) : Bool := a.queue.any (·.box == b)

def Arbiter.without (a : Arbiter) (b : Fin 12) : List Request := a.queue.filter (·.box != b)

/-- A request joins, or is moved to the back of its class: it takes the next joining number. -/
def Arbiter.join (a : Arbiter) (b : Fin 12) (urgent : Bool) : Arbiter :=
  let a := a.readyCounter
  { a with queue := insertRequest ⟨b, urgent, a.counter⟩ (a.without b), counter := a.counter + 1 }

/-- The request of a box. -/
def Arbiter.request (a : Arbiter) (b : Fin 12) : Option Request := a.queue.find? (·.box == b)

/-- R160, R161: a request is moved to the back of its class. -/
def Arbiter.moveBack (a : Arbiter) (b : Fin 12) : Arbiter :=
  match a.request b with
  | some r => a.join b r.urgent
  | none => a

/-- R157: a NORMAL request becomes URGENT and keeps its joining number. -/
def Arbiter.upgrade (a : Arbiter) (b : Fin 12) : Arbiter :=
  match a.request b with
  | some r => { a with queue := insertRequest { r with urgent := true } (a.without b) }
  | none => a

/-- Removes the request of a box. -/
def Arbiter.drop (a : Arbiter) (b : Fin 12) : Arbiter := { a with queue := a.without b }

/-- R157: removes the request of a box that is not granted. -/
def dropRequest (b : Fin 12) (f : Floor) : Floor := if f.arbiter.grant = some b then f else f.arb (·.drop b)

/-- R158: a request is eligible. -/
def eligible (e : Env) (f : Floor) (r : Request) : Bool :=
  f.boxes[r.box].ctx.state == .running && e.bank.boxBinding r.box 5 != 0

/-! ### Turner commands (R148, R164) -/

/-- The cell of a turner command, by the turner's binding. -/
def turnerCell (e : Env) (c : TurnerCommand) : QCell :=
  let node := BitVec.ofInt 8 (e.bank.binding 20 1)
  let func := fun i => BitVec.ofInt 8 (e.bank.binding 20 i)
  match c with
  | .goto p => e.commandCell node (func 2) 20 p
  | .turn => e.commandCell node (func 3) 20 0
  | .stop => e.commandCell node (func 4) 20 0
  | .park => e.commandCell node (func 5) 20 0

/-- Offers commands in order; from the first refused one on they wait (R164). -/
def offerTurner (e : Env) : List TurnerCommand → Floor → Floor
  | [], f => f.arb fun a => { a with waiting := [] }
  | c :: r, f =>
    let o := offerCommand (turnerCell e c) f
    if o.2 then offerTurner e r o.1 else o.1.arb fun a => { a with waiting := c :: r }

/-- The commands of a new step: they supersede what still waits, but a waiting STOP keeps its turn and they wait behind
it (log entry 13). -/
def turnerStep (e : Env) (cs : List TurnerCommand) (f : Floor) : Floor :=
  if f.arbiter.waiting.contains .stop then f.arb fun a => { a with waiting := .stop :: cs } else offerTurner e cs f

/-- The later command of the step in hand (PARK after GOTO). -/
def turnerNext (e : Env) (c : TurnerCommand) (f : Floor) : Floor :=
  if f.arbiter.waiting.isEmpty then offerTurner e [c] f else f.arb fun a => { a with waiting := a.waiting ++ [c] }

/-- A STOP supersedes every command still waiting. -/
def turnerStop (e : Env) (f : Floor) : Floor := offerTurner e [.stop] f

/-- R164: at a second, the waiting commands are offered again. -/
def reofferTurner (e : Env) (f : Floor) : Floor :=
  if e.bank.inService 20 ∧ f.arbiter.waiting ≠ [] then offerTurner e f.arbiter.waiting f else f

/-! ### What the turner reports (R148) -/

def Env.turnerPosition (e : Env) : Point := e.point (e.bank.binding 20 6)

def Env.turnerStatus (e : Env) : Point := e.point (e.bank.binding 20 7)

/-- A status value is read as FAULT. -/
def statusFault (v : Int) : Bool := v != 0 && v != 1 && v != 2

/-- The status point has a usable value that is read as FAULT. -/
def Env.turnerFaulty (e : Env) : Bool := e.turnerStatus.usable && statusFault e.turnerStatus.value

/-- Point `p` is the turner's position or status point. -/
def Bank.isTurnerPoint (b : Bank) (p : Nat) : Bool :=
  b.inService 20 && (b.binding 20 6 == (p : Int) || b.binding 20 7 == (p : Int))

/-- Point `p` is the turner's status point. -/
def Bank.isStatusPoint (b : Bank) (p : Nat) : Bool := b.inService 20 && b.binding 20 7 == (p : Int)

/-! ### The grant (R159–R161) -/

/-- R161: enters DISPATCHED. -/
def enterDispatched (e : Env) (b : Fin 12) (f : Floor) : Floor :=
  let f := f.arb fun a =>
    { a with state := .dispatched, timer := some (e.second + entryStartTimeout f.boxes[b].ctx.entry) }
  turnerStep e [.goto (b : Nat), .turn] f

/-- R160: the granted box's fan feedback is at or below the turn-air maximum, that of the copy which the box holds at the test, also
where a day has ended since the prep timer was started (R150; the model's choice, log entry 75). -/
def feedbackMet (e : Env) (f : Floor) (b : Fin 12) : Bool :=
  let p := e.point (e.bank.boxBinding b 3)
  p.usable && decide (p.value ≤ entryTurnAirMax f.boxes[b].ctx.entry)

/-- R160: the test of the fan feedback in PREPARING. -/
def fanTest (e : Env) (f : Floor) : Floor :=
  match f.arbiter.state, f.arbiter.grant with
  | .preparing, some b => if feedbackMet e f b then enterDispatched e b f else f
  | _, _ => f

/-- R159, R160: the turner is granted to a box. -/
def enterPreparing (e : Env) (b : Fin 12) (f : Floor) : Floor :=
  let f := f.arb fun a =>
    { a with
      state := .preparing
      grant := some b
      result := .none
      parked := false
      parkTimer := none
      timer := some (e.second + entryPrepTimeout f.boxes[b].ctx.entry) }
  fanTest e (boxRound e b f)

/-- R159: the turner can be granted. -/
def turnerReady (e : Env) : Bool :=
  e.bank.inService 20 && e.turnerPosition.usable && e.turnerStatus.usable && !e.turnerFaulty

/-- R159: the grant decision. -/
def grantDecision (e : Env) (f : Floor) : Floor :=
  if (f.arbiter.state = .idle ∨ f.arbiter.state = .parking) ∧ turnerReady e then
    match f.arbiter.queue.find? (eligible e f) with
    | some r => enterPreparing e r.box f
    | none => f
  else f

/-- The arbiter enters IDLE, and the grant decision follows (R159). -/
def enterIdle (e : Env) (f : Floor) : Floor :=
  grantDecision e (f.arb fun a => { a with state := .idle, timer := none, result := .none })

/-- R162: the demand condition of the granted box is true. -/
def Arbiter.demand (a : Arbiter) : Bool := a.state == .turning || a.state == .releasing

/-- The grant is withdrawn from box `b`. Where its demand condition was true, its channels are told that it is false (R136, R162,
R163), in every mode (log entry 71): the one that its binding names and any other that it owns, which a swap may have unbound since
the turn began (log entry 72). -/
def withdraw (e : Env) (b : Fin 12) (f : Floor) : Floor :=
  let g := f.arb fun a => { a with grant := none, timer := none, result := .none }
  if f.arbiter.demand then endDemandOf e (.box b) g else g

/-- R161, R165: after a counted fault the arbiter enters DISABLED at a fault count of 3, or else IDLE. -/
def afterFault (e : Env) (f : Floor) : Floor :=
  if 3 ≤ f.arbiter.faults then
    raiseEvent e 31 20 f.arbiter.faults (f.arb fun a => { a with state := .disabled, timer := none, result := .none })
  else enterIdle e f

/-! ### Turning and releasing (R162, R163) -/

/-- R163: the grant is released. -/
def releaseTurn (e : Env) (f : Floor) : Floor :=
  match f.arbiter.grant with
  | none => f
  | some b =>
    let complete := f.arbiter.result = .complete
    let f := boxRound e b (withdraw e b (f.arb (·.drop b)))
    let f : Floor :=
      if complete then
        raiseEvent e 28 (6 + b) 0
          ((f.box b fun x => { x with turnClock := 0 }).arb fun a => { a with faults := 0 })
      else f
    enterIdle e f

/-- R158: the spray channel of box `b` that is open. The arbiter knows it by its entry, which names the box as owner and which no swap
changes while it is open (R79): after a swap that has given a granted box another binding it is still the channel that the turn
started. That the arbiter so stops a channel which the binding no longer names, R158 before R130, is the model's choice (log entry
72). -/
def openSpray (e : Env) (b : Fin 12) (f : Floor) : Option (Fin 12) := openChannelOf e (.box b) f

/-- R158: the spray of box `b` is asked to STOP. -/
def stopSpray (e : Env) (b : Fin 12) (f : Floor) : Floor := stopChannelsOf e (.box b) f

/-- R158, R163: the spray trail has expired with the spray channel `c` still open: the spray is stopped before the release. -/
def trailExpired (e : Env) (b : Fin 12) (c : Fin 12) (f : Floor) : Floor :=
  let f := stopSpray e b f
  releaseTurn e (raiseEvent e 29 (6 + b) f.channels[c].current f)

/-- R163: enters RELEASING with a turn result; releases at once where the spray channel is not open, or the trail is 0. -/
def enterReleasing (e : Env) (result : TurnResult) (f : Floor) : Floor :=
  match f.arbiter.grant with
  | none => f
  | some b =>
    let trail := entrySprayTrail f.boxes[b].ctx.entry
    let f := f.arb fun a => { a with state := .releasing, result := result, timer := some (e.second + trail) }
    match openSpray e b f with
    | none => releaseTurn e f
    | some c => if trail = 0 then trailExpired e b c f else f

/-- R162: enters TURNING and starts the spray. The box's demand condition is true from now on, spray or none, and its channel
is told so before the START, in every mode (R136): R162 says so of DEMAND mode alone, and the flag that a BLOCK or SINGLE channel
so keeps is the model's choice (log entry 71). -/
def enterTurning (e : Env) (b : Fin 12) (f : Floor) : Floor :=
  let f := f.arb fun a =>
    { a with
      state := .turning
      result := .incomplete
      timer := some (e.second + entryTurnTimeout f.boxes[b].ctx.entry * 60) }
  let litres := daySpray f.boxes[b].ctx.fields
  match e.bank.unitChannel (.box b) with
  | none => f
  | some c =>
    let f := tellDemand e c true f
    if litres ≤ 0 then f
    else
      let r := startChannel e (.box b) c litres f
      if r.2 = .refused then raiseEvent e 29 (6 + b) litres r.1 else r.1

/-- R161: in DISPATCHED, the turner reports TURNING at the box. -/
def turningTest (e : Env) (f : Floor) : Floor :=
  match f.arbiter.state, f.arbiter.grant with
  | .dispatched, some b =>
    if e.turnerStatus.usable ∧ e.turnerStatus.value = 2 ∧ e.turnerPosition.usable ∧ e.turnerPosition.value = (b : Nat) then
      enterTurning e b f
    else f
  | _, _ => f

/-- R162: in TURNING, the turner reports IDLE or MOVING. -/
def finishTest (e : Env) (f : Floor) : Floor :=
  if f.arbiter.state = .turning ∧ e.turnerStatus.usable ∧ (e.turnerStatus.value = 0 ∨ e.turnerStatus.value = 1) then
    enterReleasing e .complete f
  else f

/-- R158, R163, R167: in RELEASING, the spray channel is found no longer open. -/
def releaseTest (e : Env) (f : Floor) : Floor :=
  match f.arbiter.state, f.arbiter.grant with
  | .releasing, some b => if (openSpray e b f).isSome then f else releaseTurn e f
  | _, _ => f

/-- R167: the spray channel of box `b` reports a terminal count, a mask or a clearing. -/
def sprayReport (e : Env) (b : Fin 12) (f : Floor) : Floor :=
  if f.arbiter.grant = some b then releaseTest e f else f

/-! ### Timeouts (R160–R163); each is taken while its timer has run out -/

/-- The arbiter's timer has run out. -/
def Arbiter.expired (a : Arbiter) (second : Nat) : Bool := match a.timer with | some t => decide (t ≤ second) | none => false

/-- R160. -/
def prepTimeout (e : Env) (f : Floor) : Floor :=
  match f.arbiter.state, f.arbiter.grant with
  | .preparing, some b =>
    if f.arbiter.expired e.second then
      let f := withdraw e b (f.arb (·.moveBack b))
      enterIdle e (boxRound e b (raiseEvent e 25 (6 + b) 0 f))
    else f
  | _, _ => f

/-- R161. -/
def startTimeout (e : Env) (f : Floor) : Floor :=
  match f.arbiter.state, f.arbiter.grant with
  | .dispatched, some b =>
    if f.arbiter.expired e.second then
      let f := withdraw e b (turnerStop e f)
      let f := f.arb fun a => { a.moveBack b with faults := a.faults + 1 }
      afterFault e (boxRound e b (raiseEvent e 26 (6 + b) f.arbiter.faults f))
    else f
  | _, _ => f

/-- R162. -/
def turnOverrun (e : Env) (f : Floor) : Floor :=
  match f.arbiter.state, f.arbiter.grant with
  | .turning, some b =>
    if f.arbiter.expired e.second then
      enterReleasing e .incomplete (raiseEvent e 27 (6 + b) 0 (stopSpray e b (turnerStop e f)))
    else f
  | _, _ => f

/-- R158, R163: the spray trail expires in RELEASING: a spray still open is stopped, and the grant is released. -/
def sprayTrailExpiry (e : Env) (f : Floor) : Floor :=
  match f.arbiter.state, f.arbiter.grant with
  | .releasing, some b =>
    if f.arbiter.expired e.second then
      match openSpray e b f with
      | some c => trailExpired e b c f
      | none => releaseTurn e f
    else f
  | _, _ => f

/-! ### Faults (R165) and a granted box that leaves RUNNING (R166) -/

/-- R165: a turner fault, with the value its event carries. Outside a grant nothing is counted. -/
def turnerFault (e : Env) (value : Int) (f : Floor) : Floor :=
  match f.arbiter.grant with
  | none => f
  | some b =>
    let f := stopSpray e b (turnerStop e f)
    let f := (withdraw e b f).arb fun a => { a.drop b with faults := a.faults + 1 }
    afterFault e (boxRound e b (raiseEvent e 30 (6 + b) value f))

/-- R166: box `b` has left RUNNING. -/
def boxLeaves (e : Env) (b : Fin 12) (f : Floor) : Floor :=
  if f.arbiter.grant = some b then
    match f.arbiter.state with
    | .preparing => enterIdle e (withdraw e b (f.arb (·.drop b)))
    | .dispatched => enterIdle e (withdraw e b ((turnerStop e f).arb (·.drop b)))
    | .turning => enterReleasing e .incomplete (stopSpray e b (turnerStop e f))
    | _ => f
  else f

/-- R165: TURNER_ENABLE. -/
def turnerEnable (e : Env) (f : Floor) : Floor :=
  let f := f.arb fun a => { a with faults := 0 }
  if f.arbiter.state = .disabled then enterIdle e f else grantDecision e f

/-! ### Parking (R168) -/

/-- R168: in PARKING, a notice from the turner: a FAULT ends the move; position 16 is offered PARK; IDLE there ends the
move. The PARK offered flag is set also where PARK has to wait behind a refused command (the model's choice, log entry 61). -/
def parkingTest (e : Env) (f : Floor) : Floor :=
  if f.arbiter.state = .parking then
    if e.turnerFaulty then enterIdle e f
    else
      let there := e.turnerPosition.usable && e.turnerPosition.value == 16
      let f : Floor :=
        if there ∧ ¬f.arbiter.parkOffered then (turnerNext e .park f).arb fun a => { a with parkOffered := true } else f
      if there ∧ e.turnerStatus.usable ∧ e.turnerStatus.value = 0 then enterIdle e f else f
  else f

/-- R168: at each second, an IDLE arbiter that has made no parking decision runs its parking timer while no request is
eligible. PARK_DELAY is read as the timer starts, and a swap does not move the expiry (the model's choice, log entry 58).
A request that joins at this second is not seen yet (the model's choice, log entry 67). -/
def parkingSecond (e : Env) (f : Floor) : Floor :=
  if f.arbiter.state = .idle ∧ e.operating ∧ ¬f.arbiter.parked then
    if f.arbiter.queue.any (eligible e f) then f.arb fun a => { a with parkTimer := none }
    else if f.arbiter.parkTimer = none then
      f.arb fun a => { a with parkTimer := some (e.second + e.bank.unsigned 0 0 12) }
    else f
  else f

/-- The parking delay has run out. -/
def Arbiter.parkExpired (a : Arbiter) (second : Nat) : Bool :=
  match a.parkTimer with | some t => decide (t ≤ second) | none => false

/-- R168: the parking decision. Where the status is FAULT or a turner point STALE already, PARKING lasts until the next notice of a
turner point (the model's choice, log entry 55). The expiry does not look for eligible requests again (the model's choice, log
entry 67). -/
def parkDelayExpiry (e : Env) (f : Floor) : Floor :=
  if f.arbiter.state = .idle ∧ f.arbiter.parkExpired e.second then
    let f := f.arb fun a => { a with parked := true, parkTimer := none }
    if e.bank.inService 20 then
      if e.bank.field 0 0 10 = 1 then
        (turnerStep e [.goto 16] f).arb fun a => { a with state := .parking, parkOffered := false }
      else if e.bank.field 0 0 10 = 2 then turnerStep e [.goto (e.bank.field 0 0 11)] f
      else f
    else f
  else f

/-! ### Notices (R31, R34) -/

/-- The fan feedback point of the box that holds the grant is `p`. -/
def feedbackPointIs (e : Env) (f : Floor) (p : Nat) : Bool :=
  match f.arbiter.grant with
  | some b => e.bank.boxBinding b 3 == (p : Int)
  | none => false

/-- R31, R159–R165, R168: a sample notice for point `p` at the arbiter. In PARKING the parking test, with PARK, comes before the grant
decision (the model's choice, log entry 54). A status that the clamp of a swap has turned into FAULT (R83) is taken as a turner fault
here, at the next sample of the status point (the model's choice, log entry 76). -/
def arbiterSample (e : Env) (p : Nat) (f : Floor) : Floor :=
  let turner := e.bank.isTurnerPoint p
  if f.arbiter.grant.isSome ∧ e.bank.isStatusPoint p ∧ e.turnerFaulty then turnerFault e e.turnerStatus.value f
  else
    match f.arbiter.state with
    | .idle => if turner then grantDecision e f else f
    | .parking => if turner then grantDecision e (parkingTest e f) else f
    | .preparing => if feedbackPointIs e f p then fanTest e f else f
    | .dispatched => if turner then turningTest e f else f
    | .turning => if e.bank.isStatusPoint p then finishTest e f else f
    | _ => f

/-- R34, R159, R165, R168: a quality notice for point `p` at the arbiter. -/
def arbiterQuality (e : Env) (p : Nat) (stale : Bool) (f : Floor) : Floor :=
  if e.bank.isTurnerPoint p then
    if stale then
      if f.arbiter.grant.isSome then turnerFault e (256 + p) f
      else if f.arbiter.state = .parking then enterIdle e f
      else grantDecision e f
    else grantDecision e f
  else f

/-! ### RESTART (R170) -/

/-- R170: RESTART at the arbiter, after the insertion queue has been emptied. The withdrawal clears the spray channel's demand flag,
which R146 alone would keep (the model's choice, log entry 53). -/
def restartArbiter (e : Env) (f : Floor) : Floor :=
  let f : Floor :=
    match f.arbiter.grant with
    | some b => withdraw e b (turnerStop e f)
    | none => f
  f.arb fun a =>
    { a with
      state := if a.state = .disabled then .disabled else .idle
      queue := []
      counter := 0
      parked := false
      parkTimer := none
      parkOffered := false
      timer := none
      result := .none
      waiting := a.waiting.filter (· == .stop) }

end Sys2Proof.Machine
end

