-- ==== Sys2Proof/Machine/Germination.lean ====
section
/-! DEFINITION. The Germination Controller (R152–R157, R169): the evaluation, the day boundary, the turn requests, and what
the station's commands do to a box. The fan is in Boxes.lean and the turner in Arbiter.lean. -/

namespace Sys2Proof.Machine

/-! ### Holds (R90, R154, R166) -/

/-- A box leaves RUNNING for HELD; a granted box is handled by R166, after UNIT_HELD (the model's choice, log entry 52). -/
def holdBox (e : Env) (b : Fin 12) (r : HoldReason) (f : Floor) : Floor :=
  boxLeaves e b (enterHeld e (.box b) r .running f)

/-- R154: a RUNNING box without a bed reading is held for POINT and makes a decision round, after what R166 does with its grant (the
model's choice, log entry 62). -/
def bedLost (e : Env) (b : Fin 12) (f : Floor) : Floor :=
  if f.boxes[b].ctx.state = .running then boxRound e b (holdBox e b .point f) else f

/-- R154: a quality notice that point `p` has become STALE. -/
def boxQuality (e : Env) (p : Nat) (b : Fin 12) (f : Floor) : Floor :=
  if e.bank.boxBinding b 1 = p then bedLost e b f else f

/-! ### Turn requests (R157) -/

/-- R157: the urgent condition of a box. -/
def urgentCondition (e : Env) (b : Fin 12) (x : Box) : Bool :=
  let day := x.ctx.fields
  let delta := entryUrgentDelta x.ctx.entry
  x.ctx.state == .running && decide (0 < dayInterval day) && decide (0 < delta) && (e.bed b).usable &&
    decide (dayTarget day + delta ≤ (e.bed b).value) && decide (entryMinGap x.ctx.entry * 60 ≤ x.turnClock)

/-- R157: the urgent test of an evaluation. -/
def urgentTest (e : Env) (b : Fin 12) (f : Floor) : Floor :=
  if urgentCondition e b f.boxes[b] then
    match f.arbiter.request b with
    | none => grantDecision e (f.arb (·.join b true))
    | some r => if r.urgent ∨ f.arbiter.grant = some b then f else grantDecision e (f.arb (·.upgrade b))
  else f

/-- R157: the turn clock of a RUNNING box has reached its day's interval, and the box has no request. -/
def intervalReached (f : Floor) (b : Fin 12) : Bool :=
  let x := f.boxes[b]
  x.ctx.state == .running && decide (0 < dayInterval x.ctx.fields) &&
    decide (dayInterval x.ctx.fields * 60 ≤ x.turnClock) && !f.arbiter.hasRequest b

/-- R157: the box joins the queue with class NORMAL. -/
def turnIntervalReached (e : Env) (b : Fin 12) (f : Floor) : Floor :=
  if intervalReached f b then grantDecision e (f.arb (·.join b false)) else f

/-! ### The evaluation (R152) -/

/-- R152, R153, R154, R157: the evaluation of a box. A pending fan is offered again last, after the urgent test (the model's choice,
log entry 63). -/
def boxEvaluate (e : Env) (b : Fin 12) (f : Floor) : Floor :=
  match f.boxes[b].ctx.state with
  | .running =>
    if (e.bed b).quality = .none then reofferFan e b (bedLost e b f)
    else reofferFan e b (urgentTest e b (boxRound e b f))
  | .held => reofferFan e b (boxRound e b f)
  | .done => reofferFan e b (boxRound e b f)
  | .discharging => reofferFan e b (boxRound e b f)
  | .manual => f
  | _ => reofferFan e b f

/-! ### Days (R155) -/

/-- R155: a RUNNING box enters a day. -/
def enterDay (e : Env) (b : Fin 12) (p : Position) (f : Floor) : Floor :=
  let f := f.box b fun x => { x with dayClock := 0, ctx := { x.ctx with pos := some p } }
  boxRound e b (if dayInterval p.fields = 0 then dropRequest b f else f)

/-- R155: the day clock of a RUNNING box has reached the day's length. In DONE the program position stays with its copies (R88, R152),
against the last sentence of R85: the model's choice (log entry 45). -/
def dayEnded (e : Env) (b : Fin 12) (f : Floor) : Floor :=
  let c := f.boxes[b].ctx
  if c.state = .running ∧ dayLength c.fields * 60 ≤ f.boxes[b].dayClock then
    let f := raiseEvent e 24 (6 + b) c.item f
    match boundary e.bank (.box b) c with
    | .next p => enterDay e b p f
    | .gone i => boxLeaves e b (enterGone e (.box b) i f)
    | .ended =>
      let f := f.box b fun x => { x with ctx := x.ctx.enter .done }
      let f := raiseEvent e 9 (6 + b) (match c.pos with | some p => p.program | none => 0) f
      boxRound e b (boxLeaves e b (dropRequest b f))
  else f

/-! ### Station control (R169) -/

/-- R169: START on a LOADED box. Its first decision always differs from the fan record, which is NONE before it, so that the
fan is commanded. -/
def startBox (e : Env) (b : Fin 12) (program : Nat) (f : Floor) : Floor :=
  let f := f.box b fun x =>
    { x with
      dayClock := 0
      turnClock := 0
      origin := e.second
      fan := none
      fanPending := false
      ctx := { x.ctx.enter .running with pos := some (e.bank.position (.box b) program 0) } }
  boxRound e b f

/-- R95, R153, R159: a HELD box returns to RUNNING: its pending fan is offered, from a hold other than RESTART too (the model's choice,
log entry 77), and before the grant decision (log entry 63). -/
def boxRunsAgain (e : Env) (b : Fin 12) (f : Floor) : Floor :=
  let f := f.box b fun x => { x with ctx := x.ctx.enter .running }
  let f := reofferFan e b f
  if f.arbiter.hasRequest b then grantDecision e f else f

/-- R86: a box in HELD(PROGRAM_GONE) has fetched its noted day. -/
def boxFetches (e : Env) (b : Fin 12) (p : Position) (f : Floor) : Floor :=
  let f := f.box b fun x => { x with ctx := x.ctx.enter .running }
  let f := reofferFan e b (enterDay e b p f)
  if f.arbiter.hasRequest b then grantDecision e f else f

/-- R169: a box that has entered MANUAL. -/
def boxManual (e : Env) (b : Fin 12) (f : Floor) : Floor :=
  boxLeaves e b (f.box b fun x => { x with fan := none, fanPending := false })

/-- R169: STOP_PROGRAM; `day` is the day the box held, if it held one. The box is LOADED already. A box that held no
day makes no fan decision (the model's choice, log entry 39). -/
def boxStopped (e : Env) (b : Fin 12) (day : Option (List Int)) (f : Floor) : Floor :=
  let f := boxLeaves e b (dropRequest b f)
  match day with
  | some l => decideFan e b (dayMinAir l) f
  | none => f

/-- R169: a box made EMPTY by TRANSFER_DONE. -/
def boxEmptied (e : Env) (b : Fin 12) (f : Floor) : Floor := decideFan e b 0 (dropRequest b f)

end Sys2Proof.Machine
end

