-- ==== Sys2Proof/Machine/Kilns.lean ====
section
/-! DEFINITION. The Kiln Controller (spec/09_kiln_firing.md): output records, peat, the phases, the evaluation, trips and
resumption, and what the station's commands, a second of the time base and RESTART do to a kiln. -/

namespace Sys2Proof.Machine

/-- The two output records of a kiln (R174). -/
inductive KilnOutput where
  | burner
  | fan
deriving DecidableEq, Repr

def Kiln.record (x : Kiln) : KilnOutput → SetRecord
  | .burner => x.burner
  | .fan => x.fan

def Kiln.withRecord (x : Kiln) (o : KilnOutput) (r : SetRecord) : Kiln :=
  match o with
  | .burner => { x with burner := r }
  | .fan => { x with fan := r }

/-- The actuator of an output (R171). -/
def kilnActuator (b : Bank) (k : Fin 2) : KilnOutput → Option (Byte × Byte)
  | .burner => actuatorRef (b.kilnBinding k 6)
  | .fan => actuatorRef (b.kilnBinding k 7)

/-! ### Commands (R183) -/

/-- The cell that carries an output's value. -/
def kilnCell (e : Env) (k : Fin 2) (a : Byte × Byte) (v : Int) : QCell := e.commandCell a.1 a.2 (18 + k) v

/-- R183: offers an output's recorded value. A reference of 0, or a record of NONE, offers nothing. -/
def offerKiln (e : Env) (k : Fin 2) (o : KilnOutput) (f : Floor) : Floor :=
  match kilnActuator e.bank k o, (f.kilns[k].record o).value with
  | some a, some v =>
    let r := offerCommand (kilnCell e k a v) f
    r.1.kiln k fun x => x.withRecord o ⟨some v, !r.2⟩
  | _, _ => f

/-- An output is decided, and offered whatever its record holds. -/
def sendKiln (e : Env) (k : Fin 2) (o : KilnOutput) (v : Int) (f : Floor) : Floor :=
  offerKiln e k o (f.kiln k fun x => x.withRecord o ⟨some v, (x.record o).pending⟩)

/-- R183: an output is decided, and offered if the decision differs from its record. -/
def decideKiln (e : Env) (k : Fin 2) (o : KilnOutput) (v : Int) (f : Floor) : Floor :=
  if (f.kilns[k].record o).value = some v then f else sendKiln e k o v f

/-- Decides the burner setpoint and the fan percentage, in that order. -/
def decideBoth (e : Env) (k : Fin 2) (setpoint fan : Int) (f : Floor) : Floor :=
  decideKiln e k .fan fan (decideKiln e k .burner setpoint f)

/-- Offers an output again if its record is pending. -/
def reofferRecord (e : Env) (k : Fin 2) (o : KilnOutput) (f : Floor) : Floor :=
  if (f.kilns[k].record o).pending then offerKiln e k o f else f

/-- R183: the records still pending are offered again, the burner's first (the model's choice, log entry 65). -/
def reofferKiln (e : Env) (k : Fin 2) (f : Floor) : Floor := reofferRecord e k .fan (reofferRecord e k .burner f)

/-- The setpoint S and the fan percentage of the copied phase are decided. -/
def decidePhase (e : Env) (k : Fin 2) (f : Floor) : Floor :=
  decideBoth e k f.kilns[k].setpoint (phaseFan f.kilns[k].ctx.fields) f

/-! ### Peat (R186, R187) -/

/-- The kiln tells its peat channel its demand condition. -/
def tellKiln (e : Env) (k : Fin 2) (f : Floor) : Floor :=
  match e.bank.unitChannel (.kiln k) with
  | some c => tellDemand e c (kilnDemand e f k) f
  | none => f

/-- R187: the terminal count report. -/
def kilnTerminal (k : Fin 2) (delivered : Nat) (f : Floor) : Floor :=
  f.kiln k fun x =>
    if x.peat = .filling then { x with peat := .complete, peatDelivered := x.peatDelivered + delivered } else x

/-- R187: the report of a stop by mask, and the clearing report of DOSE_CLEAR. -/
def kilnStopped (e : Env) (k : Fin 2) (f : Floor) : Floor :=
  let x := f.kilns[k]
  if x.ctx.state = .running ∧ x.peat ≠ .none ∧ x.peat ≠ .complete then enterHeld e (.kiln k) .dose .running f else f

/-- R186: the kiln leaves a FREE_DRY phase: the feed is stopped, the delivery added, demand told false. -/
def endPeat (e : Env) (k : Fin 2) (f : Floor) : Floor :=
  let f : Floor :=
    match e.bank.unitChannel (.kiln k) with
    | some c =>
      let f : Floor :=
        if f.kilns[k].peat = .filling then
          let f := stopChannel e c f
          f.kiln k fun x => { x with peatDelivered := x.peatDelivered + f.channels[c].delivered }
        else f
      tellDemand e c false f
    | none => f
  f.kiln k fun x => { x with peat := .none }

/-- START of the peat channel with the peat base: FEEDING if the channel accepts, NOT_BEGUN if it refuses. A base of 0
takes the channel's terminal count at once, which makes the peat state COMPLETE. The answer says whether it accepted. -/
def startPeat (e : Env) (k : Fin 2) (c : Fin 12) (f : Floor) : Floor × Bool :=
  let f := f.kiln k fun x => { x with peat := .filling }
  let r := startChannel e (.kiln k) c f.kilns[k].peatBase f
  match r.2 with
  | .refused => (r.1.kiln k fun x => { x with peat := .notBegun }, false)
  | .accepted => (r.1, true)
  | .terminal => (terminalCountWith (kilnTerminal k) e c r.1, true)

/-- R186: the peat base. No rule bounds it, and the kiln's context keeps it whole (the model's choice, log entry 78). -/
def peatBaseOf (x : Kiln) : Nat := if x.noBasis then 0 else ((phasePeat x.ctx.fields).toNat * x.dry) / 1000000

/-- R176 step 4: on entering a phase the kiln begins its peat, where the phase calls for it. -/
def beginPeat (e : Env) (k : Fin 2) (f : Floor) : Floor :=
  let x := f.kilns[k]
  match e.bank.unitChannel (.kiln k) with
  | some c =>
    if phaseKind x.ctx.fields = .freeDry ∧ 0 < phasePeat x.ctx.fields then
      let f := tellKiln e k (f.kiln k fun x => { x with peatBase := peatBaseOf x })
      let r := startPeat e k c f
      if r.2 then r.1 else enterHeld e (.kiln k) .dose .running r.1
    else f.kiln k fun x => { x with peat := .none }
  | none => f.kiln k fun x => { x with peat := .none }

/-- R187: the peat request of a RESUME; the answer says whether the channel accepted, or nothing was asked. The demand condition that
is told before the request is that of the kiln still HELD or TRIPPED, false, and not that of the RUNNING it returns to: the model's
choice (log entry 79). A DEMAND channel so enters PAUSED, and becomes ACTIVE at the end of the event where the condition is then true;
a valve record of NONE decides CLOSED in between and sets the close time. -/
def resumePeat (e : Env) (k : Fin 2) (f : Floor) : Floor × Bool :=
  match e.bank.unitChannel (.kiln k) with
  | none => (f, true)
  | some c =>
    let f := tellKiln e k f
    let ch := f.channels[c]
    match f.kilns[k].peat with
    | .notBegun => startPeat e k c f
    | .filling =>
      if ch.isOpen then (f, true)
      else if ch.current = 0 then (kilnTerminal k ch.delivered f, true)
      else
        let r := continueChannel e (.kiln k) c f
        (r.1, r.2 != .refused)
    | _ => (f, true)

/-! ### Phases (R176, R185) -/

/-- R176: a kiln that holds phase `pos` enters it. -/
def enterPhase (e : Env) (k : Fin 2) (atStart : Bool) (f : Floor) : Floor :=
  let f := f.kiln k fun x =>
    { x with
      timer := 0
      setpoint := if atStart then x.setpoint else clamp 0 (entryCeiling x.ctx.entry) (phaseStart x.ctx.fields)
      cure := if phaseKind x.ctx.fields = .cure then 0 else x.cure }
  decidePhase e k (beginPeat e k f)

/-- R185: the phase has ended with an event of this code and value; the kiln meets the boundary. In DONE the program position stays
with its copies (R88), against the last sentence of R85: the model's choice (log entry 45). -/
def endPhase (e : Env) (k : Fin 2) (code : Nat) (value : Int) (f : Floor) : Floor :=
  let f := raiseEvent e code (18 + k) value f
  let f := if phaseKind f.kilns[k].ctx.fields = .freeDry then endPeat e k f else f
  let c := f.kilns[k].ctx
  match boundary e.bank (.kiln k) c with
  | .next p => enterPhase e k false (f.kiln k fun x => { x with ctx := { x.ctx with pos := some p } })
  | .gone i => enterGone e (.kiln k) i f
  | .ended =>
    let f := f.kiln k fun x => { x with ctx := x.ctx.enter .done }
    let f := raiseEvent e 9 (18 + k) (match c.pos with | some p => p.program | none => 0) f
    decideBoth e k 0 (phaseFan c.fields) f

/-- R184, R185: the phase timer of a RUNNING kiln has reached the maximum time. -/
def phaseMaximum (e : Env) (k : Fin 2) (f : Floor) : Floor :=
  let x := f.kilns[k]
  if x.ctx.state = .running ∧ phaseMaxTime x.ctx.fields ≤ x.timer then
    if phaseKind x.ctx.fields = .freeDry then endPhase e k 35 x.moisture f
    else endPhase e k 36 (x.ctx.item + 256) f
  else f

/-! ### The drying computation (R178–R181) -/

/-- A quotient by `n`, one that is not whole taken away from zero (R178). -/
def divAway (d : Int) (n : Nat) : Int := if 0 ≤ d then (d + n - 1).fdiv n else -((-d + n - 1).fdiv n)

/-- R178: the next filter value. -/
def filterStep (k : Nat) (prev : Option Int) (toff : Int) : Int :=
  match prev with
  | none => toff
  | some v => v + divAway (toff - v) (2 ^ k)

/-- Entry `j` of the Humidity Table; a negative entry is used as 0 (R179). -/
def Bank.humidity (b : Bank) (j : Nat) : Int := max 0 (b.field 11 j 0)

/-- R179: the saturation humidity ratio. -/
def xsat (b : Bank) (t : Int) : Int :=
  let t := (clamp 0 950 t).toNat
  let i := t / 10
  if i < 95 then b.humidity i + ((b.humidity (i + 1) - b.humidity i) * (t - 10 * i : Nat)).fdiv 10 else b.humidity 95

/-- R179: the humidity ratio of air at a temperature and a relative humidity. -/
def humidityRatio (b : Bank) (t rh : Int) : Int := (xsat b t * clamp 0 1000 rh).fdiv 1000

/-- R180: the water carried off, in six-hundredths of a gram. -/
def pickupProduct (airflow : Int) (delta : Int) (seconds : Nat) : Nat :=
  (clamp 0 20000 airflow).toNat * delta.toNat * seconds

/-- R181: the moisture estimate from dry mass, initial water and water removed, in grams. -/
def moistureOf (dry water removed : Nat) : Nat := (water - removed) * 1000 / (dry + (water - removed))

/-- The points an evaluation reads, in the order of R177: Toff, RHoff, Tin, RHin, A. -/
def kilnInputs (b : Bank) (k : Fin 2) : List Int :=
  [b.kilnBinding k 2, b.kilnBinding k 3, b.field 0 0 8, b.field 0 0 9, b.kilnBinding k 4]

/-- R178–R181: stages 1 to 4 of a performed evaluation. A kiln that holds no copied program entry has filter shift 0 (the model's
choice, log entry 40). -/
def kilnAccount (e : Env) (k : Fin 2) (x : Kiln) : Kiln :=
  let toff := (e.point (e.bank.kilnBinding k 2)).value
  let rhoff := (e.point (e.bank.kilnBinding k 3)).value
  let tin := (e.point (e.bank.field 0 0 8)).value
  let rhin := (e.point (e.bank.field 0 0 9)).value
  let air := (e.point (e.bank.kilnBinding k 4)).value
  let f := filterStep (entryShift x.ctx.entry) x.filter toff
  let delta := humidityRatio e.bank toff rhoff - humidityRatio e.bank tin rhin
  let p := pickupProduct air delta e.bank.evalSeconds
  let removed := min (2 ^ 32 - 1) (x.removed + (p + x.carry) / 600)
  { x with
    filter := some f
    history := (f :: x.history).take 16
    noPickup := decide (delta < 0)
    removed := removed
    carry := (p + x.carry) % 600
    moisture := moistureOf x.dry x.water removed
    skipNote := false }

/-! ### Phase tests, ramp and cure (R182–R184) -/

/-- R182: the rise, where the history holds more than n values. -/
def kilnRise (x : Kiln) : Option Int :=
  match x.history, x.history[entryWindow x.ctx.entry]? with
  | f :: _, some old => some (f - old)
  | _, _ => none

/-- R182: the break has come. -/
def breakCome (x : Kiln) : Bool :=
  let en := x.ctx.entry
  let byRise :=
    match kilnRise x with
    | some r => decide (entryBreakRise en ≤ r) && (x.noBasis || decide ((x.moisture : Int) ≤ entryBreakMoisture en))
    | none => false
  byRise || (!x.noBasis && decide ((x.moisture : Int) ≤ entryForcedBreak en))

/-- R182: the value of BREAK. -/
def breakValue (x : Kiln) : Int :=
  (match kilnRise x with | some r => clamp (-32768) 32767 r | none => 0) * 65536 + x.moisture

/-- R184: the condition that stage 5 tests of a phase other than FREE_DRY. -/
def exitMet (e : Env) (k : Fin 2) (x : Kiln) : Bool :=
  match phaseKind x.ctx.fields with
  | .forcedDry => !x.noBasis && decide ((x.moisture : Int) ≤ phaseExit x.ctx.fields)
  | .cool => (e.ton k).usable && decide ((e.ton k).value ≤ phaseExit x.ctx.fields)
  | .cure => false
  | .freeDry => false

/-- R183: the setpoint after one ramp step, clamped to [0, setpoint ceiling]. -/
def rampStep (x : Kiln) : Int :=
  let goal := phaseEnd x.ctx.fields
  let r := phaseRamp x.ctx.fields
  let s :=
    if r ≤ 0 then goal
    else if x.setpoint < goal then min goal (x.setpoint + r)
    else max goal (x.setpoint - r)
  clamp 0 (entryCeiling x.ctx.entry) s

/-- R184: what stage 7 adds to the cure integral. -/
def cureGain (ton base : Int) (seconds : Nat) : Nat := (ton - base).toNat * seconds / 60

/-- Stages 5 to 7 of a performed evaluation of a RUNNING kiln. -/
def kilnStages (e : Env) (k : Fin 2) (f : Floor) : Floor :=
  let x := f.kilns[k]
  if phaseKind x.ctx.fields = .freeDry ∧ breakCome x then endPhase e k 34 (breakValue x) f
  else if exitMet e k x then endPhase e k 36 x.ctx.item f
  else
    let f := decidePhase e k (f.kiln k fun x => { x with setpoint := rampStep x })
    if phaseKind x.ctx.fields = .cure then
      let f := f.kiln k fun x =>
        { x with
          cure := min (2 ^ 32 - 1)
            (x.cure + cureGain (e.ton k).value (entryCureBase x.ctx.entry) e.bank.evalSeconds) }
      if phaseExit f.kilns[k].ctx.fields ≤ f.kilns[k].cure then endPhase e k 36 f.kilns[k].ctx.item f else f
    else f

/-- R177, R183, R190, R193, R194: after an evaluation the pending records are offered again, but not in TRIPPED or in
HELD(RESTART). -/
def kilnReofferAfter (e : Env) (k : Fin 2) (f : Floor) : Floor :=
  let c := f.kilns[k].ctx
  if c.state = .tripped ∨ c.heldRestart then f else reofferKiln e k f

/-- R177: the evaluation of a kiln. -/
def kilnEvaluate (e : Env) (k : Fin 2) (f : Floor) : Floor :=
  let x := f.kilns[k]
  match x.ctx.state with
  | .running => evaluate f
  | .held => evaluate f
  | .tripped => evaluate f
  | .done => evaluate f
  | .discharging => reofferKiln e k f
  | _ => f
where
  /-- A skipped or a performed evaluation. -/
  evaluate (f : Floor) : Floor :=
    match (kilnInputs e.bank k).find? fun i => !(e.point i).usable with
    | some missing =>
      let noted := f.kilns[k].skipNote
      let f := f.kiln k fun x => { x with skipped := min 65535 (x.skipped + 1), skipNote := true }
      kilnReofferAfter e k (if noted then f else raiseEvent e 33 (18 + k) missing f)
    | none =>
      let f := f.kiln k (kilnAccount e k)
      kilnReofferAfter e k (if f.kilns[k].ctx.state = .running then kilnStages e k f else f)

/-! ### Trips (R189–R191) -/

/-- R190 step 2: a TRIP-class offer, which takes its record. -/
def offerTripCell (e : Env) (k : Fin 2) (o : KilnOutput) (v : Int) (f : Floor) : Floor :=
  let f := f.kiln k fun x => x.withRecord o ⟨some v, false⟩
  match kilnActuator e.bank k o with
  | some a => offerTrip (kilnCell e k a v) f
  | none => f

/-- R189, R190: a cause arises; a kiln that is RUNNING or HELD trips. The purge percentage is that of its copied program entry;
a kiln that holds none offers the burner's cell alone, leaves its fan record, and has phase index 0 in its trip record (the
model's choice, log entry 40). -/
def tripKiln (e : Env) (k : Fin 2) (cause : TripCause) (f : Floor) : Floor :=
  let x := f.kilns[k]
  if x.ctx.state = .running ∨ x.ctx.state = .held then
    let f := f.kiln k fun x => { x with ctx := x.ctx.enter .tripped }
    let f := offerTripCell e k .burner 0 f
    let f := if x.ctx.pos.isSome then offerTripCell e k .fan (entryPurge x.ctx.entry) f else f
    let f := stopUnitChannel e (.kiln k) f
    let ton := if (e.ton k).usable then (e.ton k).value else 0
    let f := f.kiln k fun y => { y with trip := some ⟨cause, x.ctx.item, e.time, e.timeUnset, ton⟩ }
    raiseEvent e 37 (18 + k) cause.code f
  else f

/-- R191: RESUME on a TRIPPED kiln may be accepted. The ceiling is that of the copied program entry; a kiln that holds none is
refused (the model's choice, log entry 40). -/
def relightAllowed (e : Env) (k : Fin 2) (x : Kiln) : Bool :=
  e.loopUp && x.ctx.pos.isSome && (e.ton k).quality == .fresh && decide ((e.ton k).value ≤ entryCeiling x.ctx.entry)

/-- R191: an accepted RESUME on a TRIPPED kiln. -/
def relightKiln (e : Env) (k : Fin 2) (f : Floor) : Floor :=
  let f := f.kiln k fun x => { x with setpoint := clamp 0 (entryCeiling x.ctx.entry) (e.ton k).value }
  let r := resumePeat e k f
  if r.2 then decidePhase e k (r.1.kiln k fun x => { x with ctx := x.ctx.enter .running })
  else enterHeld e (.kiln k) .dose .running r.1

/-! ### The second of the time base (R184, R186, R189) -/

/-- R189: the flame count after a second. -/
def flameStep (e : Env) (f : Floor) (k : Fin 2) : Nat :=
  let x := f.kilns[k]
  if permit e f k && decide (0 < x.setpoint) then
    let p := e.point (e.bank.kilnBinding k 5)
    if p.usable && p.value != 0 then 0 else x.flame + 1
  else 0

/-- R184, R186, R189: a second of the time base at a kiln: its phase timer, the trip tests on Ton, the flame count, and its
demand condition. TON_HIGH needs the trip temperature of a copied program entry. -/
def kilnSecond (e : Env) (k : Fin 2) (f : Floor) : Floor :=
  let f : Floor :=
    if f.kilns[k].ctx.state = .running then f.kiln k fun x => { x with timer := min 604800 (x.timer + 1) } else f
  let ton := e.ton k
  let f : Floor :=
    if !ton.usable then tripKiln e k .tonLost f
    else if f.kilns[k].ctx.pos.isSome ∧ entryTripTemp f.kilns[k].ctx.entry < ton.value then tripKiln e k .tonHigh f
    else f
  let n := flameStep e f k
  tellKiln e k (f.kiln k fun x => { x with flame := n })

/-- R189: the flame count has reached the flame grace. -/
def flameDue (f : Floor) (k : Fin 2) : Bool :=
  let x := f.kilns[k]
  (x.ctx.state == .running || x.ctx.state == .held) && decide (entryFlameGrace x.ctx.entry ≤ x.flame)

def flameLost (e : Env) (k : Fin 2) (f : Floor) : Floor := if flameDue f k then tripKiln e k .flameLost f else f

/-! ### START (R175) -/

/-- R175: the conditions laid on the start of a firing. -/
def firingAllowed (e : Env) (k : Fin 2) (f : Floor) : Bool :=
  e.loopUp && (e.ton k).usable && !unitChannelOpen e (.kiln k) f

/-- The kiln-in figures of a unit's batch. -/
def kilnInFigures (f : Floor) (batch : Option Nat) : Figures :=
  match batch with
  | none => ⟨none, none⟩
  | some id =>
    match f.findBatch id with
    | some b => match f.batches[b] with | some x => x.kilnIn | none => ⟨none, none⟩
    | none => ⟨none, none⟩

/-- R175: the firing context at its start, from the kiln-in figures and the value of Ton. -/
def firingContext (e : Env) (ton : Int) (fig : Figures) (x : Kiln) : Kiln :=
  let basis : Nat × Nat × Nat × Bool :=
    match fig.mass, fig.moisture with
    | some m, some w =>
      let mk := m.toNat
      let mi := (clamp 0 1000 w).toNat
      (mk * (1000 - mi), mk * mi, if mk = 0 then 0 else mi, false)
    | _, _ => (0, 0, 0, true)
  { x with
    dry := basis.1
    water := basis.2.1
    moisture := basis.2.2.1
    noBasis := basis.2.2.2
    removed := 0
    carry := 0
    cure := 0
    skipped := 0
    peatDelivered := 0
    peatBase := 0
    filter := none
    history := []
    skipNote := false
    noPickup := false
    flame := 0
    trip := none
    burner := ⟨none, false⟩
    fan := ⟨none, false⟩
    setpoint := clamp 0 (entryCeiling x.ctx.entry) ton
    origin := e.second }

/-- R175, R176: a LOADED kiln whose START has passed every test begins its firing in phase 0 of a program. -/
def startFiring (e : Env) (k : Fin 2) (program : Nat) (f : Floor) : Floor :=
  let batch := f.kilns[k].ctx.batch
  let fig := kilnInFigures f batch
  let f := f.kiln k fun x =>
    firingContext e (e.ton k).value fig
      { x with ctx := { x.ctx.enter .running with pos := some (e.bank.position (.kiln k) program 0) } }
  let f := if f.kilns[k].noBasis then raiseEvent e 32 (18 + k) (match batch with | some id => id | none => 0) f else f
  enterPhase e k true f

/-! ### The other station commands (R192) and RESTART (R194) -/

/-- R192: a HELD kiln whose peat request is accepted returns to RUNNING and offers its setpoint and fan: those that differ
or are pending, and both when it comes from HELD(RESTART). That a pending record is offered here, and not first at the next
evaluation, is the model's choice (log entry 77). -/
def kilnRunsAgain (e : Env) (k : Fin 2) (fromRestart : Bool) (f : Floor) : Floor :=
  let f := f.kiln k fun x => { x with ctx := x.ctx.enter .running }
  let f := reofferKiln e k (decidePhase e k f)
  if fromRestart then offerKiln e k .fan (offerKiln e k .burner f) else f

/-- R192: MANUAL. -/
def kilnManual (e : Env) (k : Fin 2) (f : Floor) : Floor :=
  (stopUnitChannel e (.kiln k) f).kiln k fun x => { x with burner := ⟨none, false⟩, fan := ⟨none, false⟩ }

/-- R97, R192: STOP_PROGRAM, before the kiln enters LOADED. A peat channel still open, as one that the station has opened
while the kiln was MANUAL, is stopped too (R97). Both records are offered whatever they hold. A kiln that holds no program entry
has no purge percentage and sends its burner 0 alone (the model's choice, log entry 40). -/
def kilnStopProgram (e : Env) (k : Fin 2) (f : Floor) : Floor :=
  let f := if f.kilns[k].peat ≠ .none then endPeat e k f else f
  let f := stopUnitChannel e (.kiln k) f
  let f := sendKiln e k .burner 0 f
  if f.kilns[k].ctx.pos.isSome then sendKiln e k .fan (entryPurge f.kilns[k].ctx.entry) f else f

/-- R193: a kiln made EMPTY by TRANSFER_DONE decides a fan percentage of 0, offers it whatever its record holds, and removes its
decisions. -/
def kilnEmptied (e : Env) (k : Fin 2) (f : Floor) : Floor :=
  (sendKiln e k .fan 0 f).kiln k fun x => { x with burner := ⟨none, false⟩, fan := ⟨none, false⟩ }

/-- R194: a record at RESTART: pending if it holds a value. -/
def restartRecord (r : SetRecord) : SetRecord := ⟨r.value, r.value.isSome⟩

/-- R194: RESTART at a kiln, after its unit state has been settled (R110). -/
def restartKiln (x : Kiln) : Kiln :=
  if x.ctx.state = .tripped then { x with flame := 0 }
  else
    { x with
      flame := 0
      burner := restartRecord x.burner
      fan := restartRecord x.fan }

end Sys2Proof.Machine
end

