-- ==== Sys2Proof/Machine/Register.lean ====
section
/-! DEFINITION. The Excise Register (spec/10_the_excise_register.md): the chain, the writing of records, the power-on
outcome and the walk, and the taking up of records. -/

namespace Sys2Proof.Machine

/-! ### The chain (R195, R196) -/

/-- The optional fields of a record that are present, in the order of R195. A peat delivered of 2^32 or more gives its low 32 bits
(the model's choice, log entry 78). -/
def optionalWords (r : SampleRecord) : List Word :=
  (r.estimate.toList.map (BitVec.ofNat 32)) ++ (r.peat.toList.map (BitVec.ofNat 32)) ++
    (r.officer.toList.map (·.setWidth 32)) ++ (r.voided.toList.map (BitVec.ofNat 32))

/-- R195: fields 1 to 14 of a record, the absent optional fields left out. -/
def recordWords (r : SampleRecord) : List Word :=
  [BitVec.ofNat 32 r.number, BitVec.ofNat 32 (kindCode r.kind), BitVec.ofNat 32 r.batch, BitVec.ofNat 32 r.unit, r.time,
    if r.timeUnset then 1#32 else 0#32, Word.ofValue r.mass, BitVec.ofNat 32 (voteCode r.massStatus),
    Word.ofValue r.moisture, BitVec.ofNat 32 (voteCode r.moistureStatus)] ++ optionalWords r

/-- R196: the chain check of a record, seeded by the check of the record before it. -/
def recordCheck (seed : Crc16) (r : SampleRecord) : Crc16 := crc16Words seed (recordWords r)

/-- The check that seeds the next record: that of the newest record, or the base check (R196). -/
def chainSeed (m : Retained) : Crc16 :=
  match m.records.getLast? with
  | some r => r.check
  | none => m.baseCheck

/-- R196: the record of `r`'s figures with the next number and its check. -/
def sealRecord (m : Retained) (r : SampleRecord) : SampleRecord :=
  let r := { r with number := m.next }
  { r with check := recordCheck (chainSeed m) r }

/-- R200: a record is placed as the newest, and the next number increases. The valid mark is set at the end (R207). -/
def writeRecord (m : Retained) (r : SampleRecord) : Retained :=
  { m with records := m.records ++ [sealRecord m r], next := m.next + 1, valid := true }

/-- R204: the k oldest records leave; the base check becomes that of the newest removed. -/
def takeRecords (m : Retained) (k : Nat) : Retained :=
  { m with
    records := m.records.drop k
    baseCheck := match (m.records.take k).getLast? with | some r => r.check | none => m.baseCheck
    valid := true }

/-- R203: a new numbering of an empty register. -/
def rebase (m : Retained) (n : Nat) : Retained :=
  { m with next := n, baseCheck := 0xFFFF#16, based := true, valid := true }

/-! ### Power-on and the walk (R207, R208) -/

/-- R197: retained memory whose held records are within their bound of 256. -/
def boundedRecords (m : Retained) : Retained := { m with records := m.records.take 256 }

/-- R207: the register at the end of a power-on reset. The next sample number is at most 2^32 and the records number 256 at most
(R197); only a register that goes on to be walked keeps a count above that, which the walk finds (R208, log entry 25). -/
def Register.powerOn (m : Retained) (held : Bool) : Register :=
  let m := { m with next := min (2 ^ 32) m.next }
  if !held then .unsetState
  else if !m.valid then ⟨.faulted, boundedRecords m, [], some 256⟩
  else if !m.based then
    if m.records = [] then ⟨.unset, m, [], none⟩ else ⟨.faulted, boundedRecords m, [], some 256⟩
  else ⟨.checking, m, [], none⟩

/-- R208: the walk from position `i`, with the seed and the number of the record before; the answer is the first failed
position, if a record fails. -/
def walkFrom : Nat → Crc16 → Option Nat → List SampleRecord → Option Nat
  | _, _, _, [] => none
  | i, seed, before, r :: rest =>
    if recordCheck seed r = r.check ∧ (∀ n, before = some n → r.number = n + 1) then
      walkFrom (i + 1) r.check (some r.number) rest
    else some i

/-- R208: the next sample number follows the newest number, if any record is held. -/
def nextFollows (m : Retained) : Bool :=
  match m.records.getLast? with
  | some r => m.next == r.number + 1
  | none => true

/-- R208: the first failed position that the walk finds. A record that fails among the first 256 is found before a count
above 256 (log entry 25). -/
def walkRetained (m : Retained) : Option Nat :=
  match walkFrom 0 m.baseCheck none (m.records.take 256) with
  | some i => some i
  | none => if 256 < m.records.length ∨ !nextFollows m then some 256 else none

/-- R208: the register when the walk ends. -/
def Register.walked (r : Register) : Register :=
  let m := boundedRecords r.retained
  match walkRetained r.retained with
  | none => ⟨.ready, m, r.reservations, none⟩
  | some i => ⟨.faulted, m, r.reservations, some i⟩

/-! ### Samples (R99, R100) -/

/-- R100: a sample number joins a list that keeps the six newest. -/
def appendSample (l : List Nat) (n : Nat) : List Nat := (l ++ [n]).drop ((l ++ [n]).length - 6)

/-- A vote as the figure of a record: 0 where the status gives no value (R195). -/
def Vote.figure (v : Vote) : Int := match v.value with | some i => i | none => 0

/-- A vote status that verifies nothing, in either of two votes (R100). -/
def unverifiedBy (a b : VoteStatus) : Bool := !(VoteStatus.agreed a && VoteStatus.agreed b)

/-- R100: what the writing of a record does to its batch. -/
def Batch.sampled (x : Batch) (n : Nat) (a b : VoteStatus) : Batch :=
  { x with samples := appendSample x.samples n, unverified := x.unverified || unverifiedBy a b }

/-- Changes the register. -/
def Floor.reg (f : Floor) (g : Register → Register) : Floor := { f with register := g f.register }

/-- R206: REGISTER_HIGH is raised when the sum has risen from below 240 to 240 or more. -/
def reportHigh (e : Env) (before : Register) (f : Floor) : Floor :=
  if !before.high && f.register.high then raiseEvent e 41 0 f.register.sum f else f

/-- R206: REGISTER_STATE is raised when the state has changed. -/
def reportState (e : Env) (before : Register) (f : Floor) : Floor :=
  if before.state = f.register.state then f else raiseEvent e 40 0 f.register.state.code f

/-- R206: what the register reports after an event. -/
def reportRegister (e : Env) (before : Register) (f : Floor) : Floor := reportHigh e before (reportState e before f)

/-- The figures of a record that no kind changes: batch, unit, clock and votes. Number and check are set as it is written. -/
def sampleOf (e : Env) (kind : SampleKind) (batch unit : Nat) (mass : Int) (massStatus : VoteStatus) (moisture : Int)
    (moistureStatus : VoteStatus) : SampleRecord where
  number := 0
  kind := kind
  batch := batch
  unit := unit
  time := e.time
  timeUnset := e.timeUnset
  mass := mass
  massStatus := massStatus
  moisture := moisture
  moistureStatus := moistureStatus
  estimate := none
  peat := none
  officer := none
  voided := none
  check := 0#16

/-- The mass and moisture votes of a unit's groups (R40). -/
def unitVotes (e : Env) (u : PlantUnit) : Vote × Vote :=
  (e.vote (e.bank.unitGroups u).1, e.vote (e.bank.unitGroups u).2)

end Sys2Proof.Machine
end

