-- ==== Sys2Proof/Machine/Vessels.lean ====
section
/-! DEFINITION. The Steep Controller (spec/06_steeping.md): the outputs, the steps and how they end, filling, and what the
station's commands, a second of the time base and RESTART do to a vessel. -/

namespace Sys2Proof.Machine

/-! ### Outputs (R122) -/

/-- The actuator of output `o` of a vessel (R111). It is read also where a swap has taken the entry out of use (the model's choice,
log entry 56). -/
def vesselActuator (b : Bank) (v : Fin 6) (o : Fin 5) : Option (Byte × Byte) := actuatorRef (b.binding v (7 + o))

/-- R122, R127: every output record becomes NONE with its pending flag clear. -/
def Vessel.forgetOutputs (x : Vessel) : Vessel := { x with outs := .replicate 5 ⟨.none, false⟩ }

/-- Changes an output record. -/
def Floor.output (f : Floor) (v : Fin 6) (o : Fin 5) (g : Output → Output) : Floor :=
  f.vessel v fun x => { x with outs := upd x.outs o g }

/-- R122: offers an output's recorded decision. An output without an actuator, or of decision NONE, offers nothing; that one which
is pending when a swap takes its actuator away keeps its flag is the model's choice (log entry 47). -/
def offerOutput (e : Env) (v : Fin 6) (o : Fin 5) (f : Floor) : Floor :=
  match vesselActuator e.bank v o, f.vessels[v].outs[o].decision with
  | none, _ => f
  | some _, .none => f
  | some a, d =>
    let r := offerCommand (e.commandCell a.1 a.2 v (if d = .on then 1 else 0)) f
    r.1.output v o fun x => { x with pending := !r.2 }

/-- R122: a decision is recorded and offered if it differs; in HELD(RESTART) it is marked pending instead. -/
def decideOutput (e : Env) (v : Fin 6) (o : Fin 5) (d : Decision) (f : Floor) : Floor :=
  if f.vessels[v].outs[o].decision = d then f
  else if f.vessels[v].ctx.heldRestart then
    f.output v o fun _ => ⟨d, (vesselActuator e.bank v o).isSome⟩
  else offerOutput e v o (f.output v o fun x => { x with decision := d })

/-- Offers output `o` again if its flag is set and the vessel is not in HELD(RESTART). -/
def reofferOutput (e : Env) (v : Fin 6) (f : Floor) (o : Fin 5) : Floor :=
  if f.vessels[v].outs[o].pending ∧ ¬f.vessels[v].ctx.heldRestart then offerOutput e v o f else f

/-- R122: the pending outputs are offered again, in the same order (log entry 51). -/
def reofferVessel (e : Env) (v : Fin 6) (f : Floor) : Floor := (List.finRange 5).foldl (reofferOutput e v) f

/-- R125: every output whose decision is ON or OFF is offered, in the same order (log entry 51). -/
def offerAllOutputs (e : Env) (v : Fin 6) (f : Floor) : Floor :=
  (List.finRange 5).foldl (fun f o => offerOutput e v o f) f

/-! ### Decisions (R119–R121) -/

def Env.water (e : Env) (v : Fin 6) : Point := e.point (e.bank.binding v 1)

def Env.level (e : Env) (v : Fin 6) : Point := e.point (e.bank.binding v 2)

def Env.co2 (e : Env) (v : Fin 6) : Point := e.point (e.bank.binding v 3)

/-- A decision that is kept; NONE becomes OFF. -/
def Decision.kept : Decision → Decision
  | .on => .on
  | _ => .off

/-- ON for true, OFF for false. -/
def Decision.ofBool (b : Bool) : Decision := if b then .on else .off

/-- R120: the chiller. -/
def chillerDecision (w : Point) (step : List Int) (now : Decision) : Decision :=
  if !w.usable then .off
  else if stepTarget step + stepBand step < w.value then .on
  else if w.value ≤ stepTarget step then .off
  else now.kept

/-- R120: the heater. -/
def heaterDecision (w : Point) (step : List Int) (now : Decision) : Decision :=
  if !w.usable then .off
  else if w.value < stepTarget step - stepBand step then .on
  else if stepTarget step ≤ w.value then .off
  else now.kept

/-- R121: the extraction fan, from a limit and a hysteresis. A limit of 0 or less means no extraction control (R112), and
the fan is OFF whatever the point's quality (log entry 14). -/
def extractionDecision (q : Point) (limit hysteresis : Int) (now : Decision) : Decision :=
  if limit ≤ 0 then .off
  else if !q.usable then .on
  else if limit < q.value then .on
  else if q.value ≤ limit - hysteresis then .off
  else now.kept

/-- R119: the decision of output `o` of a RUNNING or HELD vessel in a copied step. -/
def runDecision (e : Env) (v : Fin 6) (step : List Int) (held : Bool) (o : Fin 5) (now : Decision) : Decision :=
  let kind := stepKind step
  let wet := kind == .fill || kind == .wet
  match o with
  | 0 => if wet then chillerDecision (e.water v) step now else .off
  | 1 => if wet then heaterDecision (e.water v) step now else .off
  | 2 => if kind = .airRest then extractionDecision (e.co2 v) (stepCo2Limit step) (stepCo2Hysteresis step) now else .off
  | 3 => .ofBool (stepAeration step)
  | 4 => .ofBool (kind == .drain && !held)

/-- R119: the decision of output `o` in DONE and DISCHARGING. Without an end CO2 setting the fan is OFF (log entry 15). -/
def restDecision (e : Env) (v : Fin 6) (setting : Option (Int × Int)) (o : Fin 5) (now : Decision) : Decision :=
  match o, setting with
  | 2, some (limit, hysteresis) => extractionDecision (e.co2 v) limit hysteresis now
  | _, _ => .off

/-- R119: the decision of output `o` by the vessel's state; `none` where the state takes none. A HELD vessel without a program
position closes its drain valve as R119 says; that its other outputs are OFF is the model's choice (log entry 39). -/
def vesselDecision (e : Env) (v : Fin 6) (x : Vessel) (o : Fin 5) : Option Decision :=
  let now := x.outs[o].decision
  match x.ctx.state, x.ctx.pos with
  | .running, some p => some (runDecision e v p.fields false o now)
  | .held, some p => some (runDecision e v p.fields true o now)
  | .held, none => some .off
  | .done, _ => some (restDecision e v x.endCo2 o now)
  | .discharging, _ => some (restDecision e v x.endCo2 o now)
  | _, _ => none

/-- One output of a decision round. -/
def roundOutput (e : Env) (v : Fin 6) (f : Floor) (o : Fin 5) : Floor :=
  match vesselDecision e v f.vessels[v] o with
  | some d => decideOutput e v o d f
  | none => f

/-- R119: a decision round of a vessel, in the order chiller, heater, fan, blower, drain (the model's choice, log entry 51). -/
def vesselRound (e : Env) (v : Fin 6) (f : Floor) : Floor := (List.finRange 5).foldl (roundOutput e v) f

/-! ### Filling (R114, R123–R125) -/

/-- R114: START of the fill channel with the step's volume. The fill state becomes FILLING if the channel accepts, and
NOT_BEGUN if it refuses. -/
def startFill (e : Env) (v : Fin 6) (f : Floor) : Floor × Bool :=
  let r : Floor × Granting :=
    match e.bank.unitChannel (.vessel v) with
    | some c => startChannel e (.vessel v) c (stepFillVolume f.vessels[v].ctx.fields) f
    | none => (f, .refused)
  if r.2 = .refused then (r.1.vessel v fun x => { x with fill := .notBegun }, false)
  else (r.1.vessel v fun x => { x with fill := .filling }, true)

/-- R124: what a hold does to a fill in progress: the channel is stopped, and the decisions of HELD are made. -/
def stopFillForHold (e : Env) (v : Fin 6) (f : Floor) : Floor :=
  if f.vessels[v].fill = .filling ∧ unitChannelOpen e (.vessel v) f then
    vesselRound e v (stopUnitChannel e (.vessel v) f)
  else f

/-- R90, R124: a RUNNING vessel enters HELD: UNIT_HELD comes before the STOP and the decisions (the model's choice, log entry 52). -/
def holdVessel (e : Env) (v : Fin 6) (r : HoldReason) (f : Floor) : Floor :=
  stopFillForHold e v (enterHeld e (.vessel v) r .running f)

/-- R123: the report of a stop by mask, and the clearing report of DOSE_CLEAR. -/
def vesselStopped (e : Env) (v : Fin 6) (f : Floor) : Floor :=
  if f.vessels[v].ctx.state = .running ∧ f.vessels[v].fill = .filling then holdVessel e v .dose f else f

/-! ### Steps (R114–R118) -/

/-- R114: a RUNNING vessel enters the step at `p`; `ended` is what a FILL step without a volume does on entry. -/
def enterStepWith (ended : Floor → Floor) (e : Env) (v : Fin 6) (p : Position) (f : Floor) : Floor :=
  let f := f.vessel v fun x => { x with timer := 0, note := false, ctx := { x.ctx with pos := some p } }
  match stepKind p.fields with
  | .fill =>
    if 0 < stepFillVolume p.fields then
      let r := startFill e v f
      vesselRound e v (if r.2 then r.1 else holdVessel e v .dose r.1)
    else ended (f.vessel v fun x => { x with fill := .complete })
  | _ => vesselRound e v (f.vessel v fun x => { x with fill := .none })

/-- R118: the step of a RUNNING vessel ends with an exit code. The first argument bounds the chain of FILL steps without a
volume, each of which ends on entry (R116); a program has at most 16 steps (R78). In DONE the program position stays with its copies
(R88, R118), against the last sentence of R85: the model's choice (log entry 45). -/
def endStepWith : Nat → Env → Fin 6 → Nat → Floor → Floor
  | 0, _, _, _, f => f
  | n + 1, e, v, code, f =>
    let c := f.vessels[v].ctx
    let f := raiseEvent e 17 v (c.item + 256 * code : Nat) f
    match boundary e.bank (.vessel v) c with
    | .next p => enterStepWith (endStepWith n e v 0) e v p f
    | .gone i => stopFillForHold e v (enterGone e (.vessel v) i f)
    | .ended =>
      let f := f.vessel v fun x =>
        { x with
          ctx := x.ctx.enter .done
          fill := .none
          endCo2 := some (stepCo2Limit c.fields, stepCo2Hysteresis c.fields) }
      vesselRound e v (raiseEvent e 9 v (match c.pos with | some p => p.program | none => 0) f)

/-- R118: the step ends. -/
def endStep (e : Env) (v : Fin 6) (code : Nat) (f : Floor) : Floor := endStepWith 17 e v code f

/-- R114: a RUNNING vessel enters the step at `p`. -/
def enterStep (e : Env) (v : Fin 6) (p : Position) (f : Floor) : Floor := enterStepWith (endStep e v 0) e v p f

/-- R116: the terminal-count report of the fill channel. -/
def vesselTerminal (e : Env) (v : Fin 6) (f : Floor) : Floor :=
  let x := f.vessels[v]
  if x.ctx.state = .running ∧ stepKind x.ctx.fields = .fill ∧ x.fill = .filling then
    endStep e v 0 (f.vessel v fun x => { x with fill := .complete })
  else f

/-- R116: the condition that an evaluation of a RUNNING vessel tests. -/
def stepExitMet (e : Env) (v : Fin 6) (x : Vessel) : Bool :=
  let l := x.ctx.fields
  match stepKind l with
  | .drain => decide (stepMinTime l ≤ x.timer) && (e.level v).usable && decide ((e.level v).value ≤ stepDrainLevel l)
  | .wet =>
    decide (0 < stepMoistureTarget l) && decide (stepMinTime l ≤ x.timer) &&
      (match (e.vote (e.bank.unitGroups (.vessel v)).2).value with
        | some m => decide (stepMoistureTarget l ≤ m)
        | none => false)
  | .fill => false
  | .airRest => false

/-- R119: the exit test of a RUNNING vessel has ended its step. The round of the new step or of DONE takes the place of this
evaluation's decisions; in HELD(PROGRAM_GONE), which makes no round of its own, they are made by the row of HELD. -/
def stepExit (e : Env) (v : Fin 6) (f : Floor) : Floor :=
  let g := endStep e v 0 f
  if g.vessels[v].ctx.reason = some .programGone then vesselRound e v g else g

/-- R119: the evaluation of a vessel. It tests the step that stands, also where that step was entered by maximum in the same second:
R116 against the words of R117, the model's choice (log entry 50). -/
def vesselEvaluate (e : Env) (v : Fin 6) (f : Floor) : Floor :=
  match f.vessels[v].ctx.state with
  | .running =>
    reofferVessel e v (if stepExitMet e v f.vessels[v] then stepExit e v f else vesselRound e v f)
  | .held => reofferVessel e v (vesselRound e v f)
  | .done => reofferVessel e v (vesselRound e v f)
  | .discharging => reofferVessel e v (vesselRound e v f)
  | .manual => f
  | _ => reofferVessel e v f

/-- R117: the step timer of a RUNNING vessel has reached the maximum time. An evaluation of the same second may end the new step
(the model's choice, log entry 50). -/
def stepMaximum (e : Env) (v : Fin 6) (f : Floor) : Floor :=
  let x := f.vessels[v]
  if x.ctx.state = .running ∧ stepMaxTime x.ctx.fields ≤ x.timer then
    endStep e v 1 (if x.fill = .filling then stopUnitChannel e (.vessel v) f else f)
  else f

/-- R115: a second of the time base at a vessel. -/
def vesselSecond (e : Env) (v : Fin 6) (f : Floor) : Floor :=
  let x := f.vessels[v]
  if x.ctx.state = .running then
    if (e.water v).usable then f.vessel v fun x => { x with timer := min 604800 (x.timer + 1), note := false }
    else if x.note then f
    else raiseEvent e 16 v x.ctx.item (f.vessel v fun x => { x with note := true })
  else f

/-! ### Station control (R125–R128) -/

/-- R92, R93, R114, R122: a vessel with a batch begins a program. Its output records begin at NONE, so that the first step commands
every output, those decided OFF too, after a former batch as well (read from R122 by inference, log entry 60). -/
def startVessel (e : Env) (v : Fin 6) (program : Nat) (f : Floor) : Floor :=
  let f := f.vessel v fun x => { x.forgetOutputs with origin := e.second, ctx := x.ctx.enter .running }
  enterStep e v (e.bank.position (.vessel v) program 0) f

/-- What the fill request of a RESUME gives (R125). -/
inductive FillAnswer where
  | granted
  | refused
  | finished
deriving DecidableEq, Repr

/-- R125: the request that takes up an unfinished fill. -/
def fillRequest (e : Env) (v : Fin 6) (f : Floor) : Floor × FillAnswer :=
  match f.vessels[v].fill with
  | .notBegun =>
    let r := startFill e v f
    (r.1, if r.2 then .granted else .refused)
  | .filling =>
    match e.bank.unitChannel (.vessel v) with
    | none => (f, .refused)
    | some c =>
      if f.channels[c].current = 0 then (f, .finished)
      else
        let r := continueChannel e (.vessel v) c f
        (r.1, if r.2 = .refused then .refused else .granted)
  | _ => (f, .granted)

/-- R125: a vessel that has re-entered RUNNING makes a decision round and its offers; all of them after HELD(RESTART). -/
def resumeRound (e : Env) (v : Fin 6) (fromRestart : Bool) (f : Floor) : Floor :=
  let f := vesselRound e v f
  if fromRestart then offerAllOutputs e v f else reofferVessel e v f

/-- R125: an accepted RESUME returns a vessel to RUNNING, the answer of its fill request being `a`. -/
def vesselTakesUp (e : Env) (v : Fin 6) (fromRestart : Bool) (a : FillAnswer) (f : Floor) : Floor :=
  match a with
  | .granted => resumeRound e v fromRestart f
  | .finished => resumeRound e v fromRestart (endStep e v 0 (f.vessel v fun x => { x with fill := .complete }))
  | .refused => resumeRound e v fromRestart (holdVessel e v .dose f)

/-- R95, R125: RESUME of a vessel whose resume state is RUNNING; the answer says whether it is accepted. -/
def resumeVessel (e : Env) (v : Fin 6) (reason : HoldReason) (f : Floor) : Floor × Bool :=
  let run := fun f : Floor => f.vessel v fun x => { x with ctx := x.ctx.enter .running }
  if reason = .dose then
    let r := fillRequest e v f
    if r.2 = .refused then (r.1, false) else (vesselTakesUp e v false r.2 (run r.1), true)
  else
    let r := fillRequest e v (run f)
    (vesselTakesUp e v (reason == .restart) r.2 r.1, true)

/-- R86: a vessel in HELD(PROGRAM_GONE) has fetched its noted step. -/
def vesselFetches (e : Env) (v : Fin 6) (p : Position) (f : Floor) : Floor :=
  reofferVessel e v (enterStep e v p (f.vessel v fun x => { x with ctx := x.ctx.enter .running }))

/-- R127: a vessel that has entered MANUAL. -/
def vesselManual (e : Env) (v : Fin 6) (f : Floor) : Floor :=
  let f := if f.vessels[v].fill = .filling then stopUnitChannel e (.vessel v) f else f
  f.vessel v Vessel.forgetOutputs

/-- R128: STOP_PROGRAM on a vessel. -/
def vesselStopProgram (e : Env) (v : Fin 6) (f : Floor) : Floor :=
  let f := stopUnitChannel e (.vessel v) f
  let f := f.vessel v fun x =>
    { x with
      fill := .none
      endCo2 :=
        match x.ctx.pos with
        | some p => some (stepCo2Limit p.fields, stepCo2Hysteresis p.fields)
        | none => x.endCo2
      ctx := { x.ctx.enter .done with pos := none } }
  vesselRound e v f

/-- R128: an output at rest: one that is ON is decided OFF. -/
def restOutput (e : Env) (v : Fin 6) (f : Floor) (o : Fin 5) : Floor :=
  if f.vessels[v].outs[o].decision = .on then decideOutput e v o .off f else f

/-- R128: a vessel made EMPTY by TRANSFER_DONE or DISCARD. -/
def vesselEmptied (e : Env) (v : Fin 6) (f : Floor) : Floor :=
  ((List.finRange 5).foldl (restOutput e v) f).vessel v fun x => { x with endCo2 := none }

/-! ### RESTART (R129) -/

/-- R129: an output record at RESTART. -/
def restartOutput (b : Bank) (v : Fin 6) (x : Vessel) (o : Fin 5) : Vessel :=
  { x with outs := upd x.outs o fun r => { r with pending := r.decision != .none && (vesselActuator b v o).isSome } }

/-- R129: RESTART at a vessel, after its unit state has been settled (R110). -/
def restartVessel (e : Env) (v : Fin 6) (x : Vessel) : Vessel := (List.finRange 5).foldl (restartOutput e.bank v) x

end Sys2Proof.Machine
end

