-- ==== Sys2Proof/Machine/Batches.lean ====
section
/-! DEFINITION. The Batch Table (R99–R109): attempts, transfers, and what a change of the register does to the transfers that
wait; with the officer's functions on the register (R202–R205). -/

namespace Sys2Proof.Machine

/-! ### The waiting transfers (R103) -/

/-- The transfer record of a slot, while it waits for its sample. -/
def waitingTransfer (f : Floor) (b : Fin 20) : Option (Batch × Transfer) :=
  match f.batches[b] with
  | some x =>
    match x.transfer with
    | some t => if t.phase = .pendingSample then some (x, t) else none
    | none => none
  | none => none

/-- Changes the transfer record of a batch. -/
def Floor.transfer (f : Floor) (b : Fin 20) (g : Transfer → Transfer) : Floor :=
  f.batch b fun x => { x with transfer := x.transfer.map g }

/-- The place of a waiting transfer in the order of acceptance. -/
def transferOrder (f : Floor) (b : Fin 20) : Nat := match waitingTransfer f b with | some (_, t) => t.order | none => 0

/-- Puts a slot in its place by the order of acceptance. -/
def insertSlot (f : Floor) (b : Fin 20) : List (Fin 20) → List (Fin 20)
  | [] => [b]
  | x :: r => if transferOrder f b < transferOrder f x then b :: x :: r else x :: insertSlot f b r

/-- The slots of the waiting transfers, oldest accepted first (R103). -/
def waitingSlots (f : Floor) : List (Fin 20) :=
  ((List.finRange 20).filter fun b => (waitingTransfer f b).isSome).foldr (insertSlot f) []

/-! ### Attempts (R102, R104, R105) -/

/-- The kind of the sample that a transfer from a unit takes (section 5.4). -/
def transferKind : PlantUnit → SampleKind
  | .vessel _ => .steepOut
  | .box _ => .kilnIn
  | .kiln _ => .kilnOut

/-- R193, R200: the moisture estimate and the peat delivered, for a kiln. -/
def kilnFigures (f : Floor) : PlantUnit → Option Nat × Option Nat
  | .kiln k => (if f.kilns[k].noBasis then none else some f.kilns[k].moisture, some f.kilns[k].peatDelivered)
  | _ => (none, none)

/-- The new figure, or the old one where the vote gave no value (R105). -/
def overwrite (old new : Option Int) : Option Int := match new with | some i => some i | none => old

/-- R105: the voted figures are copied into the batch, by the sample kind. -/
def Batch.withFigures (x : Batch) (mass moisture : Option Int) : Batch :=
  let put := fun o : Figures => ⟨overwrite o.mass mass, overwrite o.moisture moisture⟩
  match x.location with
  | .vessel _ => { x with steepOut := put x.steepOut }
  | .box _ => { x with kilnIn := put x.kilnIn }
  | .kiln _ => { x with kilnOut := put x.kilnOut }

/-- R105, R200: the transfer's record and its reservation are written, and the transfer enters IN_TRANSIT. `told` says
that the TRANSFER has been answered WAIT. Of the events of one write REGISTER_HIGH is the last (the model's choice, log entry
49). -/
def writeTransfer (e : Env) (b : Fin 20) (x : Batch) (votes : Vote × Vote) (told : Bool) (f : Floor) : Floor :=
  let before := f.register
  let n := before.retained.next
  let unit := x.location.index
  let figures := kilnFigures f x.location
  let rec' := { sampleOf e (transferKind x.location) x.id unit votes.1.figure votes.1.status votes.2.figure
    votes.2.status with estimate := figures.1, peat := figures.2 }
  let f := f.reg fun r =>
    { r with
      retained := writeRecord r.retained rec'
      reservations := r.reservations ++
        [⟨n, x.id, unit, votes.1.figure, votes.1.status, votes.2.figure, votes.2.status⟩] }
  let f := f.batch b fun y =>
    { (y.withFigures votes.1.value votes.2.value).sampled n votes.1.status votes.2.status with
      inTransit := true
      transfer := y.transfer.map fun t => { t with phase := .inTransit, sample := some n } }
  let f := if told then raiseEvent e 11 unit n f else f
  let f := if unverifiedBy votes.1.status votes.2.status then raiseEvent e 12 unit x.id f else f
  reportRegister e before f

/-- R102, R103: an attempt of a waiting transfer. -/
def attemptOnce (e : Env) (b : Fin 20) (told : Bool) (f : Floor) : Floor :=
  match waitingTransfer f b with
  | none => f
  | some (x, t) =>
    if f.register.state = .ready ∧ f.register.room 2 then
      let votes := unitVotes e x.location
      if t.waitExpired ∨ !unverifiedBy votes.1.status votes.2.status then writeTransfer e b x votes told f
      else if t.voteWait = none then f.transfer b fun t => { t with voteWait := some e.second }
      else f
    else f

/-- R104: the vote wait of a waiting transfer has expired at this second. -/
def voteWaitDue (e : Env) (f : Floor) (b : Fin 20) : Bool :=
  match waitingTransfer f b with
  | some (_, t) =>
    match t.voteWait with
    | some s => !t.waitExpired && decide (s + e.bank.unsigned 0 0 14 ≤ e.second)
    | none => false
  | none => false

/-- R104: the vote wait expires, and an attempt is made at once. -/
def expireWait (e : Env) (b : Fin 20) (f : Floor) : Floor :=
  if voteWaitDue e f b then attemptOnce e b true (f.transfer b fun t => { t with waitExpired := true }) else f

/-- An attempt; a vote wait that it starts with SAMPLE_WAIT 0 expires at the same second (R104). One that a swap of SAMPLE_WAIT has
left in the past expires here too, which is the model's choice (log entry 46). -/
def attemptSlot (e : Env) (f : Floor) (b : Fin 20) : Floor := expireWait e b (attemptOnce e b true f)

/-- R103, R206: a register change notice: every waiting transfer attempts, oldest accepted first. -/
def registerChanged (e : Env) (f : Floor) : Floor := (waitingSlots f).foldl (attemptSlot e) f

/-- The notice that follows where an operation has changed the record count or the reservation count. -/
def noticeIfWritten (e : Env) (op : Floor → Floor) (f : Floor) : Floor :=
  let g := op f
  if g.register.retained.next = f.register.retained.next then g else registerChanged e g

/-- R103: an attempt of one waiting transfer, with the register change it may make. -/
def transferAttempt (e : Env) (b : Fin 20) (f : Floor) : Floor := noticeIfWritten e (fun f => attemptSlot e f b) f

/-- R104: the expiry of a vote wait. -/
def voteWaitExpiry (e : Env) (b : Fin 20) (f : Floor) : Floor := noticeIfWritten e (expireWait e b) f

/-- R103: point `p` is a member of the source's mass or moisture vote group. -/
def transferUses (e : Env) (f : Floor) (p : Nat) (b : Fin 20) : Bool :=
  match waitingTransfer f b with
  | some (x, _) =>
    (e.bank.groupMembers (e.bank.unitGroups x.location).1).any (· == (p : Int)) ||
      (e.bank.groupMembers (e.bank.unitGroups x.location).2).any (· == (p : Int))
  | none => false

/-- R31, R103: a notice for point `p` at the Batch Table. Several waiting transfers attempt in the order of acceptance, which R103
gives for a register change alone (the model's choice, log entry 66). -/
def batchNotice (e : Env) (p : Nat) (f : Floor) : Floor :=
  ((waitingSlots f).filter (transferUses e f p)).foldl (fun f b => transferAttempt e b f) f

/-! ### TRANSFER (R101) -/

/-- The unit that a destination byte names. -/
def unitOfByte (b : Byte) : Option PlantUnit := unitOf b.toNat

/-- R101 test 4: source and destination form a path. -/
def pathAllowed (source : PlantUnit) (dest : Option PlantUnit) : Bool :=
  match source, dest with
  | .vessel _, some (.box _) => true
  | .box _, some (.kiln _) => true
  | .kiln _, none => true
  | _, _ => false

/-- R101 test 5: a unit destination can receive. -/
def destinationReady (e : Env) (f : Floor) : Option PlantUnit → Bool
  | none => true
  | some u =>
    (f.ctx u).state == .empty && e.bank.inService u.index &&
      (match u with | .box b => e.bank.boxBinding b 5 != 0 | _ => true)

/-- R101: the acceptance of a transfer. -/
def acceptTransfer (e : Env) (b : Fin 20) (x : Batch) (dest : Option PlantUnit) (f : Floor) : Floor :=
  let f := f.updCtx x.location fun c => { c with state := .discharging }
  let f := match dest with | some u => f.updCtx u fun c => { c with state := .receiving } | none => f
  let f := f.batch b fun y =>
    { y with
      transfer := some
        { dest := dest, phase := .pendingSample, startTime := e.time, startUnset := e.timeUnset, startSecond := e.second,
          voteWait := none, waitExpired := false, sample := none, overdue := false, order := f.acceptCount } }
  { f with acceptCount := f.acceptCount + 1 }

/-- The sample number of the transfer in a slot. -/
def transferSample (f : Floor) (b : Fin 20) : Option Nat :=
  match f.batches[b] with
  | some x => match x.transfer with | some t => t.sample | none => none
  | none => none

/-- R101: an accepted TRANSFER: the first attempt, the reply, and what follows it. -/
def transferBegins (e : Env) (b : Fin 20) (id : Nat) (reply : Status → Int → Floor → Floor) (f : Floor) : Floor :=
  let g := attemptOnce e b false f
  match transferSample g b with
  | some n => registerChanged e (reply .ok n g)
  | none => voteWaitExpiry e b (reply .wait id g)

/-- R101: TRANSFER. -/
def serveTransfer (e : Env) (id : Nat) (qual : Byte) (reply : Status → Int → Floor → Floor) (f : Floor) : Floor :=
  let dest := unitOfByte qual
  match f.findBatch id with
  | none => reply .badArgument 0 f
  | some b =>
    match f.batches[b] with
    | none => reply .badArgument 0 f
    | some x =>
      if dest = none ∧ qual ≠ 255#8 then reply .badArgument 0 f
      else if x.transfer ≠ none then reply .busy 0 f
      else if x.exciseHold then reply .hold 0 f
      else if (f.ctx x.location).state ≠ .done ∨ !pathAllowed x.location dest then reply .refused 0 f
      else if !destinationReady e f dest then reply .refused 0 f
      else transferBegins e b id reply (acceptTransfer e b x dest f)

/-! ### TRANSFER_DONE and TRANSFER_ABORT (R106, R107) -/

/-- What the emptied unit's chapter says it does (R128, R169, R193). -/
def unitEmptied (e : Env) (u : PlantUnit) (f : Floor) : Floor :=
  match u with
  | .vessel v => vesselEmptied e v f
  | .box b => boxEmptied e b f
  | .kiln k => kilnEmptied e k f

/-- A unit becomes EMPTY with no batch. -/
def emptyUnit (e : Env) (u : PlantUnit) (f : Floor) : Floor :=
  unitEmptied e u (f.updCtx u fun c => { c.enter .empty with batch := none, pos := none })

/-- R98, R106: a batch is freed, with the unit that last held it. -/
def freeBatch (e : Env) (b : Fin 20) (x : Batch) (f : Floor) : Floor :=
  raiseEvent e 10 x.location.index x.id { f with batches := f.batches.set b none }

/-- R106: the reservation of a transfer is released. -/
def releaseReservation (x : Batch) (t : Transfer) (f : Floor) : Floor :=
  f.reg fun r => { r with reservations := r.reservations.filter fun v => !(v.batch == x.id && some v.number == t.sample) }

/-- R106: a transfer is completed. For STORE the emptied kiln's command comes before BATCH_FREED (the model's choice, log entry
59). -/
def completeTransfer (e : Env) (b : Fin 20) (x : Batch) (t : Transfer) (f : Floor) : Floor :=
  let f := emptyUnit e x.location (releaseReservation x t f)
  match t.dest with
  | some u =>
    (f.updCtx u fun c => { c.enter .loaded with batch := some x.id }).batch b fun y =>
      { y with location := u, inTransit := false, transfer := none }
  | none => freeBatch e b x f

/-- R106: TRANSFER_DONE. -/
def serveTransferDone (e : Env) (id : Nat) (reply : Status → Int → Floor → Floor) (f : Floor) : Floor :=
  match f.findBatch id with
  | none => reply .badArgument 0 f
  | some b =>
    match f.batches[b] with
    | none => reply .badArgument 0 f
    | some x =>
      match x.transfer with
      | none => reply .refused 0 f
      | some t =>
        if t.phase ≠ .inTransit then reply .busy 0 f
        else if x.exciseHold then reply .hold 0 f
        else registerChanged e (reply .ok id (completeTransfer e b x t f))

/-- R201: the VOID record of a transfer's reservation is written; the answer is its number. -/
def writeVoid (e : Env) (b : Fin 20) (t : Transfer) (f : Floor) : Floor × Nat :=
  match f.register.reservations.find? fun v => some v.number == t.sample with
  | none => (f, 0)
  | some v =>
    let n := f.register.retained.next
    let void := { sampleOf e .void v.batch v.unit v.mass v.massStatus v.moisture v.moistureStatus with
      voided := some v.number }
    let f := f.reg fun r =>
      { r with
        retained := writeRecord r.retained void
        reservations := r.reservations.filter fun w => w.number != v.number }
    (f.batch b (·.sampled n v.massStatus v.moistureStatus), n)

/-- R107: a transfer is given up; the answer is the number of the VOID, or 0. -/
def abortTransfer (e : Env) (b : Fin 20) (x : Batch) (t : Transfer) (f : Floor) : Floor × Nat :=
  let r := if t.phase = .inTransit then writeVoid e b t f else (f, 0)
  let g := r.1.updCtx x.location fun c => { c with state := .done }
  let g := match t.dest with | some u => g.updCtx u fun c => { c with state := .empty } | none => g
  (g.batch b fun y => { y with transfer := none, inTransit := false }, r.2)

/-- R107: TRANSFER_ABORT. -/
def serveTransferAbort (e : Env) (id : Nat) (reply : Status → Int → Floor → Floor) (f : Floor) : Floor :=
  match f.findBatch id with
  | none => reply .badArgument 0 f
  | some b =>
    match f.batches[b] with
    | none => reply .badArgument 0 f
    | some x =>
      match x.transfer with
      | none => reply .refused 0 f
      | some t =>
        let r := abortTransfer e b x t f
        let g := reply .ok r.2 r.1
        if t.phase = .inTransit then registerChanged e g else g

/-! ### Overdue transfers (R108) -/

/-- R108: the transfer in slot `b` becomes overdue at this second. A limit that a swap lowers below the age of the transfer has it
overdue at the next second (the model's choice, log entry 73). -/
def overdueDue (e : Env) (f : Floor) (b : Fin 20) : Bool :=
  match f.batches[b] with
  | some x =>
    match x.transfer with
    | some t =>
      let limit := e.bank.unsigned 0 0 13
      !t.overdue && limit != 0 && decide (t.startSecond + limit * 60 ≤ e.second)
    | none => false
  | none => false

/-- R108. -/
def transferOverdue (e : Env) (b : Fin 20) (f : Floor) : Floor :=
  if overdueDue e f b then
    match f.batches[b] with
    | some x => raiseEvent e 13 x.location.index x.id (f.transfer b fun t => { t with overdue := true })
    | none => f
  else f

/-! ### The officer's functions (R202–R205) and the end of the walk (R208) -/

/-- R203: BASE. R206: the register gives its change notice where BASE has changed its state; the record count and the
reservation count stay 0. -/
def serveBase (e : Env) (n : Nat) (reply : Status → Int → Floor → Floor) (f : Floor) : Floor :=
  let r := f.register
  if r.state = .checking then reply .busy 0 f
  else if r.retained.records ≠ [] ∨ r.reservations ≠ [] then reply .refused 0 f
  else
    let g := f.reg fun r => { r with state := .ready, retained := rebase r.retained n, firstFailed := none }
    let h := reply .ok n (reportRegister e r g)
    if r.state = .ready then h else registerChanged e h

/-- R204: TAKE of the `k` oldest records, with its two replies. -/
def serveTake (e : Env) (k : Int) (reply : Status → Int → Floor → Floor) (second : Int → Floor → Floor) (f : Floor) :
    Floor :=
  let r := f.register
  if r.state = .checking then reply .busy 0 f
  else if k < 1 ∨ (r.retained.records.length : Int) < k then reply .badArgument 0 f
  else
    match (r.retained.records.take k.toNat).getLast? with
    | none => reply .badArgument 0 f
    | some last =>
      let g := f.reg fun r => { r with retained := takeRecords r.retained k.toNat }
      registerChanged e (second last.check.toNat (reply .ok last.number g))

/-- R202: a SPOT record of the batch in slot `b` is written. -/
def writeSpot (e : Env) (b : Fin 20) (id : Nat) (u : PlantUnit) (officer : Byte) (f : Floor) : Floor :=
  let before := f.register
  let votes := unitVotes e u
  let spot := { sampleOf e .spot id u.index votes.1.figure votes.1.status votes.2.figure votes.2.status with
    officer := some officer }
  let f := f.reg fun r => { r with retained := writeRecord r.retained spot }
  reportRegister e before (f.batch b (·.sampled before.retained.next votes.1.status votes.2.status))

/-- R202: SPOT. -/
def serveSpot (e : Env) (officer qual : Byte) (reply : Status → Int → Floor → Floor) (f : Floor) : Floor :=
  match unitOfByte qual with
  | none => reply .badArgument 0 f
  | some u =>
    if f.register.state = .checking then reply .busy 0 f
    else if f.register.state ≠ .ready then reply .refused 0 f
    else
      match (f.ctx u).batch with
      | none => reply .refused 0 f
      | some id =>
        match f.findBatch id with
        | none => reply .refused 0 f
        | some b =>
          if !f.register.room 1 then reply .full 0 f
          else registerChanged e (reply .ok f.register.retained.next (writeSpot e b id u officer f))

/-- R205: the batch is one that the function names, 0 naming all. -/
def holdNames (id : Nat) (x : Batch) : Bool := id == 0 || x.id == id

/-- R205: the number of batches whose flag the function changes. -/
def holdChanges (id : Nat) (flag : Bool) (f : Floor) : Nat :=
  f.batches.toList.countP fun x => match x with | some x => holdNames id x && x.exciseHold != flag | none => false

/-- R205: sets or clears the flag of the batches named. -/
def setHold (id : Nat) (flag : Bool) (f : Floor) : Floor :=
  { f with batches := f.batches.map fun x => x.map fun x => if holdNames id x then { x with exciseHold := flag } else x }

/-- R205: HOLD_SET (`flag`) and HOLD_CLEAR. -/
def serveHold (id : Nat) (flag : Bool) (reply : Status → Int → Floor → Floor) (f : Floor) : Floor :=
  if id ≠ 0 ∧ f.findBatch id = none then reply .badArgument 0 f
  else reply .ok (holdChanges id flag f) (setHold id flag f)

/-- R206, R208: the walk of the retained records ends. -/
def walkEnds (e : Env) (f : Floor) : Floor :=
  if f.register.state = .checking then registerChanged e (reportRegister e f.register (f.reg Register.walked)) else f

end Sys2Proof.Machine
end

