-- ==== Sys2Proof/Machine/Reports.lean ====
section
/-! DEFINITION. What crosses between blocks: the reports of a dosing channel to its owner, the notices of the Point Store, the
effects of loop silence on the units, and the station's dosing functions (R141–R143). -/

namespace Sys2Proof.Machine

/-! ### Reports of a channel (R116, R123, R130, R167, R187) -/

/-- The owner of a channel, if its binding names the channel (R130: the reports of another channel are ignored). So is a report of the
spray channel that a turn started, once a swap has unbound it from the granted box (log entry 72). -/
def reportedOwner (e : Env) (c : Fin 12) : Option PlantUnit :=
  match e.bank.channelOwner c with
  | some u => if e.bank.unitChannel u = some c then some u else none
  | none => none

/-- R139 step 3: the report of a terminal count, with the quantity delivered. -/
def ownerTerminal (e : Env) (c : Fin 12) (delivered : Nat) (f : Floor) : Floor :=
  match reportedOwner e c with
  | some (.vessel v) => vesselTerminal e v f
  | some (.box b) => sprayReport e b f
  | some (.kiln k) => kilnTerminal k delivered f
  | none => f

/-- R140 step 4, R143 step 1: the report of a stop by mask or of a clearing. -/
def ownerStopped (e : Env) (c : Fin 12) (f : Floor) : Floor :=
  match reportedOwner e c with
  | some (.vessel v) => vesselStopped e v f
  | some (.box b) => sprayReport e b f
  | some (.kiln k) => kilnStopped e k f
  | none => f

/-- R139: the terminal count of a channel. -/
def terminalCount (e : Env) (c : Fin 12) (f : Floor) : Floor := terminalCountWith (ownerTerminal e c) e c f

/-- R139: the terminal count is due: an open channel whose current count is 0. -/
def terminalDue (f : Floor) (c : Fin 12) : Bool := f.channels[c].isOpen && f.channels[c].current == 0

/-! ### Notices of the Point Store (R31, R34) -/

/-- R137–R139: a sample notice for point `p` at channel `c`. -/
def channelNotice (e : Env) (p : Fin 192) (f : Floor) (c : Fin 12) : Floor :=
  if e.bank.meterPoint c = (p : Nat) then
    let r := meterChannel e c (Word.ofValue e.points[p].value).toNat f
    if r.2 then terminalCount e c r.1 else r.1
  else f

/-- R31: a sample notice for point `p` at the blocks of the floor: the channels in ascending number, the Batch Table, the
Turner Arbiter (log entry 10). -/
def sampleNotice (e : Env) (p : Fin 192) (f : Floor) : Floor :=
  arbiterSample e p (batchNotice e p ((List.finRange 12).foldl (channelNotice e p) f))

/-- R189: a quality notice that point `p` has become STALE at a kiln. -/
def kilnQuality (e : Env) (p : Nat) (f : Floor) (k : Fin 2) : Floor :=
  if e.bank.kilnBinding k 1 = p then tripKiln e k .tonLost f else f

/-- R34: a point has become STALE: the notices to the Germination Controller, the Kiln Controller, the Dosing Channels, the
Turner Arbiter and the Batch Table, and POINT_STALE for a watched point. The order among these parts, and the ascending number in
which the boxes, the kilns and the channels that use the point act, are the model's choice (log entry 10). -/
def staleNotice (e : Env) (p : Nat) (f : Floor) : Floor :=
  let f := (List.finRange 12).foldl (fun f b => boxQuality e p b f) f
  let f := (List.finRange 2).foldl (kilnQuality e p) f
  let f := (List.finRange 12).foldl (fun f c => maskChannel (ownerStopped e c) e c p f) f
  let f := batchNotice e p (arbiterQuality e p true f)
  if e.bank.watched p then raiseEvent e 4 0 p f else f

/-- R34: a point has come back from STALE to FRESH. -/
def backNotice (e : Env) (p : Nat) (f : Floor) : Floor :=
  let f := arbiterQuality e p false f
  if e.bank.watched p then raiseEvent e 5 0 p f else f

/-! ### Loop silence (R16) -/

/-- R16: a RUNNING vessel enters HELD(LOOP). -/
def vesselSilent (e : Env) (f : Floor) (v : Fin 6) : Floor :=
  if f.vessels[v].ctx.state = .running then holdVessel e v .loop f else f

/-- R16: a RUNNING box enters HELD(LOOP). -/
def boxSilent (e : Env) (f : Floor) (b : Fin 12) : Floor :=
  if f.boxes[b].ctx.state = .running then holdBox e b .loop f else f

/-- R16: the loop has entered SILENT: the kilns trip, the other units are held, and LOOP_SILENT is raised. The order, and that the
arbiter's grant decision may fall between two holds, is the model's choice (log entry 38). -/
def floorSilent (e : Env) (f : Floor) : Floor :=
  let f := (List.finRange 2).foldl (fun f k => tripKiln e k .loop f) f
  let f := (List.finRange 12).foldl (boxSilent e) ((List.finRange 6).foldl (vesselSilent e) f)
  raiseEvent e 1 0 0 f

/-! ### Station functions on channels (R141–R143) -/

/-- R141 test 3: the owner is a steep vessel or a kiln. -/
def stationOwner (e : Env) (c : Fin 12) : Option PlantUnit :=
  match e.bank.channelOwner c with
  | some (.box _) => none
  | o => o

/-- R141 test 4: the owner is MANUAL or EMPTY. -/
def ownerFree (f : Floor) (u : PlantUnit) : Bool := (f.ctx u).state == .manual || (f.ctx u).state == .empty

/-- R141: DOSE_START, for a channel number in range. The owner is unit `u`, of test 3. -/
def doseStartTests (e : Env) (c : Fin 12) (value : Int) (f : Floor) : Option Status :=
  if value < 1 then some .badArgument
  else if e.bank.channelMode c = .demand then some .refused
  else
    match stationOwner e c with
    | none => some .refused
    | some u =>
      if !ownerFree f u then some .refused
      else if f.channels[c].isOpen ∧ e.bank.channelMode c ≠ .single then some .busy
      else none

/-- R141: DOSE_START. -/
def serveDoseStart (e : Env) (qual : Byte) (value : Int) (reply : Status → Int → Floor → Floor) (f : Floor) : Floor :=
  match indexOf 12 qual.toNat with
  | none => reply .badArgument 0 f
  | some c =>
    match doseStartTests e c value f with
    | some st => reply st 0 f
    | none =>
      let r := maskRule e c f
      if r.2 then reply .ok value (beginDose e c (baseCount value) r.1).1 else reply .refused 0 r.1

/-- R142: both points of a channel are FRESH. -/
def pointsFresh (e : Env) (c : Fin 12) : Bool :=
  (e.point (e.bank.meterPoint c)).quality == .fresh && (e.point (e.bank.feedbackPoint c)).quality == .fresh

/-- R142: UNMASK. -/
def serveUnmask (e : Env) (qual : Byte) (reply : Status → Int → Floor → Floor) (f : Floor) : Floor :=
  match indexOf 12 qual.toNat with
  | none => reply .badArgument 0 f
  | some c =>
    let x := f.channels[c]
    if !x.masked then reply .ok x.state.code f
    else if pointsFresh e c then reply .ok x.state.code (f.channel c fun x => { x with masked := false })
    else reply .refused x.state.code f

/-- R143: one channel is cleared. Its state of step 2 is entered before the report, which finds it no longer open (log entry
11). -/
def clearChannel (e : Env) (f : Floor) (c : Fin 12) : Floor :=
  let x := f.channels[c]
  let f := if x.isOpen then setValve e c .closed f else f
  let f := f.channel c fun x =>
    { x with state := .idle, base := 0, current := 0, tc := false, masked := true, note := false }
  if x.isOpen then ownerStopped e c f else f

/-- The number of open channels. -/
def openChannels (f : Floor) : Nat := f.channels.toList.countP Channel.isOpen

/-- R143: DOSE_CLEAR. -/
def serveDoseClear (e : Env) (reply : Status → Int → Floor → Floor) (f : Floor) : Floor :=
  reply .ok (openChannels f) ((List.finRange 12).foldl (clearChannel e) f)

/-- R165: TURNER_ENABLE. -/
def serveTurnerEnable (e : Env) (reply : Status → Int → Floor → Floor) (f : Floor) : Floor :=
  reply .ok f.arbiter.faults (turnerEnable e f)

end Sys2Proof.Machine
end

