-- ==== Sys2Proof/Machine/Points.lean ====
section
/-! DEFINITION. The Point Store (spec/02_points_and_voting.md): taking a sample, ageing, and the refresh polls. -/

namespace Sys2Proof.Machine

/-! ### Polls (R41–R45) -/

/-- R213: the detail code of a REFRESH answered with a point's record. -/
def pointDetail (p : Point) : Nat := 128 + p.quality.code + 4 * p.clamped.toNat + 8 * p.suspect.toNat

/-- The function code of REFRESH (section 11.1). -/
def refreshCode : Byte := 48#8

/-- A requester of a poll list entry is answered with the point's record. -/
def answerRequester (e : Env) (p : Point) (f : Floor) (r : Byte × Byte) : Floor :=
  offerReply e r.1 refreshCode r.2 p.value (pointDetail p) f

/-- R44, R45: a poll list entry is answered and freed. -/
def answerPoll (i : Fin 4) (s : State) : State :=
  match s.polls[i] with
  | none => s
  | some q =>
    { s with
      floor := q.requesters.foldl (answerRequester s.env s.points[q.point]) s.floor
      polls := s.polls.set i none }

/-- The poll list entry for a point. -/
def pollFor (s : State) (p : Fin 192) : Option (Fin 4) :=
  firstIndex s.polls fun x => match x with | some q => q.point == p | none => false

/-- R44: the entry for a point that has taken a sample is answered. -/
def pollAnswered (p : Fin 192) (s : State) : State :=
  match pollFor s p with
  | some i => answerPoll i s
  | none => s

/-- R42: offers the POLL cell of a poll list entry, by the lowest Channel Map entry that names its point. That a re-offer after a
swap goes by the new bank's entry, and offers nothing while it has none, is the model's choice (log entry 41). -/
def offerPoll (i : Fin 4) (s : State) : State :=
  match s.polls[i] with
  | none => s
  | some q =>
    match s.tables.active.mapOfPoint q.point with
    | none => s
    | some m =>
      let cell : QCell :=
        ⟨mapByte (s.tables.active.field 1 m 1), 3#8, mapByte (s.tables.active.field 1 m 2), BitVec.ofNat 8 i, 0#32, 0#8,
          s.second⟩
      let r := offerCommand cell s.floor
      { s with floor := r.1, polls := s.polls.set i (some { q with offered := r.2 }) }

/-- R43: a REFRESH joins an entry; `none` is BUSY. -/
def joinPoll (r : Byte × Byte) (q : Poll) : Option Poll :=
  if q.requesters.contains r then some q
  else if q.requesters.length < 4 then some { q with requesters := q.requesters ++ [r] }
  else none

/-- Whether a poll list entry has reached its deadline (R45). -/
def pollDue (s : State) (i : Fin 4) : Bool :=
  match s.polls[i] with
  | some q => decide (q.made + 2 ≤ s.second)
  | none => false

/-- R45: the deadline of a poll list entry. -/
def pollDeadline (i : Fin 4) (s : State) : State := if pollDue s i then answerPoll i s else s

/-! ### Taking a sample (R26–R31) -/

/-- R28: the engineering value of a raw value, before clamping. -/
def scaled (b : Bank) (p : Nat) (raw : Int) : Int := (raw * b.gain p).fdiv 256 + b.field 2 p 2

/-- R28–R31: the record of a point that has taken a sample. -/
def takenPoint (b : Bank) (p : Nat) (raw : Int) (suspect : Bool) : Point :=
  if b.isTotal p then ⟨raw, .fresh, false, suspect, 0⟩
  else
    let v := scaled b p raw
    let c := clamp (b.lo p) (b.hi p) v
    ⟨c, .fresh, c != v, suspect, 0⟩

/-- R31, R34: a value has been taken: POINT_BACK's announcement where the point was STALE, and the sample notices to the poll
list, the channels, the Batch Table and the arbiter (log entry 10). -/
def takeSample (p : Fin 192) (raw : Int) (suspect : Bool) (s : State) : State :=
  let wasStale := s.points[p].quality == .stale
  let s := { s with points := s.points.set p (takenPoint s.tables.active p raw suspect) }
  let s := if wasStale then s.onFloor fun e => backNotice e p else s
  (pollAnswered p s).onFloor fun e => sampleNotice e p

/-- R32, R34: a point becomes STALE, and the change is announced. -/
def becomeStale (p : Fin 192) (s : State) : State :=
  ({ s with points := upd s.points p fun x => { x with quality := .stale } } : State).onFloor fun e => staleNotice e p

/-- R27: a FAULT sample. -/
def faultSample (p : Fin 192) (s : State) : State := if s.points[p].usable then becomeStale p s else s

/-- R26: the arrival of a sample, by its probe status. -/
def sampleArrives (p : Fin 192) (value : Word) (status : Byte) (s : State) : State :=
  if status = 0#8 then takeSample p value.toInt false s
  else if status = 1#8 then takeSample p value.toInt true s
  else faultSample p s

/-! ### Ageing (R32) -/

/-- R32: a second at a point's age. -/
def Point.aged (x : Point) : Point := if x.quality = .none then x else { x with age := min 65535 (x.age + 1) }

/-- R32: a point's age has passed its stale time plus hold time, and it is not STALE yet. -/
def staleDue (b : Bank) (p : Nat) (x : Point) : Bool := x.usable && decide (b.staleTime p + b.holdTime p < x.age)

/-- R32: a FRESH point's age has passed its stale time, but not its stale time plus hold time. -/
def heldDue (b : Bank) (p : Nat) (x : Point) : Bool :=
  x.quality == .fresh && decide (b.staleTime p < x.age) && !staleDue b p x

/-- R32: FRESH becomes HELD, which is not announced. -/
def qualityHeld (p : Fin 192) (s : State) : State :=
  if heldDue s.tables.active p s.points[p] then
    { s with points := upd s.points p fun x => { x with quality := .held } }
  else s

/-- R32: FRESH or HELD becomes STALE. -/
def qualityStale (p : Fin 192) (s : State) : State :=
  if staleDue s.tables.active p s.points[p] then becomeStale p s else s

end Sys2Proof.Machine
end

