-- ==== Sys2Proof/Machine/Units.lean ====
section
/-! DEFINITION. The unit commands (R91–R98), with what each unit's chapter adds to them. -/

namespace Sys2Proof.Machine

/-- How a unit command is answered: with the unit's state in the value (OK, REFUSED), or with value 0. -/
structure Answer where
  status : Status
  withState : Bool
deriving DecidableEq, Repr

def Answer.ok : Answer := ⟨.ok, true⟩

def Answer.refused : Answer := ⟨.refused, true⟩

/-- An answer of value 0. -/
def Answer.plain (s : Status) : Answer := ⟨s, false⟩

/-- R91: the frame of every unit command: the qualifier names the unit, a unit in a transfer is BUSY, and the reply is made
of the unit as it stands after the command. -/
def unitCommand (qual : Byte) (serve : PlantUnit → Floor → Floor × Answer) (reply : Status → Int → Floor → Floor)
    (f : Floor) : Floor :=
  match unitOfByte qual with
  | none => reply .badArgument 0 f
  | some u =>
    if (f.ctx u).state.moving then reply .busy 0 f
    else
      let r := serve u f
      reply r.2.status (if r.2.withState then (r.1.ctx u).replyValue else 0) r.1

/-! ### START (R92, R93, R126, R175) -/

/-- LOAD_ONLY (R92). -/
def loadOnly : Nat := 65535

/-- The program number lies in the unit's range and the program has a length greater than 0 in the active bank. -/
def programDefined (e : Env) (u : PlantUnit) (p : Nat) : Bool :=
  decide (p < programCount u) && decide (0 < e.bank.programLength u p)

/-- The conditions that the unit's chapter lays on a start (R126, R169, R175). -/
def startAllowed (e : Env) (u : PlantUnit) (f : Floor) : Bool :=
  match u with
  | .vessel v => !unitChannelOpen e (.vessel v) f
  | .box _ => true
  | .kiln k => firingAllowed e k f

/-- A unit that holds a batch begins a program. -/
def beginProgram (e : Env) (u : PlantUnit) (p : Nat) (f : Floor) : Floor :=
  match u with
  | .vessel v => startVessel e v p f
  | .box b => startBox e b p f
  | .kiln k => startFiring e k p f

/-- The lowest-numbered free slot of the Batch Table (R217). -/
def freeSlot (f : Floor) : Option (Fin 20) := firstIndex f.batches (·.isNone)

/-- R92, R99: the batch record that START creates. -/
def newBatch (id : Nat) (u : PlantUnit) (mass : Int) : Batch where
  id := id
  location := u
  steepIn := mass
  steepOut := ⟨none, none⟩
  kilnIn := ⟨none, none⟩
  kilnOut := ⟨none, none⟩
  samples := []
  exciseHold := false
  unverified := false
  inTransit := false
  transfer := none

/-- R92: an EMPTY vessel takes a new batch. -/
def createBatch (e : Env) (v : Fin 6) (p id : Nat) (slot : Fin 20) (mass : Int) (f : Floor) : Floor :=
  let f := { f with batches := f.batches.set slot (some (newBatch id (.vessel v) mass)) }
  let f := f.vessel v fun x => { x with ctx := { x.ctx.enter .loaded with batch := some id } }
  if p = loadOnly then f else startVessel e v p f

/-- R92: START on an EMPTY vessel. -/
def startEmpty (e : Env) (v : Fin 6) (p id : Nat) (f : Floor) : Floor × Answer :=
  if !e.bank.inService v then (f, .refused)
  else if p ≠ loadOnly ∧ !programDefined e (.vessel v) p then (f, .plain .badArgument)
  else if id = 0 then (f, .plain .badArgument)
  else if f.findBatch id ≠ none then (f, .refused)
  else
    match freeSlot f with
    | none => (f, .plain .full)
    | some slot =>
      match (e.vote (e.bank.unitGroups (.vessel v)).1).value with
      | none => (f, .refused)
      | some mass =>
        if startAllowed e (.vessel v) f then (createBatch e v p id slot mass f, .ok) else (f, .refused)

/-- R93: START on a LOADED unit. -/
def startLoaded (e : Env) (u : PlantUnit) (p id : Nat) (f : Floor) : Floor × Answer :=
  if id ≠ 0 ∧ (f.ctx u).batch ≠ some id then (f, .plain .badArgument)
  else if !programDefined e u p then (f, .plain .badArgument)
  else if startAllowed e u f then (beginProgram e u p f, .ok)
  else (f, .refused)

/-- R92, R93: START. -/
def serveStart (e : Env) (p id : Nat) (u : PlantUnit) (f : Floor) : Floor × Answer :=
  match (f.ctx u).state, u with
  | .loaded, _ => startLoaded e u p id f
  | .empty, .vessel v => startEmpty e v p id f
  | _, _ => (f, .refused)

/-! ### HOLD (R94) -/

/-- R90: a RUNNING unit enters HELD, as its chapter states. -/
def holdUnit (e : Env) (u : PlantUnit) (r : HoldReason) (f : Floor) : Floor :=
  match u with
  | .vessel v => holdVessel e v r f
  | .box b => holdBox e b r f
  | .kiln k => enterHeld e (.kiln k) r .running f

/-- R94. -/
def serveHoldUnit (e : Env) (u : PlantUnit) (f : Floor) : Floor × Answer :=
  match (f.ctx u).state with
  | .running => (holdUnit e u .station f, .ok)
  | .held => (f, .ok)
  | _ => (f, .refused)

/-! ### RESUME (R95, R86, R125, R154, R187, R191) -/

/-- R86: a unit enters the item it has fetched. -/
def enterFetched (e : Env) (u : PlantUnit) (p : Position) (f : Floor) : Floor :=
  match u with
  | .vessel v => vesselFetches e v p f
  | .box b => boxFetches e b p f
  | .kiln k =>
    reofferKiln e k (enterPhase e k false
      (f.kiln k fun x => { x with ctx := { x.ctx.enter .running with pos := some p } }))

/-- R86: RESUME of a unit in HELD(PROGRAM_GONE) repeats the fetch. -/
def resumeGone (e : Env) (u : PlantUnit) (f : Floor) : Floor × Answer :=
  match (f.ctx u).pos, (f.ctx u).noted with
  | some p, some i =>
    if (i : Int) < e.bank.programLength u p.program then (enterFetched e u (e.bank.position u p.program i) f, .ok)
    else (f, .refused)
  | _, _ => (f, .refused)

/-- R187, R192: RESUME of a kiln whose resume state is RUNNING. Where the peat request is refused a kiln from HELD(RESTART) offers
its pending records at its next evaluation, not at the RESUME (the model's choice, log entry 68). -/
def resumeKiln (e : Env) (k : Fin 2) (reason : HoldReason) (f : Floor) : Floor × Bool :=
  let r := resumePeat e k f
  if r.2 then (kilnRunsAgain e k (reason == .restart) r.1, true)
  else if reason = .dose then (r.1, false)
  else (enterHeld e (.kiln k) .dose .running r.1, true)

/-- R95 steps 3 and 4, for a resume state of RUNNING. -/
def resumeRunning (e : Env) (u : PlantUnit) (reason : HoldReason) (f : Floor) : Floor × Bool :=
  match u with
  | .vessel v => resumeVessel e v reason f
  | .box b => if reason = .point ∧ !(e.bed b).usable then (f, false) else (boxRunsAgain e b f, true)
  | .kiln k => resumeKiln e k reason f

/-- R122, R153, R183: the pending outputs of a unit are offered again. -/
def reofferUnit (e : Env) (u : PlantUnit) (f : Floor) : Floor :=
  match u with
  | .vessel v => reofferVessel e v f
  | .box b => reofferFan e b f
  | .kiln k => if f.kilns[k].ctx.state = .tripped ∨ f.kilns[k].ctx.heldRestart then f else reofferKiln e k f

/-- R95: RESUME of a HELD unit. -/
def resumeHeld (e : Env) (u : PlantUnit) (f : Floor) : Floor × Answer :=
  let c := f.ctx u
  match c.reason, c.resume with
  | some .programGone, _ => resumeGone e u f
  | some reason, some .running =>
    let r := resumeRunning e u reason f
    (r.1, if r.2 then .ok else .refused)
  | some _, some back => (reofferUnit e u (f.updCtx u (·.enter back.state)), .ok)
  | _, _ => (f, .refused)

/-- R95, R191: RESUME. -/
def serveResume (e : Env) (u : PlantUnit) (f : Floor) : Floor × Answer :=
  match (f.ctx u).state, u with
  | .held, _ => if e.loopUp then resumeHeld e u f else (f, .refused)
  | .running, _ => (f, .ok)
  | .tripped, .kiln k => if relightAllowed e k f.kilns[k] then (relightKiln e k f, .ok) else (f, .refused)
  | _, _ => (f, .refused)

/-! ### MANUAL and AUTO (R96, R127, R169, R192) -/

/-- R96: the state that MANUAL notes on leaving a state. -/
def manualResume (c : Ctx) : Option ResumeState :=
  match c.state with
  | .loaded => some .loaded
  | .running => some .running
  | .done => some .done
  | .held => if c.reason = some .programGone then none else c.resume
  | _ => none

/-- What entering MANUAL does to the unit's outputs. -/
def unitManual (e : Env) (u : PlantUnit) (f : Floor) : Floor :=
  match u with
  | .vessel v => vesselManual e v f
  | .box b => boxManual e b f
  | .kiln k => kilnManual e k f

/-- R96: MANUAL. -/
def serveManual (e : Env) (u : PlantUnit) (f : Floor) : Floor × Answer :=
  let c := f.ctx u
  if c.state = .manual then (f, .ok)
  else
    match manualResume c with
    | some back => (unitManual e u (f.updCtx u fun c => { c.enter .manual with resume := some back }), .ok)
    | none => (f, .refused)

/-- R96: the state that AUTO gives a MANUAL unit. -/
def leaveManual (e : Env) (u : PlantUnit) (f : Floor) : Floor :=
  match (f.ctx u).resume with
  | some .running => enterHeld e u .station .running f
  | some .loaded => f.updCtx u (·.enter .loaded)
  | some .done => f.updCtx u (·.enter .done)
  | none => f

/-- What AUTO does to the unit's outputs, once it has left MANUAL. A kiln makes a decision round on entering HELD(STATION)
(R192). -/
def unitAuto (e : Env) (u : PlantUnit) (f : Floor) : Floor :=
  match u with
  | .vessel v => vesselRound e v f
  | .box b => boxRound e b f
  | .kiln k => if f.kilns[k].ctx.state = .held then decidePhase e k f else f

/-- A vessel or kiln first stops a channel that the station has opened; the box's channel is the arbiter's. -/
def autoStops (e : Env) (u : PlantUnit) (f : Floor) : Floor :=
  match u with
  | .box _ => f
  | u => stopUnitChannel e u f

/-- R96: AUTO. -/
def serveAuto (e : Env) (u : PlantUnit) (f : Floor) : Floor × Answer :=
  if (f.ctx u).state = .manual then (unitAuto e u (leaveManual e u (autoStops e u f)), .ok) else (f, .ok)

/-! ### STOP_PROGRAM (R97, R128, R169, R192) -/

/-- Enters LOADED with the program position removed. -/
def Ctx.unloadProgram (c : Ctx) : Ctx := { c.enter .loaded with pos := none }

/-- R97: the unit leaves its program. -/
def stopProgram (e : Env) (u : PlantUnit) (f : Floor) : Floor :=
  match u with
  | .vessel v => vesselStopProgram e v f
  | .box b => boxStopped e b (f.boxes[b].ctx.pos.map (·.fields)) (f.updCtx (.box b) Ctx.unloadProgram)
  | .kiln k => (kilnStopProgram e k f).updCtx (.kiln k) Ctx.unloadProgram

/-- R97: STOP_PROGRAM. -/
def serveStopProgram (e : Env) (u : PlantUnit) (f : Floor) : Floor × Answer :=
  match (f.ctx u).state with
  | .running => (stopProgram e u f, .ok)
  | .held => (stopProgram e u f, .ok)
  | .manual => (stopProgram e u f, .ok)
  | .tripped => (stopProgram e u f, .ok)
  | _ => (f, .refused)

/-! ### DISCARD (R98) -/

/-- R98: DISCARD of the batch that a vessel holds. The emptied vessel's commands come before BATCH_FREED (the model's choice, log
entry 59). -/
def discardBatch (e : Env) (v : Fin 6) (f : Floor) : Floor × Answer :=
  match f.vessels[v].ctx.batch with
  | none => (f, .refused)
  | some id =>
    match f.findBatch id with
    | none => (f, .refused)
    | some b =>
      match f.batches[b] with
      | none => (f, .refused)
      | some x =>
        if x.exciseHold then (f, .plain .hold) else (freeBatch e b x (emptyUnit e (.vessel v) f), .ok)

/-- R98: DISCARD. -/
def serveDiscard (e : Env) (u : PlantUnit) (f : Floor) : Floor × Answer :=
  match u, (f.ctx u).state with
  | .vessel v, .loaded => discardBatch e v f
  | .vessel v, .done => discardBatch e v f
  | _, _ => (f, .refused)

/-! ### RESTART at the units (R110, R129, R170, R194) -/

/-- R110: a unit's state at RESTART. -/
def restartUnit (e : Env) (f : Floor) (u : PlantUnit) : Floor :=
  let c := f.ctx u
  match c.state with
  | .running => enterHeld e u .restart .running f
  | .manual => enterHeld e u .restart (match c.resume with | some r => r | none => .loaded) f
  | _ => f

/-- Every unit by its unit index, which is the model's choice of the order in which RESTART takes them (log entry 18). -/
def allUnits : List PlantUnit :=
  (List.finRange 6).map .vessel ++ (List.finRange 12).map .box ++ (List.finRange 2).map .kiln

/-- R110, R221: RESTART at the floor, after the insertion queue has been emptied: the channels, the units, the arbiter. The order
of these parts, and the ascending unit index in which the units are held and raise UNIT_HELD, are the model's choice (log entry
18). -/
def restartFloor (e : Env) (f : Floor) : Floor :=
  let f := { f with queue := f.queue.emptied, channels := f.channels.map (restartChannel e.second) }
  let f := allUnits.foldl (restartUnit e) f
  let f := (List.finRange 6).foldl (fun f v => f.vessel v (restartVessel e v)) f
  let f := (List.finRange 12).foldl (fun f b => f.box b restartBox) f
  let f := (List.finRange 2).foldl (fun f k => f.kiln k restartKiln) f
  restartArbiter e f

end Sys2Proof.Machine
end

