-- ==== Sys2Proof/Machine/Tables.lean ====
section
/-! DEFINITION. The Table Bank (spec/04_loaded_tables_and_activation.md): loading, the tests of activation in the order of
R76, and the swap with its effects on what is in flight. -/

namespace Sys2Proof.Machine

/-! ### Loading (R70–R73) -/

/-- The number of entries that CURSOR accepts of a table or view number (R70, R217–R219); 0 for an invalid number. -/
def cursorEntries (n : Nat) : Nat :=
  if n < 12 then tableEntries n
  else
    match n with
    | 32 => 192
    | 33 => 20
    | 34 => 20
    | 35 => 12
    | 36 => 13
    | 37 => 2
    | 38 => 257
    | 39 => 1
    | 40 => 1
    | _ => 0

/-- The cursor stands on a view. -/
def TableBank.onView (t : TableBank) : Bool := decide (32 ≤ t.cursorNumber)

/-- R70: the cursor takes a valid number and index. -/
def moveCursor (n : Nat) (i : Int) (t : TableBank) : Option TableBank :=
  if 0 ≤ i ∧ i < cursorEntries n then some { t with cursorNumber := n, cursorIndex := i.toNat } else none

/-- R71: the field of the shadow bank that WRITE stores into. -/
def writePlace (field : Nat) (t : TableBank) : Option Nat :=
  if t.cursorNumber < 12 ∧ field < tableFields t.cursorNumber then
    some (flatIndex t.cursorNumber t.cursorIndex field)
  else none

/-- R72: READ of a table field: the bank is the active one where `active` is set. -/
def readTable (field : Nat) (active : Bool) (t : TableBank) : Status × Int :=
  if tableFields t.cursorNumber ≤ field then (.badArgument, 0)
  else if active && !t.present then (.notActive, 0)
  else (.ok, (if active then t.active else t.shadow).field t.cursorNumber t.cursorIndex field)

/-! ### The tests (R76–R79) -/

/-- R67, R77: the identity name. -/
def nameGood (b : Bank) : Bool :=
  b.read 0 == 0x56414C47#32 && b.read 1 == 0x52412037#32 && b.read 2 == 0x31343020#32

/-- R75: the CHECK field equals the remainder. -/
def checkGood (b : Bank) : Bool := b.unsigned 0 0 4 == b.checkCode.toNat

/-- R77: two Channel Map entries share source node and channel. -/
def sameMapKey (b : Bank) (i j : Nat) : Bool := b.field 1 i 1 == b.field 1 j 1 && b.field 1 i 2 == b.field 1 j 2

/-- R76, R81: the higher-numbered entry of a duplicate pair, the lowest such (log entry 26). -/
def duplicateKey (b : Bank) : Option Nat :=
  (List.range 256).find? fun j => b.mapInUse j && (List.range j).any fun i => b.mapInUse i && sameMapKey b i j

/-- R48: the sizes of a window. -/
def windowSizes : List Int := [1, 2, 4, 8, 16, 32, 64, 128]

/-- R48: windows `v` and `w` cover a node in common. -/
def windowsMeet (b : Bank) (v w : Nat) : Bool :=
  decide (max (max (b.field 4 v 1) (b.field 4 w 1)) 0 <
    min (min (b.field 4 v 1 + b.field 4 v 2) (b.field 4 w 1 + b.field 4 w 2)) 256)

/-- R48: window `w` satisfies its conditions, for a part of node number `own`. -/
def windowGood (b : Bank) (own : Byte) (w : Nat) : Bool :=
  let base := b.field 4 w 1
  let size := b.field 4 w 2
  let class' := classOfCode (b.field 4 w 3)
  let target := b.field 4 w 5
  windowSizes.contains size && base % size == 0 && decide (base + size ≤ 255) && class' != .none &&
    (b.field 4 w 4 == 0 || (decide (1 ≤ target) && decide (target + size - 1 ≤ 254))) &&
    !((List.range 8).any fun v => v != w && b.field 4 v 0 != 0 && windowsMeet b v w) &&
    !((class' == .actuator || class' == .turner) && b.windowCovers own w)

/-- R48, R81: the lowest-numbered window at fault. -/
def windowFault (b : Bank) (own : Byte) : Option Nat :=
  (List.range 8).find? fun w => b.field 4 w 0 != 0 && !windowGood b own w

/-- A value of a closed range. -/
def inRange (lo hi i : Int) : Bool := decide (lo ≤ i) && decide (i ≤ hi)

/-- A point index. -/
def goodPoint (i : Int) : Bool := inRange 0 191 i

/-- A vote group index. -/
def goodGroup (i : Int) : Bool := inRange 0 15 i

/-- R111: an actuator reference. -/
def goodActuator (i : Int) : Bool := i == 0 || inRange 256 65279 i

/-- R111, R147, R171: a dosing channel whose entry names unit `u` as its owner. -/
def goodChannel (b : Bank) (u : Nat) (i : Int) : Bool := inRange 0 11 i && b.field 7 i.toNat 0 == (u : Int)

/-- R111, R147, R148, R171: the fields of binding entry `u` lie in their ranges. -/
def bindingGood (b : Bank) (u : Nat) : Bool :=
  let x := b.binding u
  if u < 6 then
    goodPoint (x 1) && goodPoint (x 2) && goodPoint (x 3) && goodGroup (x 4) && goodGroup (x 5) && goodChannel b u (x 6) &&
      goodActuator (x 7) && goodActuator (x 8) && goodActuator (x 9) && goodActuator (x 10) && goodActuator (x 11)
  else if u < 18 then
    goodPoint (x 1) && goodActuator (x 2) && goodPoint (x 3) && goodChannel b u (x 4) && goodGroup (x 6) && goodGroup (x 7)
  else if u < 20 then
    goodPoint (x 1) && goodPoint (x 2) && goodPoint (x 3) && goodPoint (x 4) && goodPoint (x 5) && goodActuator (x 6) &&
      goodActuator (x 7) && goodGroup (x 8) && goodGroup (x 9) && (x 10 == 12 || goodChannel b u (x 10))
  else inRange 1 254 (x 1) && goodPoint (x 6) && goodPoint (x 7)

/-- R52: the index fields of an interlock rule, where its condition uses them. -/
def ruleGood (b : Bank) (r : Nat) : Bool :=
  let cond := b.field 5 r 5
  (!(cond == 1 || cond == 2 || cond == 6) || inRange 0 20 (b.field 5 r 4)) &&
    (!(cond == 4 || cond == 5) || goodPoint (b.field 5 r 6))

/-- R78: entry `e` of table `t` has its index fields in range. -/
def entryGood (b : Bank) (t e : Nat) : Bool :=
  match t with
  | 0 => inRange 1 255 (b.field 0 0 5) && goodPoint (b.field 0 0 8) && goodPoint (b.field 0 0 9) && inRange 0 11 (b.field 0 0 11)
  | 1 => !b.mapInUse e || goodPoint (b.field 1 e 3)
  | 3 => goodPoint (b.field 3 e 0) && goodPoint (b.field 3 e 1) && goodPoint (b.field 3 e 2)
  | 5 => b.field 5 e 0 == 0 || ruleGood b e
  | 6 => !b.inService e || bindingGood b e
  | 7 => inRange 0 19 (b.field 7 e 0) && goodPoint (b.field 7 e 1) && goodPoint (b.field 7 e 2)
  | 8 => decide (e < 128) || decide (b.field 8 e 0 ≤ 16)
  | 9 => decide (e < 64) || decide (b.field 9 e 0 ≤ 8)
  | 10 => decide (e < 32) || decide (b.field 10 e 0 ≤ 8)
  | _ => true

/-- R78, R81: the first entry with a field out of range, tables and entries ascending, as 65536 × table + entry. -/
def badReference (b : Bank) : Option Nat :=
  (List.range 12).findSome? fun t =>
    ((List.range (tableEntries t)).find? fun e => !entryGood b t e).map fun e => 65536 * t + e

/-- R79: the unit of a binding entry is occupied. Entry 20 is occupied while the arbiter has a turn or a parking move in
hand (R148). -/
def occupied (f : Floor) (u : Nat) : Bool :=
  match unitOf u with
  | some x => (f.ctx x).state != .empty
  | none => f.arbiter.state != .idle && f.arbiter.state != .disabled

/-- Entry `e` of table `t` differs between two banks. -/
def entryDiffers (a b : Bank) (t e : Nat) : Bool := a.entry t e != b.entry t e

/-- R79, R81: the first occupied unit, or else the first open channel, whose entry would change. -/
def unitBusy (old new : Bank) (f : Floor) : Option Nat :=
  match (List.range 21).find? fun u => occupied f u && entryDiffers old new 6 u with
  | some u => some (65536 * 6 + u)
  | none =>
    ((List.finRange 12).find? fun c : Fin 12 => f.channels[c].isOpen && entryDiffers old new 7 c).map fun c => 65536 * 7 + (c : Nat)

/-- R77: the generation does not exceed that of an active bank. -/
def oldGeneration (t : TableBank) : Bool := t.present && decide (t.shadow.unsigned 0 0 3 ≤ t.active.unsigned 0 0 3)

/-- R76, R81: the first failure in the order of R76, with the value of the reply. -/
def activationFailure (own : Byte) (f : Floor) (t : TableBank) : Option (Status × Nat) :=
  let b := t.shadow
  if !nameGood b then some (.badName, 0)
  else if !checkGood b then some (.badCheck, b.checkCode.toNat)
  else if oldGeneration t then some (.oldGeneration, t.active.unsigned 0 0 3)
  else
    match duplicateKey b, windowFault b own, badReference b, unitBusy t.active b f with
    | some j, _, _, _ => some (.dupKey, 65536 + j)
    | none, some w, _, _ => some (.badWindow, 65536 * 4 + w)
    | none, none, some v, _ => some (.badReference, v)
    | none, none, none, some v => some (.unitBusy, v)
    | none, none, none, none => none

/-! ### The swap (R80, R83, R84, R145) -/

/-- R83: a point at the swap. -/
def swapPoint (b : Bank) (p : Nat) (x : Point) : Point :=
  if b.isTotal p || x.quality == .none then x
  else
    let c := clamp (b.lo p) (b.hi p) x.value
    if c = x.value then x else { x with value := c, clamped := true }

/-- R84: the evaluation origin of a unit at a swap. The last evaluation second is the origin plus the whole periods that
have passed; where the new one would not lie ahead, it is the next second. -/
def rephase (oldPeriod newPeriod now origin : Nat) : Nat :=
  if oldPeriod = newPeriod then origin
  else
    let last := origin + (now - origin) / oldPeriod * oldPeriod
    let next := last + newPeriod
    (if next ≤ now then now + 1 else next) - newPeriod

/-- R84, R145: the units and the channels at a swap. The output records stay as they are (log entry 47), and so
does the expiry of a parking timer that runs (the model's choice, log entry 58). -/
def swapFloor (old new : Bank) (now : Nat) (f : Floor) : Floor :=
  let move := rephase old.evalSeconds new.evalSeconds now
  { f with
    vessels := f.vessels.map fun x => { x with origin := move x.origin }
    boxes := f.boxes.map fun x => { x with origin := move x.origin }
    kilns := f.kilns.map fun x => { x with origin := move x.origin }
    channels := (List.finRange 12).foldl (fun v c => upd v c (swapChannel old new c)) f.channels }

/-- R80: the two banks change roles, and the activation state is IDLE. -/
def TableBank.swapped (t : TableBank) : TableBank :=
  { t with active := t.shadow, shadow := t.active, present := true, check := none }

/-- R80, R83, R84, R145: the swap. -/
def swapBanks (s : State) : State :=
  let old := s.tables.active
  let new := s.tables.shadow
  { s with
    tables := s.tables.swapped
    points := (List.finRange 192).foldl (fun v p => upd v p (swapPoint new p)) s.points
    retries := .replicate 8 none
    floor := swapFloor old new s.second s.floor }

/-- The function code of ACTIVATE (section 11.1). -/
def activateCode : Byte := 6#8

/-- R80: the reply, TABLES_ACTIVE, and the arbiter's grant decision at a swap (R159), which comes last (the model's choice, log
entry 57). -/
def reportSwap (node tag : Byte) (e : Env) (f : Floor) : Floor :=
  let gen := e.bank.unsigned 0 0 3
  grantDecision e (raiseEvent e 3 0 gen (offerReply e node activateCode tag gen Status.ok.code f))

/-- R76–R81: the check ends. -/
def endOfCheck (s : State) : State :=
  match s.tables.check with
  | none => s
  | some (node, tag) =>
    match activationFailure s.loop.node s.floor s.tables with
    | some (st, v) =>
      ({ s with tables := { s.tables with check := none } } : State).onFloor fun e =>
        offerReply e node activateCode tag v st.code
    | none => (swapBanks s).onFloor fun e => reportSwap node tag e

end Sys2Proof.Machine
end

