-- ==== Sys2Proof/Machine/Views.lean ====
section
/-! DEFINITION. The views (R216–R219): each entry of a view as the list of its fields. An absent value reads as −1 where its
field cannot be negative, and as 0 otherwise (R216; log entry 27). -/

namespace Sys2Proof.Machine

/-- A flag: 1 when set. -/
def flag (b : Bool) : Int := if b then 1 else 0

/-- An absent value of a field that cannot be negative. -/
def orAbsent : Option Nat → Int
  | some n => n
  | none => -1

/-- An absent value that reads as 0. -/
def orZero : Option Int → Int
  | some i => i
  | none => 0

/-- View 32. -/
def pointView (p : Point) : List Int := [p.value, p.quality.code, flag p.clamped, flag p.suspect, p.age]

/-- An output record of a vessel: 0 NONE, 1 OFF, 2 ON, with 4 added while it is pending. -/
def outputView (o : Output) : Int :=
  (match o.decision with | .none => 0 | .off => 1 | .on => 2) + (if o.pending then 4 else 0)

/-- A percentage or setpoint record: −1 for NONE. -/
def percentView : Option Int → Int
  | some v => v
  | none => -1

/-- The phase timer, the setpoint, the output records with their pending flags, and the evaluation origin of a kiln (R174): fields 8
to 14 of view 33, and the last fields of view 37. -/
def kilnTimesView (x : Kiln) : List Int :=
  [x.timer, x.setpoint, percentView x.burner.value, flag x.burner.pending, percentView x.fan.value, flag x.fan.pending, x.origin]

/-- Fields 8 onward of view 33, by the unit's kind. -/
def unitKindView (f : Floor) : PlantUnit → List Int
  | .vessel v =>
    let x := f.vessels[v]
    [x.timer, flag x.note, x.fill.code, orZero (x.endCo2.map (·.1)), orZero (x.endCo2.map (·.2)), outputView x.outs[0],
      outputView x.outs[1], outputView x.outs[2], outputView x.outs[3], outputView x.outs[4], x.origin,
      flag x.endCo2.isSome]
  | .box b =>
    let x := f.boxes[b]
    [x.dayClock, x.turnClock, percentView x.fan, flag x.fanPending, x.origin]
  | .kiln k => kilnTimesView f.kilns[k]

/-- View 33, with the fields of R217's list. R88 says that the view shows the common fields, the copies of the program position
among them, and R217's list has no place for those copies: that they are not shown is the model's choice (log entry 69). -/
def unitView (b : Bank) (f : Floor) (u : PlantUnit) : List Int :=
  let c := f.ctx u
  ([c.state.code, (match c.reason with | some r => (r.code : Int) | none => 0),
    orAbsent (c.resume.map fun r => r.state.code), (match c.batch with | some i => (i : Int) | none => 0),
    orAbsent (c.pos.map (·.program)), orAbsent (c.pos.map (·.item)), orAbsent c.noted,
    flag (b.inService u.index)] : List Int) ++
    unitKindView f u

/-- The presence sum of view 34, field 3. -/
def figuresPresent (x : Batch) : Int :=
  flag x.steepOut.mass.isSome + 2 * flag x.steepOut.moisture.isSome + 4 * flag x.kilnIn.mass.isSome +
    8 * flag x.kilnIn.moisture.isSome + 16 * flag x.kilnOut.mass.isSome + 32 * flag x.kilnOut.moisture.isSome

/-- Fields 18 to 22 of view 34. -/
def transferView : Option Transfer → List Int
  | none => [-1, 0, -1, -1, 0]
  | some t =>
    [match t.dest with | some u => (u.index : Int) | none => 255, match t.phase with | .pendingSample => 1 | .inTransit => 2,
      t.startTime.toNat, orAbsent t.sample,
      flag t.overdue + 2 * flag t.waitExpired + 4 * flag t.voteWait.isSome + 8 * flag t.startUnset]

/-- The six places of a sample list, oldest first; a place beyond its length is absent, and a sample number cannot be negative,
so that it reads −1 (R216). -/
def sampleListView (l : List Nat) : List Int := (List.range 6).map fun i => orAbsent l[i]?

/-- View 34. -/
def batchView : Option Batch → List Int
  | none => [0, -1, 0, 0, 0, 0, 0, 0, 0, 0, 0] ++ sampleListView [] ++ [0] ++ transferView none
  | some x =>
    ([x.id, x.location.index, x.steepIn, figuresPresent x, orZero x.steepOut.mass, orZero x.steepOut.moisture,
      orZero x.kilnIn.mass, orZero x.kilnIn.moisture, orZero x.kilnOut.mass, orZero x.kilnOut.moisture,
      x.samples.length] : List Int) ++
      sampleListView x.samples ++ [flag x.exciseHold + 2 * flag x.unverified + 4 * flag x.inTransit] ++
      transferView x.transfer

/-- View 35. -/
def channelView (x : Channel) : List Int :=
  [x.state.code, flag x.masked, x.base, x.current, flag x.tc, x.overrun, flag x.lastReading.isSome,
    orZero (x.lastReading.map fun n => (n : Int)), flag x.closeTime.isSome, orZero (x.closeTime.map fun n => (n : Int)),
    flag x.demand, (match x.valve with | .none => 0 | .closed => 1 | .opened => 2) + (if x.valvePending then 4 else 0),
    flag x.note]

/-- View 36, entry 0. -/
def arbiterView (a : Arbiter) : List Int :=
  [a.state.code, orAbsent (a.grant.map fun b => 6 + (b : Nat)), a.faults, a.result.code, orAbsent a.timer, flag a.parked,
    orAbsent a.parkTimer, a.queue.length, a.counter, flag a.parkOffered]

/-- View 36, queue position `k`, from 1. -/
def requestView (a : Arbiter) (k : Nat) : List Int :=
  match a.queue[k - 1]? with
  | some r => [6 + ((r.box : Nat) : Int), if r.urgent then 2 else 1, r.number]
  | none => [-1, -1, -1]

/-- Fields 30 to 34 of view 37. -/
def tripView : Option TripRecord → List Int
  | none => [0, -1, -1, 0, 0]
  | some t => [t.cause.code, t.phase, t.time.toNat, flag t.timeUnset, t.ton]

/-- View 37: the fields of R218's list at their numbers, and after them, as fields 37 to 43, those fields of R174's table that the
list leaves out, because R174 has the view show every field of the table (their numbers are the model's choice, log entry 64). A peat
base or a peat delivered of 2^32 or more, which no rule excludes, is shown by its low 32 bits (the model's choice, log entry 78). -/
def kilnView (x : Kiln) : List Int :=
  [((x.dry / 2 ^ 32 : Nat) : Int), ((x.dry % 2 ^ 32 : Nat) : Int), ((x.water / 2 ^ 32 : Nat) : Int),
    ((x.water % 2 ^ 32 : Nat) : Int), x.removed, x.carry, x.moisture, orZero x.filter, x.history.length] ++
    ((List.range 16).map fun i => x.history.getD i 0) ++
    ([x.cure, x.peat.code, x.peatBase, x.peatDelivered, x.flame] : List Int) ++ tripView x.trip ++
    ([x.skipped, flag x.noBasis + 2 * flag x.noPickup + 4 * flag x.skipNote] : List Int) ++ kilnTimesView x

/-- View 38, a position that holds a record. -/
def recordView (r : SampleRecord) : List Int :=
  [r.number, kindCode r.kind, r.batch, r.unit, r.time.toNat, flag r.timeUnset, r.mass, voteCode r.massStatus, r.moisture,
    voteCode r.moistureStatus, orZero (r.estimate.map fun n => (n : Int)), orZero (r.peat.map fun n => (n : Int)),
    orZero (r.officer.map fun n => (n.toNat : Int)), orZero (r.voided.map fun n => (n : Int)), r.check.toNat,
    flag r.estimate.isSome + 2 * flag r.peat.isSome + 4 * flag r.officer.isSome + 8 * flag r.voided.isSome]

/-- View 38, entry 256. -/
def registerView (r : Register) : List Int :=
  [r.state.code, r.retained.records.length, r.reservations.length, ((r.retained.next % 2 ^ 32 : Nat) : Int),
    flag (r.retained.next == 2 ^ 32), r.retained.baseCheck.toNat, flag r.high, orAbsent r.firstFailed,
    flag r.retained.based]

/-- View 38. -/
def exciseView (r : Register) (i : Nat) : List Int :=
  if i = 256 then registerView r
  else match r.retained.records[i]? with | some x => recordView x | none => []

/-- View 39. -/
def captureView (c : Capture) : List Int :=
  [c.reason.code, c.dest.toNat, c.source.toNat, c.kind.toNat, c.func.toNat, c.time.toNat, c.further]

/-- View 40. -/
def deviceView (s : State) : List Int :=
  let q := s.floor.queue
  [s.loop.node.toNat, flag s.tables.present, flag s.loop.up, flag s.tables.present,
    if s.tables.present then s.tables.active.unsigned 0 0 3 else 0, flag s.tables.check.isSome, s.time.toNat,
    flag s.timeUnset, s.floor.register.state.code, q.depth, q.trip.length, q.command.length, q.reply.length,
    q.event.length, flag q.lost, alertConditions s, s.floor.eventSeq.toNat]

/-- R217–R219: the fields of an entry of a view. -/
def viewEntry (s : State) (view i : Nat) : List Int :=
  match view with
  | 32 => match indexOf 192 i with | some p => pointView s.points[p] | none => []
  | 33 => match unitOf i with | some u => unitView s.tables.active s.floor u | none => []
  | 34 => match indexOf 20 i with | some b => batchView s.floor.batches[b] | none => []
  | 35 => match indexOf 12 i with | some c => channelView s.floor.channels[c] | none => []
  | 36 => if i = 0 then arbiterView s.floor.arbiter else requestView s.floor.arbiter i
  | 37 => match indexOf 2 i with | some k => kilnView s.floor.kilns[k] | none => []
  | 38 => exciseView s.floor.register i
  | 39 => captureView s.capture
  | 40 => deviceView s
  | _ => []

/-- R144: a READ of a channel's entry clears its TC. -/
def clearTc (s : State) : State :=
  if s.tables.cursorNumber = 35 then
    match indexOf 12 s.tables.cursorIndex with
    | some c => { s with floor := s.floor.channel c fun x => { x with tc := false } }
    | none => s
  else s

end Sys2Proof.Machine
end

