-- ==== Sys2Proof/Machine/Dialogue.lean ====
section
/-! DEFINITION. The Station Dialogue (spec/11_station_dialogue.md): the management functions with their codes and rights, and
what each does when it is served. -/

namespace Sys2Proof.Machine

/-- The management functions (section 11.1). -/
inductive Function where
  | cursor
  | write
  | read
  | clearShadow
  | copyActive
  | activate
  | start
  | hold
  | resume
  | manual
  | auto
  | stopProgram
  | discard
  | transfer
  | transferDone
  | transferAbort
  | doseStart
  | unmask
  | doseClear
  | turnerEnable
  | refresh
  | timeSet
  | restart
  | captureClear
  | base
  | take
  | spot
  | holdSet
  | holdClear
deriving DecidableEq, Repr

/-- Section 11.1: the code of a function. -/
def Function.code : Function → Byte
  | .cursor => 1#8
  | .write => 2#8
  | .read => 3#8
  | .clearShadow => 4#8
  | .copyActive => 5#8
  | .activate => 6#8
  | .start => 16#8
  | .hold => 17#8
  | .resume => 18#8
  | .manual => 19#8
  | .auto => 20#8
  | .stopProgram => 21#8
  | .discard => 22#8
  | .transfer => 24#8
  | .transferDone => 25#8
  | .transferAbort => 26#8
  | .doseStart => 32#8
  | .unmask => 33#8
  | .doseClear => 34#8
  | .turnerEnable => 40#8
  | .refresh => 48#8
  | .timeSet => 56#8
  | .restart => 57#8
  | .captureClear => 58#8
  | .base => 64#8
  | .take => 65#8
  | .spot => 66#8
  | .holdSet => 67#8
  | .holdClear => 68#8

/-- The functions in the order of section 11.1. -/
def allFunctions : List Function :=
  [.cursor, .write, .read, .clearShadow, .copyActive, .activate, .start, .hold, .resume, .manual, .auto, .stopProgram,
    .discard, .transfer, .transferDone, .transferAbort, .doseStart, .unmask, .doseClear, .turnerEnable, .refresh, .timeSet,
    .restart, .captureClear, .base, .take, .spot, .holdSet, .holdClear]

/-- The function that a code names; `none` for an unknown code. -/
def functionOf (code : Byte) : Option Function := allFunctions.find? fun f => f.code == code

/-- Section 11.1: a source of class STATION may call the function. -/
def Function.stationMay : Function → Bool
  | .base => false
  | .take => false
  | .spot => false
  | .holdClear => false
  | _ => true

/-- Section 11.1, R211: a source of class OFFICER may call the function, with the qualifier and the load cursor as they
stand. -/
def Function.officerMay (t : TableBank) (qual : Byte) : Function → Bool
  | .cursor => decide (32 ≤ qual.toNat) && decide (qual.toNat ≤ 40)
  | .read => t.onView
  | .refresh => true
  | .base => true
  | .take => true
  | .spot => true
  | .holdSet => true
  | .holdClear => true
  | _ => false

/-- R212: the functions that are served in TRANSPARENT mode. -/
def Function.servedTransparent : Function → Bool
  | .cursor => true
  | .write => true
  | .read => true
  | .clearShadow => true
  | .copyActive => true
  | .activate => true
  | .restart => true
  | _ => false

/-! ### Replies (R213) -/

/-- The reply to a request, of status `st` and value `v`. -/
def replyTo (e : Env) (fn : Function) (r : Req) (st : Status) (v : Int) (f : Floor) : Floor :=
  offerReply e r.source fn.code r.tag v st.code f

/-- The same on the whole state. -/
def reply (fn : Function) (r : Req) (st : Status) (v : Int) (s : State) : State := s.onFloor fun e => replyTo e fn r st v

/-- A function that a block of the floor serves. -/
def servedBy (fn : Function) (r : Req) (op : Env → (Status → Int → Floor → Floor) → Floor → Floor) (s : State) : State :=
  s.onFloor fun e => op e (replyTo e fn r)

/-! ### The Table Bank's functions (R70–R74, R76) -/

/-- R70. -/
def serveCursor (r : Req) (s : State) : State :=
  match moveCursor r.qual.toNat (Req.signed r) s.tables with
  | some t => reply .cursor r .ok (Req.signed r) { s with tables := t }
  | none => reply .cursor r .badArgument 0 s

/-- R71, R74. -/
def serveWrite (r : Req) (s : State) : State :=
  if s.tables.check.isSome then reply .write r .busy 0 s
  else
    match writePlace r.qual.toNat s.tables with
    | some a =>
      reply .write r .ok (Req.signed r) { s with tables := { s.tables with shadow := s.tables.shadow.write a r.value } }
    | none => reply .write r .badArgument 0 s

/-- R72, R216, R144. That a READ answered BAD_ARGUMENT leaves TC as it is is the model's choice (log entry 48). -/
def serveRead (r : Req) (s : State) : State :=
  let field := r.qual.toNat % 128
  if s.tables.onView then
    match (viewEntry s s.tables.cursorNumber s.tables.cursorIndex)[field]? with
    | some v => clearTc (reply .read r .ok v s)
    | none => reply .read r .badArgument 0 s
  else
    let a := readTable field (decide (128 ≤ r.qual.toNat)) s.tables
    reply .read r a.1 a.2 s

/-- R73, R74. -/
def serveClearShadow (r : Req) (s : State) : State :=
  if s.tables.check.isSome then reply .clearShadow r .busy 0 s
  else reply .clearShadow r .ok 0 { s with tables := { s.tables with shadow := [] } }

/-- R73, R74. -/
def serveCopyActive (r : Req) (s : State) : State :=
  if s.tables.check.isSome then reply .copyActive r .busy 0 s
  else reply .copyActive r .ok 0 { s with tables := { s.tables with shadow := s.tables.active } }

/-- R74, R76. -/
def serveActivate (r : Req) (s : State) : State :=
  if s.tables.check.isSome then reply .activate r .busy 0 s
  else { s with tables := { s.tables with check := some (r.source, r.tag) } }

/-! ### Unit commands (R91) and the Batch Table's functions -/

/-- A unit command as the Station Dialogue hands it on. -/
def unitFunction (fn : Function) (r : Req) (serve : Env → PlantUnit → Floor → Floor × Answer) (s : State) : State :=
  servedBy fn r (fun e reply => unitCommand r.qual (serve e) reply) s

/-- R101. -/
def serveTransferCell (r : Req) (s : State) : State :=
  servedBy .transfer r (fun e reply => serveTransfer e (Req.lower r) r.qual reply) s

/-- R106. -/
def serveTransferDoneCell (r : Req) (s : State) : State :=
  servedBy .transferDone r (fun e reply => serveTransferDone e (Req.lower r) reply) s

/-- R107. -/
def serveTransferAbortCell (r : Req) (s : State) : State :=
  servedBy .transferAbort r (fun e reply => serveTransferAbort e (Req.lower r) reply) s

/-! ### REFRESH (R41–R43) -/

/-- The MGMT cell of a request as an offending cell. -/
def captureRequest (reason : CaptureReason) (fn : Function) (r : Req) (s : State) : State :=
  capture reason s.loop.node r.source 5#8 fn.code s

/-- R41 step 6, R42: a new poll list entry, or BUSY. That it takes the lowest-numbered free place is the model's choice (log
entry 41). -/
def newPoll (r : Req) (p : Fin 192) (s : State) : State :=
  match firstIndex s.polls (·.isNone) with
  | some i => offerPoll i { s with polls := s.polls.set i (some ⟨p, s.second, [(r.source, r.tag)], false⟩) }
  | none => reply .refresh r .busy 0 s

/-- R41, R43. -/
def serveRefresh (r : Req) (s : State) : State :=
  match indexOf 192 (Req.signed r) with
  | none => reply .refresh r .badArgument 0 s
  | some p =>
    if s.points[p].quality = .fresh then
      { s with floor := answerRequester s.env s.points[p] s.floor (r.source, r.tag) }
    else
      match pollFor s p with
      | some i =>
        match s.polls[i].bind (joinPoll (r.source, r.tag)) with
        | some q => { s with polls := s.polls.set i (some q) }
        | none => reply .refresh r .busy 0 s
      | none =>
        if (s.tables.active.mapOfPoint p).isSome then newPoll r p s
        else reply .refresh r .badArgument 0 (captureRequest .unmappedPoll .refresh r s)

/-! ### The part's own functions (R215, R220, R221) -/

/-- R215: the process clock is set. -/
def setClock (t : Word) (s : State) : State := { s with time := t, timeUnset := false }

/-- R215. -/
def serveTimeSet (r : Req) (s : State) : State := reply .timeSet r .ok r.value.toNat (setClock r.value s)

/-- R23, R220. -/
def serveCaptureClear (r : Req) (s : State) : State :=
  reply .captureClear r .ok s.capture.further { s with capture := .cleared }

/-- R46, R64, R82, R221: RESTART, before its reply. -/
def restartPart (s : State) : State :=
  ({ s with
    polls := .replicate 4 none
    retries := .replicate 8 none
    tables := { s.tables with check := none } } : State).onFloor restartFloor

/-- R221. -/
def serveRestart (r : Req) (s : State) : State := reply .restart r .ok 0 (restartPart s)

/-! ### Serving a request (R211, R212) -/

/-- The function is carried out by its block. -/
def serveFunction (fn : Function) (r : Req) (s : State) : State :=
  match fn with
  | .cursor => serveCursor r s
  | .write => serveWrite r s
  | .read => serveRead r s
  | .clearShadow => serveClearShadow r s
  | .copyActive => serveCopyActive r s
  | .activate => serveActivate r s
  | .start => unitFunction .start r (fun e => serveStart e (Req.upper r) (Req.lower r)) s
  | .hold => unitFunction .hold r serveHoldUnit s
  | .resume => unitFunction .resume r serveResume s
  | .manual => unitFunction .manual r serveManual s
  | .auto => unitFunction .auto r serveAuto s
  | .stopProgram => unitFunction .stopProgram r serveStopProgram s
  | .discard => unitFunction .discard r serveDiscard s
  | .transfer => serveTransferCell r s
  | .transferDone => serveTransferDoneCell r s
  | .transferAbort => serveTransferAbortCell r s
  | .doseStart => servedBy .doseStart r (fun e reply => serveDoseStart e r.qual (Req.signed r) reply) s
  | .unmask => servedBy .unmask r (fun e reply => serveUnmask e r.qual reply) s
  | .doseClear => servedBy .doseClear r serveDoseClear s
  | .turnerEnable => servedBy .turnerEnable r serveTurnerEnable s
  | .refresh => serveRefresh r s
  | .timeSet => serveTimeSet r s
  | .restart => serveRestart r s
  | .captureClear => serveCaptureClear r s
  | .base => servedBy .base r (fun e reply => serveBase e r.value.toNat reply) s
  | .take =>
    servedBy .take r
      (fun e reply => serveTake e (Req.signed r) reply fun v => offerReply e r.source Function.take.code r.tag v 144) s
  | .spot => servedBy .spot r (fun e reply => serveSpot e r.source r.qual reply) s
  | .holdSet => servedBy .holdSet r (fun _ reply => serveHold (Req.lower r) true reply) s
  | .holdClear => servedBy .holdClear r (fun _ reply => serveHold (Req.lower r) false reply) s

/-- R211: the rights of a source. -/
def mayCall (s : State) (fn : Function) (r : Req) : Bool :=
  match s.tables.active.nodeClass r.source with
  | .station => fn.stationMay
  | .officer => fn.officerMay s.tables r.qual
  | _ => false

/-- R211, R212: a request for a known function. -/
def serveKnown (fn : Function) (r : Req) (s : State) : State :=
  if s.tables.present then
    if mayCall s fn r then serveFunction fn r s else reply fn r .denied 0 (captureRequest .denied fn r s)
  else if fn.servedTransparent then serveFunction fn r s
  else reply fn r .notActive 0 s

/-- R211: an unknown code is answered BAD_FUNCTION. -/
def serveUnknown (code : Byte) (r : Req) (s : State) : State :=
  s.onFloor fun e => offerReply e r.source code r.tag 0 Status.badFunction.code

/-- R211, R212: a management cell is served. -/
def serveManagement (code : Byte) (r : Req) (s : State) : State :=
  match functionOf code with
  | some fn => serveKnown fn r s
  | none => serveUnknown code r s

end Sys2Proof.Machine
end

