-- ==== Sys2Proof/Machine/Interlock.lean ====
section
/-! DEFINITION. The Interlock Unit (R51–R63): the conditions, the deciding rule, and the four verdicts. -/

namespace Sys2Proof.Machine

/-- The verdicts (R52). -/
inductive Verdict where
  | pass
  | refuse
  | retry
  | clamp (lo hi : Int)
deriving DecidableEq, Repr

/-! ### Conditions (R54) -/

/-- The state of the unit that a rule names; `none` for the turner. -/
def ruleUnit (f : Floor) (u : Int) : Option UnitState :=
  if 0 ≤ u then (unitOf u.toNat).map fun x => (f.ctx x).state else none

/-- A batch is under excise hold and is held by unit `u`, or is in transit to it while it is RECEIVING. -/
def heldAt (f : Floor) (u : PlantUnit) (x : Batch) : Bool :=
  x.exciseHold &&
    ((f.ctx u).batch == some x.id ||
      ((f.ctx u).state == .receiving && (match x.transfer with | some t => t.dest == some u | none => false)))

/-- BATCH_HOLD for the unit that a rule names. -/
def batchHold (f : Floor) (u : Int) : Bool :=
  if 0 ≤ u then
    match unitOf u.toNat with
    | some x => f.batches.toList.any fun b => match b with | some b => heldAt f x b | none => false
    | none => false
  else false

/-- R54: the condition of rule `r`, as the plant stands. R52 makes a code above 6 never true; that a negative code is never true
either is the model's choice (log entry 44). -/
def ruleCondition (e : Env) (f : Floor) (r : Nat) : Bool :=
  let p := e.point (e.bank.field 5 r 6)
  let unit := ruleUnit f (e.bank.field 5 r 4)
  match e.bank.field 5 r 5 with
  | 0 => true
  | 1 => match unit with | some st => st.auto | none => false
  | 2 => match unit with | some st => st.moving | none => false
  | 3 => f.arbiter.state != .idle
  | 4 => !p.usable || decide (e.bank.field 5 r 7 < p.value)
  | 5 => !p.usable || decide (p.value < e.bank.field 5 r 7)
  | 6 => batchHold f (e.bank.field 5 r 4)
  | _ => false

/-! ### The deciding rule (R52, R53) -/

/-- R53: rule `r` matches a destination and a function. -/
def ruleMatches (b : Bank) (dest func : Byte) (r : Nat) : Bool :=
  b.field 5 r 0 != 0 && decide (b.field 5 r 1 ≤ dest.toNat) && decide ((dest.toNat : Int) ≤ b.field 5 r 2) &&
    (b.field 5 r 3 == 256 || b.field 5 r 3 == (func.toNat : Int))

/-- R52: the verdict of rule `r`. R52 takes a code above 3 as REFUSE; that a negative code is REFUSE too is the model's choice (log
entry 44). -/
def ruleVerdict (b : Bank) (r : Nat) : Verdict :=
  let lo := b.field 5 r 9
  let hi := b.field 5 r 10
  match b.field 5 r 8 with
  | 0 => .pass
  | 2 => .retry
  | 3 => .clamp (min lo hi) (max lo hi)
  | _ => .refuse

/-- R53: the verdict on a command. -/
def judge (e : Env) (f : Floor) (dest func : Byte) : Verdict :=
  match (List.range 64).find? fun r => ruleMatches e.bank dest func r && ruleCondition e f r with
  | some r => ruleVerdict e.bank r
  | none => .pass

/-! ### The retry list (R59–R62) -/

/-- An entry has a command's key. -/
def Retry.hasKey (source dest func : Byte) (x : Option Retry) : Bool :=
  match x with
  | some r => r.source == source && r.dest == dest && r.func == func
  | none => false

/-- The entry of a key. -/
def retryFind (s : State) (source dest func : Byte) : Option (Fin 8) := firstIndex s.retries (Retry.hasKey source dest func)

/-- R56, R57: the entry of a key is freed. -/
def retryFree (source dest func : Byte) (s : State) : State :=
  match retryFind s source dest func with
  | some i => { s with retries := s.retries.set i none }
  | none => s

/-- The last attempt of an entry. -/
def retryLast (s : State) (i : Fin 8) : Nat := match s.retries[i] with | some r => r.last | none => 0

/-- R61: the entry with the earliest last attempt, the lowest-numbered of several. -/
def retryOldest (s : State) : Fin 8 :=
  (List.finRange 8).foldl (fun best i => if retryLast s i < retryLast s best then i else best) 0

/-- R59, R61: the place of a new entry: a free one, or the one that is replaced. Of several free ones it takes the lowest-numbered,
which is the model's choice (log entry 43). -/
def retryPlace (s : State) : Fin 8 :=
  match firstIndex s.retries (·.isNone) with
  | some i => i
  | none => retryOldest s

/-! ### Judging a command (R51, R56–R60, R63) -/

/-- R63: the reply to a judged command. -/
def interlockReply (slot : Slot) (st : Status) (value : Int) (s : State) : State :=
  s.onFloor fun e => offerReply e slot.source slot.func slot.tag value st.code

/-- R9, R50: a forwarded COMMAND leaves marked, translated and with a fresh check. -/
def forwardCommand (b : Bank) (slot : Slot) : Slot := Slot.fresh { slot with code := codeMarked, dest := b.translate slot.dest }

/-- R59, R60: a RETRY verdict. -/
def retryVerdict (slot : Slot) (limit : Nat) (s : State) : State :=
  let refuse := interlockReply slot .refused slot.value.toInt
  if limit = 0 then refuse s
  else
    match retryFind s slot.source slot.dest slot.func with
    | none =>
      let entry : Retry := ⟨slot.source, slot.dest, slot.func, 1, s.second⟩
      interlockReply slot .retry 1 { s with retries := s.retries.set (retryPlace s) (some entry) }
    | some i =>
      match s.retries[i] with
      | none => s
      | some x =>
        if x.count + 1 ≤ limit then
          interlockReply slot .retry ((x.count + 1 : Nat) : Int)
            { s with retries := s.retries.set i (some { x with count := x.count + 1, last := s.second }) }
        else
          refuse (capture .retryExhausted slot.dest slot.source slot.kind slot.func
            { s with retries := s.retries.set i none })

/-- The retry limit of the window that covers a destination. -/
def limitOf (b : Bank) (dest : Byte) : Nat := match b.windowOf dest with | some w => b.retryLimit w | none => 0

/-- R8, R56–R60: a station's COMMAND into an ACTUATOR or TURNER window is judged; the answer is what leaves, `none` where
it is stripped. -/
def judgeCommand (slot : Slot) (s : State) : State × Option Slot :=
  let b := s.tables.active
  let freed := retryFree slot.source slot.dest slot.func s
  match judge s.env s.floor slot.dest slot.func with
  | .pass => (freed, some (forwardCommand b slot))
  | .refuse => (interlockReply slot .refused slot.value.toInt s, none)
  | .retry => (retryVerdict slot (limitOf b slot.dest) s, none)
  | .clamp lo hi =>
    let v := clamp lo hi slot.value.toInt
    let out := forwardCommand b { slot with value := Word.ofValue v }
    if v = slot.value.toInt then (freed, some out) else (interlockReply slot .clamped v freed, some out)

/-- R51: a COMMAND from a source that is not of STATION class is denied. -/
def denyCommand (slot : Slot) (s : State) : State :=
  interlockReply slot .denied slot.value.toInt (capture .denied slot.dest slot.source slot.kind slot.func s)

/-- A destination whose commands are judged (R8). -/
def guarded (b : Bank) (n : Byte) : Bool := b.nodeClass n == .actuator || b.nodeClass n == .turner

/-- R8, R9: a good FULL COMMAND cell that is not addressed to the part. -/
def commandArrives (slot : Slot) (s : State) : State × Option Slot :=
  let b := s.tables.active
  if guarded b slot.dest then
    if b.nodeClass slot.source = .station then judgeCommand slot s else (denyCommand slot s, none)
  else (s, some (forwardCommand b slot))

end Sys2Proof.Machine
end

