-- ==== Sys2Proof/Machine/Seconds.lean ====
section
/-! DEFINITION. What every event ends with (the demand conditions and the output lines), the second of the time base, and the
steps that fall due at it (log entries 2 and 4). -/

namespace Sys2Proof.Machine

/-! ### The end of an event -/

/-- R136, section 6.6: a vessel tells its fill channel a changed demand condition. -/
def tellVessel (before : Floor) (e : Env) (f : Floor) (v : Fin 6) : Floor :=
  if vesselDemand f v = vesselDemand before v then f
  else
    match e.bank.unitChannel (.vessel v) with
    | some c => tellDemand e c (vesselDemand f v) f
    | none => f

/-- R186: a kiln whose state or permit has changed tells its peat channel its demand condition. -/
def tellChangedKiln (e0 : Env) (before : Floor) (e : Env) (f : Floor) (k : Fin 2) : Floor :=
  if before.kilns[k].ctx = f.kilns[k].ctx ∧ permit e0 before k = permit e f k then f else tellKiln e k f

/-- The owners tell their channels what an event has changed: at its end, vessels before kilns (the model's choice, log entry 5).
After RESTART the telling clears a demand flag that R146 alone would keep (the model's choice, log entry 53). -/
def tellOwners (e0 : Env) (before : Floor) (e : Env) (f : Floor) : Floor :=
  (List.finRange 2).foldl (tellChangedKiln e0 before e) ((List.finRange 6).foldl (tellVessel before e) f)

/-- R188, R223: the output lines follow the state. -/
def setLines (s : State) : State := { s with pins := s.lines }

/-- The end of an event that began in state `s0` and has come to `s1`. -/
def finish (s0 s1 : State) : State := setLines (s1.onFloor (tellOwners s0.env s0.floor))

/-! ### What a due step does -/

/-- R132: a channel's pending valve is offered again. -/
def reofferValve (e : Env) (c : Fin 12) (f : Floor) : Floor := if f.channels[c].valvePending then offerValve e c f else f

/-- R42: a refused POLL cell is offered again. -/
def reofferPoll (i : Fin 4) (s : State) : State :=
  match s.polls[i] with
  | some q => if q.offered then s else offerPoll i s
  | none => s

/-- R42, R122, R132, R153, R164, R183: a refused offer is made again. -/
def reoffer (who : ReofferTarget) (s : State) : State :=
  match who with
  | .valve c => s.onFloor fun e => reofferValve e c
  | .turner => s.onFloor reofferTurner
  | .poll i => reofferPoll i s
  | .unit u =>
    match unitOf u with
    | some x => s.onFloor fun e => reofferUnit e x
    | none => s

/-- R21: the CONGESTED test of a second. -/
def testCongestion (s : State) : State :=
  { s with floor := { s.floor with queue := { s.floor.queue with congested := s.floor.queue.hasOld s.second } } }

/-- What a step that has fallen due does. The commands that never fall due at a second do nothing here. -/
def dueStep (i : Instr) (s : State) : State :=
  match i with
  | .pendingReoffer who => reoffer who s
  | .congested => testCongestion s
  | .qualityHeld p => qualityHeld p s
  | .qualityStale p => qualityStale p s
  | .pollDeadline i => pollDeadline i s
  | .voteWaitExpiry b => s.onFloor fun e => voteWaitExpiry e b
  | .transferOverdue b => s.onFloor fun e => transferOverdue e b
  | .vesselEvaluation v => s.onFloor fun e => vesselEvaluate e v
  | .stepMaximum v => s.onFloor fun e => stepMaximum e v
  | .boxEvaluation b => s.onFloor fun e => boxEvaluate e b
  | .dayEnded b => s.onFloor fun e => dayEnded e b
  | .turnIntervalReached b => s.onFloor fun e => turnIntervalReached e b
  | .prepTimeout => s.onFloor prepTimeout
  | .startTimeout => s.onFloor startTimeout
  | .turnOverrun => s.onFloor turnOverrun
  | .sprayTrailExpiry => s.onFloor sprayTrailExpiry
  | .parkDelayExpiry => s.onFloor parkDelayExpiry
  | .kilnEvaluation k => s.onFloor fun e => kilnEvaluate e k
  | .phaseMaximum k => s.onFloor fun e => phaseMaximum e k
  | .flameLost k => s.onFloor fun e => flameLost e k
  | _ => s

/-- A due step is taken: it leaves the list, does what `op` says, and the event ends. A step that is not due changes
nothing. -/
def takeDue (i : Instr) (op : State → State) (s : State) : State :=
  if s.inReset then s
  else if i ∈ s.due then finish s (op { s with due := s.due.erase i })
  else s

/-- The step that follows from an arrival is taken by a command of its own (log entry 3). -/
def takeNow (op : State → State) (s : State) : State := if s.inReset then s else finish s (op s)

/-- Every step still due at the current second is taken, in the order of the list (log entry 4). -/
def settle (s : State) : State := { s.due.foldl (fun s i => takeDue i (dueStep i) s) s with due := [] }

/-! ### What falls due at a second -/

/-- The elements of a list that a test holds of, as commands. -/
def dueFor {α : Type} (l : List α) (test : α → Bool) (cmd : α → Instr) : List Instr := (l.filter test).map cmd

/-- R32: the points whose quality changes at this second. -/
def duePoints (s : State) : List Instr :=
  let b := s.tables.active
  dueFor (List.finRange 192) (fun p => heldDue b p s.points[p]) .qualityHeld ++
    dueFor (List.finRange 192) (fun p => staleDue b p s.points[p]) .qualityStale

/-- R117, R155, R184, R189: the flame counts and the items of the units' programs that have run their time. -/
def dueTimes (f : Floor) : List Instr :=
  dueFor (List.finRange 2) (flameDue f) .flameLost ++
    dueFor (List.finRange 6)
      (fun v => f.vessels[v].ctx.state == .running && decide (stepMaxTime f.vessels[v].ctx.fields ≤ f.vessels[v].timer))
      .stepMaximum ++
    dueFor (List.finRange 12)
      (fun b => f.boxes[b].ctx.state == .running && decide (dayLength f.boxes[b].ctx.fields * 60 ≤ f.boxes[b].dayClock))
      .dayEnded ++
    dueFor (List.finRange 2)
      (fun k => f.kilns[k].ctx.state == .running && decide (phaseMaxTime f.kilns[k].ctx.fields ≤ f.kilns[k].timer))
      .phaseMaximum

/-- R119, R152, R177: this second is one of the unit's evaluation seconds. -/
def evaluationDue (e : Env) (origin : Nat) : Bool := evaluationSecond e.bank.evalSeconds origin e.second

/-- A vessel in EMPTY, LOADED or MANUAL makes no evaluation but the offers of its pending outputs (R119). -/
def UnitState.vesselEvaluates (s : UnitState) : Bool := s == .running || s == .held || s == .done || s == .discharging

/-- R177: the states in which a kiln evaluates. -/
def UnitState.kilnEvaluates (s : UnitState) : Bool := s == .running || s == .held || s == .tripped || s == .done

/-- R119, R152, R177: the evaluations of this second. -/
def dueEvaluations (e : Env) (f : Floor) : List Instr :=
  dueFor (List.finRange 6)
      (fun v => evaluationDue e f.vessels[v].origin && f.vessels[v].ctx.state.vesselEvaluates) .vesselEvaluation ++
    dueFor (List.finRange 12)
      (fun b => evaluationDue e f.boxes[b].origin && f.boxes[b].ctx.state.vesselEvaluates) .boxEvaluation ++
    dueFor (List.finRange 2)
      (fun k => evaluationDue e f.kilns[k].origin && f.kilns[k].ctx.state.kilnEvaluates) .kilnEvaluation

/-- R157, R160–R163, R168: the boxes that ask for a turn, and the arbiter's timers that have run out. The boxes are those whose turn
clock stands at the interval of the day they are in as the second begins; a box whose day ends at this second is held to the new
day's interval from the next second on (the model's choice, log entry 74). -/
def dueTurner (e : Env) (f : Floor) : List Instr :=
  let a := f.arbiter
  dueFor (List.finRange 12) (intervalReached f) .turnIntervalReached ++
    (if a.expired e.second then
      match a.state with
      | .preparing => [.prepTimeout]
      | .dispatched => [.startTimeout]
      | .turning => [.turnOverrun]
      | .releasing => [.sprayTrailExpiry]
      | _ => []
    else []) ++
    (if a.state = .idle ∧ a.parkExpired e.second then [.parkDelayExpiry] else [])

/-- R45, R104, R108: the deadlines of this second. -/
def dueDeadlines (s : State) : List Instr :=
  dueFor (List.finRange 4) (pollDue s) .pollDeadline ++
    dueFor (List.finRange 20) (voteWaitDue s.env s.floor) .voteWaitExpiry ++
    dueFor (List.finRange 20) (overdueDue s.env s.floor) .transferOverdue

/-- A unit outside its evaluating states has an output pending at its evaluation second (R119, R128, R152, R193). -/
def unitReofferDue (e : Env) (f : Floor) (u : Fin 20) : Bool :=
  match unitOf u with
  | some (.vessel v) =>
    let x := f.vessels[v]
    evaluationDue e x.origin && !x.ctx.state.vesselEvaluates && x.outs.toList.any (·.pending)
  | some (.box b) =>
    let x := f.boxes[b]
    evaluationDue e x.origin && !x.ctx.state.vesselEvaluates && x.fanPending
  | some (.kiln k) =>
    let x := f.kilns[k]
    evaluationDue e x.origin && x.ctx.state == .discharging && (x.burner.pending || x.fan.pending)
  | none => false

/-- R42, R132, R164 and the units' own rules: the refused offers that are made again at this second. A valve is offered again
at each second later than the one that refused it (R132), so one that this second's own work has made pending waits for the
next; `before` is the floor as the second found it. -/
def dueReoffers (before : Floor) (s : State) : List Instr :=
  let f := s.floor
  dueFor (List.finRange 12) (fun c => before.channels[c].valvePending && f.channels[c].valvePending)
      (fun c => .pendingReoffer (.valve c)) ++
    (if s.env.bank.inService 20 ∧ f.arbiter.waiting ≠ [] then [.pendingReoffer .turner] else []) ++
    dueFor (List.finRange 4) (fun i => match s.polls[i] with | some q => !q.offered | none => false)
      (fun i => .pendingReoffer (.poll i)) ++
    dueFor (List.finRange 20) (unitReofferDue s.env f) (fun u => .pendingReoffer (.unit u))

/-- R21: the CONGESTED condition begins or ends at this second. -/
def dueCongestion (s : State) : List Instr :=
  if s.floor.queue.hasOld s.second = s.floor.queue.congested then [] else [.congested]

/-- The steps that fall due at this second, in the model's order (log entry 2); `before` is the floor as the second found it.
In TRANSPARENT mode only the insertion queue is tested. -/
def dueList (before : Floor) (s : State) : List Instr :=
  (if s.tables.present then
    duePoints s ++ dueTimes s.floor ++ dueEvaluations s.env s.floor ++ dueTurner s.env s.floor ++ dueDeadlines s ++
      dueReoffers before s
  else []) ++ dueCongestion s

/-! ### The second (R215) -/

/-- R115, R155, R156, R168, R184, R186, R189: a second at the units and at the arbiter. The parking check comes before the joins of
the second, which are due steps (the model's choice, log entry 67). -/
def floorSecond (e : Env) (f : Floor) : Floor :=
  let f := (List.finRange 6).foldl (fun f v => vesselSecond e v f) f
  let f := (List.finRange 12).foldl (fun f b => f.box b (boxSecond (f.arbiter.grant == some b))) f
  let f := (List.finRange 2).foldl (fun f k => kilnSecond e k f) f
  parkingSecond e f

/-- The clocks and ages advance (R32, R215). -/
def advanceClocks (s : State) : State :=
  { s with second := s.second + 1, time := s.time + 1#32, points := s.points.map Point.aged }

/-- A second of the time base: the steps still due are taken, the clocks advance, the units count, and the steps of the new
second fall due. -/
def timeBaseSecond (s : State) : State :=
  if s.inReset then s
  else
    let s0 := settle s
    let s1 := advanceClocks s0
    let s2 := if s1.tables.present then s1.onFloor floorSecond else s1
    finish s0 { s2 with due := dueList s0.floor s2 }

end Sys2Proof.Machine
end

