-- ==== Sys2Proof/Machine/Loop.lean ====
section
/-! DEFINITION. The Loop Interface (spec/01_the_process_loop.md): the loop state, the fate of an arriving slot in both
modes, the filling of an EMPTY slot, and the resets. -/

namespace Sys2Proof.Machine

/-! ### The loop state (R14–R16) -/

/-- R84: the silence time that a restart of the silence timer loads: SILENCE_MS, or 100 ms in TRANSPARENT mode. -/
def silenceTime (s : State) : Nat := if s.tables.present then s.tables.active.silenceMs else 100

/-- R16: the loop enters SILENT. -/
def goSilent (s : State) : State :=
  ({ s with loop := { s.loop with up := false, goodRun := 0, silence := none, silenceAlert := true } } : State).onFloor
    floorSilent

/-- R15: the loop enters UP. -/
def goUp (s : State) : State :=
  ({ s with loop := { s.loop with up := true, silenceAlert := false } } : State).onFloor fun e => raiseEvent e 2 0 0

/-- R15: the good-cell run count calls the loop UP. -/
def upDue (s : State) : Bool := !s.loop.up && s.loop.goodRun == 16

/-- R14: a slot acts on the run counts and restarts the silence timer. -/
def countRuns (bad : Bool) (s : State) : State :=
  { s with
    loop :=
      { s.loop with
        silence := some (silenceTime s)
        goodRun := if bad then 0 else min 16 (s.loop.goodRun + 1)
        badRun := if bad then min 16 (s.loop.badRun + 1) else 0 } }

/-- R14–R16: an arriving slot is counted. -/
def countSlot (slot : Slot) (s : State) : State :=
  let s := countRuns (classify slot == .bad) s
  if upDue s then goUp s else if s.loop.up && s.loop.badRun == 16 then goSilent s else s

/-- R16: the silence timer has expired, `elapsed` ms after the last slot, or the bad-cell run count has reached 16. -/
def silentDue (elapsed : Nat) (s : State) : Bool :=
  s.loop.up && (s.loop.badRun == 16 || (match s.loop.silence with | some limit => decide (limit ≤ elapsed) | none => false))

/-! ### The fate of a slot (R4–R9, R11) -/

/-- R12: the node number lets cells be addressed to the part. -/
def State.nodeValid (s : State) : Bool := s.loop.node != 0#8 && s.loop.node != 255#8

/-- The slot is a MGMT cell addressed to the part (R6, R11). -/
def isRequest (s : State) (slot : Slot) : Bool := s.nodeValid && slot.dest == s.loop.node && slot.kind == 5#8

/-- R6: what a MGMT cell brings. -/
def slotReq (slot : Slot) : Req := ⟨slot.source, slot.tag, slot.value, slot.qual, false⟩

/-- R6: a MGMT cell addressed to the part is absorbed and served. -/
def absorbRequest (slot : Slot) (s : State) : State := serveManagement slot.func (slotReq slot) s

/-- R9: a cell leaves marked. -/
def Slot.marked (slot : Slot) : Slot := { slot with code := codeMarked }

/-- R23: the cell of a slot is an offence. -/
def captureSlot (reason : CaptureReason) (slot : Slot) (s : State) : State :=
  capture reason slot.dest slot.source slot.kind slot.func s

/-- R7: a good FULL SAMPLE cell that is not addressed to the part. -/
def sampleCellArrives (slot : Slot) (s : State) : State × Option Slot :=
  let b := s.tables.active
  match b.mapFind slot.source slot.func with
  | none => (s, some (Slot.marked slot))
  | some m =>
    let out := if b.field 1 m 4 = 0 then some (Slot.marked slot) else none
    match indexOf 192 (b.field 1 m 3) with
    | some p => (sampleArrives p slot.value slot.qual s, out)
    | none => (s, out)

/-- R9, R215: a TIME cell is forwarded, and sets the clock if its source is of STATION class. -/
def timeCellArrives (slot : Slot) (s : State) : State × Option Slot :=
  (if s.tables.active.nodeClass slot.source = .station then setClock slot.value s else s, some (Slot.marked slot))

/-- R5–R9: a good cell in operating mode; `none` where its slot leaves EMPTY. -/
def handleGood (slot : Slot) (s : State) : State × Option Slot :=
  if slot.source = s.loop.node then (s, none)
  else if slot.code = codeMarked then (captureSlot .orphan slot s, none)
  else if slot.dest = s.loop.node then
    if slot.kind = 5#8 then (absorbRequest slot s, none) else (captureSlot .badKind slot s, none)
  else if slot.kind = 1#8 then sampleCellArrives slot s
  else if slot.kind = 2#8 then commandArrives slot s
  else if slot.kind = 4#8 then timeCellArrives slot s
  else (s, some (Slot.marked slot))

/-- R11: a slot in TRANSPARENT mode. -/
def handleTransparent (slot : Slot) (s : State) : State × Option Slot :=
  if classify slot = .empty then (s, none)
  else if classify slot = .good ∧ slot.code = codeFull ∧ isRequest s slot then (absorbRequest slot s, none)
  else (s, some slot)

/-- R4–R9, R11: an arriving slot; the answer is what leaves, `none` where the outgoing slot is EMPTY. -/
def handleSlot (slot : Slot) (s : State) : State × Option Slot :=
  if s.tables.present then
    match classify slot with
    | .empty => (s, none)
    | .bad => (captureSlot .badCell slot s, none)
    | .good => handleGood slot s
  else handleTransparent slot s

/-! ### Filling an EMPTY slot (R1, R10, R50) -/

/-- R10, R50: the slot of an inserted cell. -/
def insertedSlot (s : State) (c : QCell) : Slot :=
  let dest := if c.kind = 2#8 ∨ c.kind = 3#8 then s.tables.active.translate c.dest else c.dest
  Slot.fresh ⟨codeMarked, dest, s.loop.node, c.kind, c.func, c.tag, c.value, c.qual, 0#8⟩

/-- R1, R11: the EMPTY slot that leaves where the queue is empty: in TRANSPARENT mode one that arrived EMPTY leaves as it
arrived. -/
def unfilledSlot (s : State) (slot : Slot) : Slot :=
  if !s.tables.present ∧ classify slot = .empty then slot else emptySlotBytes

/-- R10: the outgoing slot is EMPTY and is filled from the queue; the answer is what leaves. -/
def fillSlot (slot : Slot) (s : State) : State × Slot :=
  match s.floor.queue.pop with
  | some (c, q) => ({ s with floor := { s.floor with queue := q } }, insertedSlot s c)
  | none => (s, unfilledSlot s slot)

/-- A slot passes the part: it is counted and handled, and an EMPTY outgoing slot is filled. `fillFirst` is the order that
R10 leaves open: whether the slot is filled before or after the offers that its arrival brings (log entry 5). -/
def passSlot (slot : Slot) (fillFirst : Bool) (s : State) : State :=
  let r := handleSlot slot (countSlot slot s)
  match r.2 with
  | some out => { r.1 with outPort := some out }
  | none =>
    if fillFirst then
      let filled := fillSlot slot s
      { (handleSlot slot (countSlot slot filled.1)).1 with outPort := some filled.2 }
    else
      let filled := fillSlot slot r.1
      { filled.1 with outPort := some filled.2 }

/-- A slot arrives at the in-port. In reset the bypass carries the loop, and the part receives nothing (R13). What the owners tell
their channels at the arrival's end comes after the slot is filled, whatever `fillFirst` says (the model's choice, log entry 5). -/
def arrive (slot : Slot) (fillFirst : Bool) (s : State) : State :=
  if s.inReset then s
  else
    let s0 := settle s
    finish s0 (passSlot slot fillFirst s0)

/-- A management cell of function `code` arrives. -/
def arriveRequest (code : Byte) (r : Req) (s : State) : State := arrive (mgmtSlot s.loop.node code r) r.fillFirst s

/-! ### An event that the part's own work brings (R16, R80, R208) -/

/-- An event from within: the steps still due are taken first. -/
def ownEvent (op : State → State) (s : State) : State :=
  if s.inReset then s
  else
    let s0 := settle s
    finish s0 (op s0)

/-! ### Resets (R13, R207) -/

/-- R207: the register at a reset: an event of the register that the reset tears leaves the valid mark clear. -/
def tornRegister (torn : Option Retained) (r : Register) : Register :=
  match torn with
  | some m => { r with retained := { m with valid := false } }
  | none => r

/-- R13: RESET# goes low or power is lost. -/
def assertReset (torn : Option Retained) (s : State) : State :=
  if s.inReset then s
  else
    { s with
      inReset := true
      pins := linesInReset
      due := []
      floor := { s.floor with register := tornRegister torn s.floor.register } }

/-- R3, R13, R207 and the reset section of every chapter: the end of power-on reset. -/
def endPowerOn (straps : Byte) (held : Bool) (s : State) : State :=
  setLines (State.powerOn straps (Register.powerOn s.floor.register.retained held) s.pending)

end Sys2Proof.Machine
end

