-- ==== Sys2Proof/Machine/CellCommands.lean ====
section
/-! DEFINITION. The commands that arrive from outside the part: resets, slots of the loop, and the silence of the loop. -/

namespace Sys2Proof.Machine

/-- R13 (POWER_ON_RESET). At the end of power-on reset the part reads its node straps, raises BYP#, and sets every
block to its power-on state. -/
def execPowerOnReset (straps : Byte) (retentionHeld : Bool) (s : State) : Host.Outcome State Fault Refusal :=
  .next (endPowerOn straps retentionHeld s)

/-- R13 (RESET_ASSERT). RESET# going low, or loss of power, drives BYP# low so the bypass relay carries the loop, and
releases ALERT#. -/
def execResetAssert (torn : Option Retained) (s : State) : Host.Outcome State Fault Refusal :=
  .next (assertReset torn s)

/-- R10 (EMPTY_SLOT). An arriving EMPTY slot is counted for the loop state and leaves empty or filled from the
insertion queue. -/
def execEmptySlot (slot : Slot) (fillFirst : Bool) (s : State) : Host.Outcome State Fault Refusal :=
  .next (arrive slot fillFirst s)

/-- R4 (BAD_CELL). An arriving bad cell is replaced by EMPTY in operating mode, or passed unchanged in TRANSPARENT
mode, and is counted in the bad-cell run. -/
def execBadCell (slot : Slot) (fillFirst : Bool) (s : State) : Host.Outcome State Fault Refusal :=
  .next (arrive slot fillFirst s)

/-- R7 (SAMPLE_CELL). A good SAMPLE cell is looked up in the Channel Map, handed to the Point Store if mapped, and
forwarded or absorbed. -/
def execSampleCell (slot : Slot) (fillFirst : Bool) (s : State) : Host.Outcome State Fault Refusal :=
  .next (arrive slot fillFirst s)

/-- R8 (COMMAND_CELL). A good COMMAND cell addressed into an ACTUATOR or TURNER window is denied or judged by the
Interlock Unit; any other COMMAND cell is forwarded unjudged. -/
def execCommandCell (slot : Slot) (fillFirst : Bool) (s : State) : Host.Outcome State Fault Refusal :=
  .next (arrive slot fillFirst s)

/-- R9 (TIME_CELL). A good TIME cell is forwarded, and sets the process clock if its source is of STATION class. -/
def execTimeCell (slot : Slot) (fillFirst : Bool) (s : State) : Host.Outcome State Fault Refusal :=
  .next (arrive slot fillFirst s)

/-- R9 (FORWARD_CELL). A good cell that no earlier rule strips or absorbs is forwarded with slot byte FULL_MARKED. -/
def execForwardCell (slot : Slot) (fillFirst : Bool) (s : State) : Host.Outcome State Fault Refusal :=
  .next (arrive slot fillFirst s)

/-- R16 (LOOP_SILENT). Expiry of the silence timer, or the bad-cell run reaching 16, takes the loop from UP to SILENT,
with its effects on permits, kilns, units, events and ALERT#. -/
def execLoopSilent (elapsed : Nat) (s : State) : Host.Outcome State Fault Refusal :=
  .next (ownEvent (fun s => if silentDue elapsed s then goSilent s else s) s)

/-- R15 (LOOP_UP). The good-cell run count reaching 16 takes the loop from SILENT to UP and raises LOOP_UP. -/
def execLoopUp (s : State) : Host.Outcome State Fault Refusal :=
  .next (takeNow (fun s => if upDue s then goUp s else s) s)

end Sys2Proof.Machine
end

