-- ==== Sys2Proof/Machine/ManagementCommands.lean ====
section
/-! DEFINITION. The management functions: each command is the arrival of a good FULL MGMT cell addressed to the part (R6) whose
function byte is the code of section 11.1. -/

namespace Sys2Proof.Machine

/-- R211 (BAD_FUNCTION). A MGMT cell with an unknown function code is answered BAD_FUNCTION. -/
def execBadFunction (code : Byte) (r : Req) (s : State) : Host.Outcome State Fault Refusal :=
  .next (arriveRequest code r s)

/-- R70 (CURSOR). Sets the load cursor to a table or view entry if the number and index are valid. -/
def execCursor (r : Req) (s : State) : Host.Outcome State Fault Refusal :=
  .next (arriveRequest Function.cursor.code r s)

/-- R71 (WRITE). Stores a value into a field of the shadow bank at the cursor. -/
def execWrite (r : Req) (s : State) : Host.Outcome State Fault Refusal :=
  .next (arriveRequest Function.write.code r s)

/-- R72 (READ). Returns a field of the shadow or active bank, or of a view, at the cursor. -/
def execRead (r : Req) (s : State) : Host.Outcome State Fault Refusal := .next (arriveRequest Function.read.code r s)

/-- R73 (CLEAR_SHADOW). Sets every field of the shadow bank to 0. -/
def execClearShadow (r : Req) (s : State) : Host.Outcome State Fault Refusal :=
  .next (arriveRequest Function.clearShadow.code r s)

/-- R73 (COPY_ACTIVE). Copies every field of the active bank into the shadow bank. -/
def execCopyActive (r : Req) (s : State) : Host.Outcome State Fault Refusal :=
  .next (arriveRequest Function.copyActive.code r s)

/-- R76 (ACTIVATE). Starts the check of the shadow bank and defers the reply. -/
def execActivate (r : Req) (s : State) : Host.Outcome State Fault Refusal :=
  .next (arriveRequest Function.activate.code r s)

/-- R93 (START). Starts a program on a LOADED unit, or creates a batch on an EMPTY steep vessel. -/
def execStart (r : Req) (s : State) : Host.Outcome State Fault Refusal :=
  .next (arriveRequest Function.start.code r s)

/-- R94 (HOLD). Puts a RUNNING unit into HELD(STATION). -/
def execHold (r : Req) (s : State) : Host.Outcome State Fault Refusal := .next (arriveRequest Function.hold.code r s)

/-- R95 (RESUME). Returns a HELD unit to its resume state if the loop and the reason's condition allow. -/
def execResume (r : Req) (s : State) : Host.Outcome State Fault Refusal :=
  .next (arriveRequest Function.resume.code r s)

/-- R96 (MANUAL). Puts a unit into MANUAL, keeping its resume state and program position. -/
def execManual (r : Req) (s : State) : Host.Outcome State Fault Refusal :=
  .next (arriveRequest Function.manual.code r s)

/-- R96 (AUTO). Ends MANUAL according to the resume state, to HELD(STATION), LOADED or DONE. -/
def execAuto (r : Req) (s : State) : Host.Outcome State Fault Refusal := .next (arriveRequest Function.auto.code r s)

/-- R97 (STOP_PROGRAM). Ends a unit's program, putting a vessel into DONE and a box or kiln into LOADED. -/
def execStopProgram (r : Req) (s : State) : Host.Outcome State Fault Refusal :=
  .next (arriveRequest Function.stopProgram.code r s)

/-- R98 (DISCARD). Frees the batch of a DONE or LOADED vessel unless it is under excise hold. -/
def execDiscard (r : Req) (s : State) : Host.Outcome State Fault Refusal :=
  .next (arriveRequest Function.discard.code r s)

/-- R101 (TRANSFER). Accepts a transfer of a batch along a permitted path and makes the first sample attempt. -/
def execTransfer (r : Req) (s : State) : Host.Outcome State Fault Refusal :=
  .next (arriveRequest Function.transfer.code r s)

/-- R106 (TRANSFER_DONE). Completes an IN_TRANSIT transfer not under excise hold, releasing the reservation and moving
or freeing the batch. -/
def execTransferDone (r : Req) (s : State) : Host.Outcome State Fault Refusal :=
  .next (arriveRequest Function.transferDone.code r s)

/-- R107 (TRANSFER_ABORT). Gives up a transfer in either phase, voiding its sample if it was IN_TRANSIT, and returns
the source to DONE. -/
def execTransferAbort (r : Req) (s : State) : Host.Outcome State Fault Refusal :=
  .next (arriveRequest Function.transferAbort.code r s)

/-- R141 (DOSE_START). Opens a dose by the station's hand on a channel whose owner is MANUAL or EMPTY. -/
def execDoseStart (r : Req) (s : State) : Host.Outcome State Fault Refusal :=
  .next (arriveRequest Function.doseStart.code r s)

/-- R142 (UNMASK). Clears a channel's mask when both its points are FRESH. -/
def execUnmask (r : Req) (s : State) : Host.Outcome State Fault Refusal :=
  .next (arriveRequest Function.unmask.code r s)

/-- R143 (DOSE_CLEAR). Brings every channel to rest, closing open valves, reporting the clearing and masking every
channel. -/
def execDoseClear (r : Req) (s : State) : Host.Outcome State Fault Refusal :=
  .next (arriveRequest Function.doseClear.code r s)

/-- R165 (TURNER_ENABLE). Sets the turner fault count to 0 and returns a DISABLED arbiter to IDLE. -/
def execTurnerEnable (r : Req) (s : State) : Host.Outcome State Fault Refusal :=
  .next (arriveRequest Function.turnerEnable.code r s)

/-- R41 (REFRESH). Answers a request for a point at once if it is FRESH, or else polls the probe. -/
def execRefresh (r : Req) (s : State) : Host.Outcome State Fault Refusal :=
  .next (arriveRequest Function.refresh.code r s)

/-- R215 (TIME_SET). Sets the process clock to the given value and clears TIME_UNSET. -/
def execTimeSet (r : Req) (s : State) : Host.Outcome State Fault Refusal :=
  .next (arriveRequest Function.timeSet.code r s)

/-- R221 (RESTART). Restarts the part's activity, keeping tables, batches, records, points and time, with each block
responding as its chapter states. -/
def execRestart (r : Req) (s : State) : Host.Outcome State Fault Refusal :=
  .next (arriveRequest Function.restart.code r s)

/-- R220 (CAPTURE_CLEAR). Empties the capture record and returns the further-offences count it held. -/
def execCaptureClear (r : Req) (s : State) : Host.Outcome State Fault Refusal :=
  .next (arriveRequest Function.captureClear.code r s)

/-- R203 (BASE). Sets the first sample number of an empty register and makes it READY. -/
def execBase (r : Req) (s : State) : Host.Outcome State Fault Refusal := .next (arriveRequest Function.base.code r s)

/-- R204 (TAKE). Removes the k oldest records and sets the base check to that of the newest removed. -/
def execTake (r : Req) (s : State) : Host.Outcome State Fault Refusal := .next (arriveRequest Function.take.code r s)

/-- R202 (SPOT). Writes a spot sample record of a unit's batch at the officer's request. -/
def execSpot (r : Req) (s : State) : Host.Outcome State Fault Refusal := .next (arriveRequest Function.spot.code r s)

/-- R205 (HOLD_SET). Sets EXCISE_HOLD on one batch or on every batch present. -/
def execHoldSet (r : Req) (s : State) : Host.Outcome State Fault Refusal :=
  .next (arriveRequest Function.holdSet.code r s)

/-- R205 (HOLD_CLEAR). Clears EXCISE_HOLD on one batch or on every batch present. -/
def execHoldClear (r : Req) (s : State) : Host.Outcome State Fault Refusal :=
  .next (arriveRequest Function.holdClear.code r s)

end Sys2Proof.Machine
end

