-- ==== Sys2Proof/Machine/TimeCommands.lean ====
section
/-! DEFINITION. The commands that fall due at a second of the time base, and those that follow in the part from an arrival.

A command of the first kind acts when the second has made it due (`takeDue`, log entry 2); one of the second kind tests its
condition itself (`takeNow`, log entry 3). -/

namespace Sys2Proof.Machine

/-- R44 (POLL_ANSWERED). A sample taken for a point with a poll list entry answers every requester in the entry with
the fresh value and frees the entry. -/
def execPollAnswered (p : Fin 192) (s : State) : Host.Outcome State Fault Refusal :=
  .next (takeNow (fun s => if s.points[p].quality = .fresh then pollAnswered p s else s) s)

/-- R139 (TERMINAL_COUNT). When a channel's current count reaches 0, it closes its valve, sets TC, reports to its
owner, raises DOSE_COMPLETE and enters IDLE or DONE. -/
def execTerminalCount (c : Fin 12) (s : State) : Host.Outcome State Fault Refusal :=
  .next (takeNow (fun s => if terminalDue s.floor c then s.onFloor fun e => terminalCount e c else s) s)

/-- R122 (PENDING_REOFFER). An output, valve, turner command or POLL whose earlier offer was refused is offered again
at a later second or evaluation. -/
def execPendingReoffer (who : ReofferTarget) (s : State) : Host.Outcome State Fault Refusal :=
  .next (takeDue (.pendingReoffer who) (reoffer who) s)

/-- R21 (CONGESTED). When a queued cell becomes more than 2 seconds old the queue becomes CONGESTED and its ALERT#
condition begins. -/
def execCongested (s : State) : Host.Outcome State Fault Refusal := .next (takeDue .congested testCongestion s)

/-- R215 (TIME_BASE_SECOND). At each second of the time base the process clock, point ages, unit clocks and timers,
kiln trip tests, flame counts and peat demand are advanced. -/
def execTimeBaseSecond (s : State) : Host.Outcome State Fault Refusal := .next (timeBaseSecond s)

/-- R32 (QUALITY_HELD). A FRESH point whose age passes its stale time becomes HELD. -/
def execQualityHeld (p : Fin 192) (s : State) : Host.Outcome State Fault Refusal :=
  .next (takeDue (.qualityHeld p) (qualityHeld p) s)

/-- R32 (QUALITY_STALE). A point whose age passes its stale time plus hold time becomes STALE, and the change is
announced. -/
def execQualityStale (p : Fin 192) (s : State) : Host.Outcome State Fault Refusal :=
  .next (takeDue (.qualityStale p) (qualityStale p) s)

/-- R45 (POLL_DEADLINE). At its deadline a poll list entry answers every requester with the point's current record and
is freed. -/
def execPollDeadline (e : Fin 4) (s : State) : Host.Outcome State Fault Refusal :=
  .next (takeDue (.pollDeadline e) (pollDeadline e) s)

/-- R80 (END_OF_CHECK). The activation check ends, either with the swap of banks or with a failure code, and the
deferred reply is offered. -/
def execEndOfCheck (s : State) : Host.Outcome State Fault Refusal := .next (ownEvent endOfCheck s)

/-- R102 (TRANSFER_ATTEMPT). A waiting transfer asks the Excise Register for its sample record with fresh votes, on a
point notice, a register change or the expiry of its vote wait. -/
def execTransferAttempt (b : Fin 20) (s : State) : Host.Outcome State Fault Refusal :=
  .next (takeNow (fun s => s.onFloor fun e => transferAttempt e b) s)

/-- R104 (VOTE_WAIT_EXPIRY). SAMPLE_WAIT after the vote wait began, the wait expired flag is set and an attempt is
made at once. -/
def execVoteWaitExpiry (b : Fin 20) (s : State) : Host.Outcome State Fault Refusal :=
  .next (takeDue (.voteWaitExpiry b) (fun s => s.onFloor fun e => voteWaitExpiry e b) s)

/-- R108 (TRANSFER_OVERDUE). TRANSFER_LIMIT minutes after acceptance the transfer's OVERDUE flag is set and
TRANSFER_OVERDUE is raised. -/
def execTransferOverdue (b : Fin 20) (s : State) : Host.Outcome State Fault Refusal :=
  .next (takeDue (.transferOverdue b) (fun s => s.onFloor fun e => transferOverdue e b) s)

/-- R208 (WALK_END). The power-on walk of the retained records ends, making the register READY or FAULTED. -/
def execWalkEnd (s : State) : Host.Outcome State Fault Refusal := .next (ownEvent (fun s => s.onFloor walkEnds) s)

/-- R119 (VESSEL_EVALUATION). At each evaluation period a vessel tests its step exit and decides and commands its
outputs. -/
def execVesselEvaluation (v : Fin 6) (s : State) : Host.Outcome State Fault Refusal :=
  .next (takeDue (.vesselEvaluation v) (fun s => s.onFloor fun e => vesselEvaluate e v) s)

/-- R117 (STEP_MAXIMUM). A vessel's step timer reaching the maximum time ends the step by maximum. -/
def execStepMaximum (v : Fin 6) (s : State) : Host.Outcome State Fault Refusal :=
  .next (takeDue (.stepMaximum v) (fun s => s.onFloor fun e => stepMaximum e v) s)

/-- R152 (BOX_EVALUATION). At each evaluation period a box decides its fan and tests for an urgent turn. -/
def execBoxEvaluation (b : Fin 12) (s : State) : Host.Outcome State Fault Refusal :=
  .next (takeDue (.boxEvaluation b) (fun s => s.onFloor fun e => boxEvaluate e b) s)

/-- R155 (DAY_ENDED). A box's day clock reaching the day length ends the day and meets the boundary. -/
def execDayEnded (b : Fin 12) (s : State) : Host.Outcome State Fault Refusal :=
  .next (takeDue (.dayEnded b) (fun s => s.onFloor fun e => dayEnded e b) s)

/-- R157 (TURN_INTERVAL_REACHED). A RUNNING box whose turn clock reaches its interval joins the turner queue as
NORMAL. -/
def execTurnIntervalReached (b : Fin 12) (s : State) : Host.Outcome State Fault Refusal :=
  .next (takeDue (.turnIntervalReached b) (fun s => s.onFloor fun e => turnIntervalReached e b) s)

/-- R159 (GRANT). An arbiter in IDLE or PARKING grants the turner to the first eligible request and enters PREPARING.
-/
def execGrant (s : State) : Host.Outcome State Fault Refusal := .next (takeNow (fun s => s.onFloor grantDecision) s)

/-- R160 (FAN_FEEDBACK_MET). The granted box's fan feedback at or below the turn-air maximum moves the arbiter to
DISPATCHED, offering GOTO and TURN. -/
def execFanFeedbackMet (s : State) : Host.Outcome State Fault Refusal :=
  .next (takeNow (fun s => s.onFloor fanTest) s)

/-- R161 (TURNER_AT_BOX). The turner reporting TURNING at the box moves the arbiter to TURNING and starts the spray.
-/
def execTurnerAtBox (s : State) : Host.Outcome State Fault Refusal :=
  .next (takeNow (fun s => s.onFloor turningTest) s)

/-- R162 (TURNER_FINISHED). The turner reporting IDLE or MOVING in TURNING completes the turn and the arbiter enters
RELEASING. -/
def execTurnerFinished (s : State) : Host.Outcome State Fault Refusal :=
  .next (takeNow (fun s => s.onFloor finishTest) s)

/-- R163 (RELEASE). Once the spray channel is no longer open the grant is released, with TURN_DONE for a complete
turn. -/
def execRelease (s : State) : Host.Outcome State Fault Refusal := .next (takeNow (fun s => s.onFloor releaseTest) s)

/-- R160 (PREP_TIMEOUT). The prep timer expiring withdraws the grant and moves the request to the back of its class.
-/
def execPrepTimeout (s : State) : Host.Outcome State Fault Refusal :=
  .next (takeDue .prepTimeout (fun s => s.onFloor prepTimeout) s)

/-- R161 (START_TIMEOUT). The start timer expiring offers STOP, withdraws the grant, counts a fault and may disable
the turner. -/
def execStartTimeout (s : State) : Host.Outcome State Fault Refusal :=
  .next (takeDue .startTimeout (fun s => s.onFloor startTimeout) s)

/-- R162 (TURN_OVERRUN). The turn timer expiring offers STOP, stops the spray and enters RELEASING with the turn
INCOMPLETE. -/
def execTurnOverrun (s : State) : Host.Outcome State Fault Refusal :=
  .next (takeDue .turnOverrun (fun s => s.onFloor turnOverrun) s)

/-- R163 (SPRAY_TRAIL_EXPIRY). The spray trail expiring with the channel still open stops the spray, raises
SHORT_SPRAY and releases. -/
def execSprayTrailExpiry (s : State) : Host.Outcome State Fault Refusal :=
  .next (takeDue .sprayTrailExpiry (fun s => s.onFloor sprayTrailExpiry) s)

/-- R168 (PARK_DELAY_EXPIRY). The parking delay expiring makes the parking decision by PARK_POLICY. -/
def execParkDelayExpiry (s : State) : Host.Outcome State Fault Refusal :=
  .next (takeDue .parkDelayExpiry (fun s => s.onFloor parkDelayExpiry) s)

/-- R168 (PARK_POSITION_REACHED). A turner at bay 0 receives PARK, and on reporting IDLE there the arbiter returns
from PARKING to IDLE. -/
def execParkPositionReached (s : State) : Host.Outcome State Fault Refusal :=
  .next (takeNow (fun s => s.onFloor parkingTest) s)

/-- R177 (KILN_EVALUATION). At each evaluation period a kiln updates its water account and moisture estimate, and,
while RUNNING, tests its phase, ramps and cures. -/
def execKilnEvaluation (k : Fin 2) (s : State) : Host.Outcome State Fault Refusal :=
  .next (takeDue (.kilnEvaluation k) (fun s => s.onFloor fun e => kilnEvaluate e k) s)

/-- R184 (PHASE_MAXIMUM). A kiln's phase timer reaching the maximum time ends the phase by maximum. -/
def execPhaseMaximum (k : Fin 2) (s : State) : Host.Outcome State Fault Refusal :=
  .next (takeDue (.phaseMaximum k) (fun s => s.onFloor fun e => phaseMaximum e k) s)

/-- R189 (FLAME_LOST). The flame count reaching the flame grace trips the kiln with cause FLAME_LOST. -/
def execFlameLost (k : Fin 2) (s : State) : Host.Outcome State Fault Refusal :=
  .next (takeDue (.flameLost k) (fun s => s.onFloor fun e => flameLost e k) s)

end Sys2Proof.Machine
end

