-- ==== Sys2Proof/Machine/Dispatch.lean ====
section
/-! DEFINITION. The dispatch: one arm per command, each one direct call of its meaning. -/

namespace Sys2Proof.Machine

def exec (i : Instr) (s : State) : Host.Outcome State Fault Refusal :=
  match i with
  | .powerOnReset straps retentionHeld => Sys2Proof.Machine.execPowerOnReset straps retentionHeld s
  | .resetAssert torn => Sys2Proof.Machine.execResetAssert torn s
  | .emptySlot slot fillFirst => Sys2Proof.Machine.execEmptySlot slot fillFirst s
  | .badCell slot fillFirst => Sys2Proof.Machine.execBadCell slot fillFirst s
  | .sampleCell slot fillFirst => Sys2Proof.Machine.execSampleCell slot fillFirst s
  | .pollAnswered p => Sys2Proof.Machine.execPollAnswered p s
  | .terminalCount c => Sys2Proof.Machine.execTerminalCount c s
  | .commandCell slot fillFirst => Sys2Proof.Machine.execCommandCell slot fillFirst s
  | .timeCell slot fillFirst => Sys2Proof.Machine.execTimeCell slot fillFirst s
  | .forwardCell slot fillFirst => Sys2Proof.Machine.execForwardCell slot fillFirst s
  | .loopSilent elapsed => Sys2Proof.Machine.execLoopSilent elapsed s
  | .loopUp => Sys2Proof.Machine.execLoopUp s
  | .pendingReoffer who => Sys2Proof.Machine.execPendingReoffer who s
  | .congested => Sys2Proof.Machine.execCongested s
  | .timeBaseSecond => Sys2Proof.Machine.execTimeBaseSecond s
  | .qualityHeld p => Sys2Proof.Machine.execQualityHeld p s
  | .qualityStale p => Sys2Proof.Machine.execQualityStale p s
  | .pollDeadline e => Sys2Proof.Machine.execPollDeadline e s
  | .badFunction code r => Sys2Proof.Machine.execBadFunction code r s
  | .cursor r => Sys2Proof.Machine.execCursor r s
  | .write r => Sys2Proof.Machine.execWrite r s
  | .read r => Sys2Proof.Machine.execRead r s
  | .clearShadow r => Sys2Proof.Machine.execClearShadow r s
  | .copyActive r => Sys2Proof.Machine.execCopyActive r s
  | .activate r => Sys2Proof.Machine.execActivate r s
  | .endOfCheck => Sys2Proof.Machine.execEndOfCheck s
  | .start r => Sys2Proof.Machine.execStart r s
  | .hold r => Sys2Proof.Machine.execHold r s
  | .resume r => Sys2Proof.Machine.execResume r s
  | .manual r => Sys2Proof.Machine.execManual r s
  | .auto r => Sys2Proof.Machine.execAuto r s
  | .stopProgram r => Sys2Proof.Machine.execStopProgram r s
  | .discard r => Sys2Proof.Machine.execDiscard r s
  | .transfer r => Sys2Proof.Machine.execTransfer r s
  | .transferAttempt b => Sys2Proof.Machine.execTransferAttempt b s
  | .voteWaitExpiry b => Sys2Proof.Machine.execVoteWaitExpiry b s
  | .transferDone r => Sys2Proof.Machine.execTransferDone r s
  | .transferAbort r => Sys2Proof.Machine.execTransferAbort r s
  | .transferOverdue b => Sys2Proof.Machine.execTransferOverdue b s
  | .doseStart r => Sys2Proof.Machine.execDoseStart r s
  | .unmask r => Sys2Proof.Machine.execUnmask r s
  | .doseClear r => Sys2Proof.Machine.execDoseClear r s
  | .turnerEnable r => Sys2Proof.Machine.execTurnerEnable r s
  | .refresh r => Sys2Proof.Machine.execRefresh r s
  | .timeSet r => Sys2Proof.Machine.execTimeSet r s
  | .restart r => Sys2Proof.Machine.execRestart r s
  | .captureClear r => Sys2Proof.Machine.execCaptureClear r s
  | .base r => Sys2Proof.Machine.execBase r s
  | .take r => Sys2Proof.Machine.execTake r s
  | .spot r => Sys2Proof.Machine.execSpot r s
  | .holdSet r => Sys2Proof.Machine.execHoldSet r s
  | .holdClear r => Sys2Proof.Machine.execHoldClear r s
  | .walkEnd => Sys2Proof.Machine.execWalkEnd s
  | .vesselEvaluation v => Sys2Proof.Machine.execVesselEvaluation v s
  | .stepMaximum v => Sys2Proof.Machine.execStepMaximum v s
  | .boxEvaluation b => Sys2Proof.Machine.execBoxEvaluation b s
  | .dayEnded b => Sys2Proof.Machine.execDayEnded b s
  | .turnIntervalReached b => Sys2Proof.Machine.execTurnIntervalReached b s
  | .grant => Sys2Proof.Machine.execGrant s
  | .fanFeedbackMet => Sys2Proof.Machine.execFanFeedbackMet s
  | .turnerAtBox => Sys2Proof.Machine.execTurnerAtBox s
  | .turnerFinished => Sys2Proof.Machine.execTurnerFinished s
  | .release => Sys2Proof.Machine.execRelease s
  | .prepTimeout => Sys2Proof.Machine.execPrepTimeout s
  | .startTimeout => Sys2Proof.Machine.execStartTimeout s
  | .turnOverrun => Sys2Proof.Machine.execTurnOverrun s
  | .sprayTrailExpiry => Sys2Proof.Machine.execSprayTrailExpiry s
  | .parkDelayExpiry => Sys2Proof.Machine.execParkDelayExpiry s
  | .parkPositionReached => Sys2Proof.Machine.execParkPositionReached s
  | .kilnEvaluation k => Sys2Proof.Machine.execKilnEvaluation k s
  | .phaseMaximum k => Sys2Proof.Machine.execPhaseMaximum k s
  | .flameLost k => Sys2Proof.Machine.execFlameLost k s

end Sys2Proof.Machine
end

