-- ==== Sys2Proof/WellFormed.lean ====
section
/-! DEFINITION. The well-formed commands: the slot of each row is of the class and kind that the row names, a management
cell has a source that a good cell can have, and BAD_FUNCTION carries an unknown code. The machine does not rest on this
check: it classifies every slot by R1 itself, so an ill-formed command acts as the row that its slot belongs to. -/

namespace Sys2Proof

open Machine

/-- R1: a source that a good cell can have. -/
def goodSource (b : Byte) : Bool := b != 0#8 && b != 255#8

/-- The slot is a good FULL cell of the kind given. -/
def goodOfKind (kind : Byte) (slot : Slot) : Bool :=
  classify slot == .good && slot.code == codeFull && slot.kind == kind

/-- The command is well-formed. -/
def Instr.wf (i : Instr) : Bool :=
  match i with
  | .emptySlot slot _ => classify slot == .empty
  | .badCell slot _ => classify slot == .bad
  | .sampleCell slot _ => goodOfKind 1#8 slot
  | .commandCell slot _ => goodOfKind 2#8 slot
  | .timeCell slot _ => goodOfKind 4#8 slot
  | .forwardCell slot _ => classify slot == .good
  | .badFunction code r => goodSource r.source && (functionOf code).isNone
  | .cursor r => goodSource r.source
  | .write r => goodSource r.source
  | .read r => goodSource r.source
  | .clearShadow r => goodSource r.source
  | .copyActive r => goodSource r.source
  | .activate r => goodSource r.source
  | .start r => goodSource r.source
  | .hold r => goodSource r.source
  | .resume r => goodSource r.source
  | .manual r => goodSource r.source
  | .auto r => goodSource r.source
  | .stopProgram r => goodSource r.source
  | .discard r => goodSource r.source
  | .transfer r => goodSource r.source
  | .transferDone r => goodSource r.source
  | .transferAbort r => goodSource r.source
  | .doseStart r => goodSource r.source
  | .unmask r => goodSource r.source
  | .doseClear r => goodSource r.source
  | .turnerEnable r => goodSource r.source
  | .refresh r => goodSource r.source
  | .timeSet r => goodSource r.source
  | .restart r => goodSource r.source
  | .captureClear r => goodSource r.source
  | .base r => goodSource r.source
  | .take r => goodSource r.source
  | .spot r => goodSource r.source
  | .holdSet r => goodSource r.source
  | .holdClear r => goodSource r.source
  | .powerOnReset _ _ => true
  | .resetAssert _ => true
  | .pollAnswered _ => true
  | .terminalCount _ => true
  | .loopSilent _ => true
  | .loopUp => true
  | .pendingReoffer _ => true
  | .congested => true
  | .timeBaseSecond => true
  | .qualityHeld _ => true
  | .qualityStale _ => true
  | .pollDeadline _ => true
  | .endOfCheck => true
  | .transferAttempt _ => true
  | .voteWaitExpiry _ => true
  | .transferOverdue _ => true
  | .walkEnd => true
  | .vesselEvaluation _ => true
  | .stepMaximum _ => true
  | .boxEvaluation _ => true
  | .dayEnded _ => true
  | .turnIntervalReached _ => true
  | .grant => true
  | .fanFeedbackMet => true
  | .turnerAtBox => true
  | .turnerFinished => true
  | .release => true
  | .prepTimeout => true
  | .startTimeout => true
  | .turnOverrun => true
  | .sprayTrailExpiry => true
  | .parkDelayExpiry => true
  | .parkPositionReached => true
  | .kilnEvaluation _ => true
  | .phaseMaximum _ => true
  | .flameLost _ => true

end Sys2Proof
end

