-- ==== Sys2Proof/Safety.lean ====
section
/-! DEFINITION. What a safe state is, in the terms that statements use. -/

namespace Sys2Proof.Machine

/-- R13, R188, R223: the output lines are those that the state calls for. -/
def State.LinesFollow (s : State) : Prop := s.pins = s.lines

/-- R65: both banks are in their canonical form. -/
def State.BanksCanonical (s : State) : Prop := s.tables.active.wf = true ∧ s.tables.shadow.wf = true

/-- R188: what must hold of kiln `k` for its permit to be high: RUNNING or HELD(STATION), in a phase that is not COOL, with
Ton FRESH or HELD, and the loop UP. -/
def State.FiringConsent (s : State) (k : Fin 2) : Prop :=
  let c := s.floor.kilns[k].ctx
  (c.state = .running ∨ (c.state = .held ∧ c.reason = some .station)) ∧
    (∃ p, c.pos = some p ∧ phaseKind p.fields ≠ .cool) ∧
    ((s.env.ton k).quality = .fresh ∨ (s.env.ton k).quality = .held) ∧
    s.loop.up = true

/-- R188: no permit is high without consent. -/
def State.PermitsSafe (s : State) : Prop := ∀ k : Fin 2, s.pins.permits[k] = true → s.FiringConsent k

/-- R17: the bounds of the shared classes of the insertion queue. -/
def Queue.Bounded (q : Queue) : Prop :=
  q.command.length ≤ 16 ∧ q.reply.length ≤ 8 ∧ q.event.length ≤ 8 ∧ q.shared ≤ 28

/-- R18: no two COMMAND or POLL cells of the queue have the same key. -/
def Queue.KeysDistinct (q : Queue) : Prop := (q.trip ++ q.command).Pairwise fun a b => a.sameKey b = false

/-- R196: records that rise by one and whose checks follow from a seed. -/
def ChainFrom : Crc16 → List SampleRecord → Prop
  | _, [] => True
  | seed, [r] => r.check = recordCheck seed r
  | seed, r :: q :: rest => r.check = recordCheck seed r ∧ q.number = r.number + 1 ∧ ChainFrom r.check (q :: rest)

/-- R196, R208: the retained chain is sound, and the next sample number follows the newest. -/
def ChainSound (m : Retained) : Prop :=
  ChainFrom m.baseCheck m.records ∧ ∀ r, m.records.getLast? = some r → m.next = r.number + 1

/-! ### What statements about one command speak of -/

/-- An event finds the part out of reset, with no step of the current second still to be taken. -/
def State.Awake (s : State) : Prop := s.inReset = false ∧ s.due = []

/-- R15: one more good slot does not bring the loop UP. -/
def State.GoodSteady (s : State) : Prop := s.loop.up = true ∨ s.loop.goodRun < 15

/-- R16: one more bad cell does not take the loop to SILENT. -/
def State.BadSteady (s : State) : Prop := s.loop.up = false ∨ s.loop.badRun < 15

/-- No transfer waits for its sample. -/
def Floor.NoneWaiting (f : Floor) : Prop := ∀ b : Fin 20, waitingTransfer f b = none

/-- R213: a reply of value `v` and qualifier `qual` is offered. -/
def State.told (s : State) (dest func tag : Byte) (v : Int) (qual : Nat) : State :=
  { s with
    floor :=
      { s.floor with
        queue := s.floor.queue.offerReply ⟨dest, 6#8, func, tag, Word.ofValue v, BitVec.ofNat 8 qual, s.second⟩ } }

/-- R14: a slot has been counted, a bad cell if `bad` is set. -/
def State.counted (s : State) (bad : Bool) : State := countRuns bad s

/-- R9, R10: a counted good slot leaves as `out`, and nothing else changes. -/
def State.passedOn (s : State) (out : Slot) : State := { s.counted false with outPort := some out }

/-- R10: the cell of a good slot is taken off the loop, its work being `op`; the EMPTY slot is filled from the queue before
or after that work, as `fillFirst` says (log entry 5). -/
def State.takenOff (s : State) (slot : Slot) (fillFirst : Bool) (op : State → State) : State :=
  if fillFirst then
    let filled := fillSlot slot s
    { op (filled.1.counted false) with outPort := some filled.2 }
  else
    let done := op (s.counted false)
    let filled := fillSlot slot done
    { filled.1 with outPort := some filled.2 }

/-- The capture record after an offence (R23), here for the cell of a slot. -/
def capturedBy (c : Capture) (time : Word) (reason : CaptureReason) (slot : Slot) : Capture :=
  if c.reason = .none then ⟨reason, slot.dest, slot.source, slot.kind, slot.func, time, c.further⟩
  else { c with further := min 65535 (c.further + 1) }

/-- The cell of a slot arrives in operating mode as a good FULL cell of a kind, not from the part and not addressed to it. -/
def State.Meets (s : State) (slot : Slot) (kind : Byte) : Prop :=
  s.tables.present = true ∧ classify slot = .good ∧ slot.code = 0x5A#8 ∧ slot.kind = kind ∧ slot.source ≠ s.loop.node ∧
    slot.dest ≠ s.loop.node

/-- The command of a management function. -/
def Function.command : Function → Req → Instr
  | .cursor => .cursor
  | .write => .write
  | .read => .read
  | .clearShadow => .clearShadow
  | .copyActive => .copyActive
  | .activate => .activate
  | .start => .start
  | .hold => .hold
  | .resume => .resume
  | .manual => .manual
  | .auto => .auto
  | .stopProgram => .stopProgram
  | .discard => .discard
  | .transfer => .transfer
  | .transferDone => .transferDone
  | .transferAbort => .transferAbort
  | .doseStart => .doseStart
  | .unmask => .unmask
  | .doseClear => .doseClear
  | .turnerEnable => .turnerEnable
  | .refresh => .refresh
  | .timeSet => .timeSet
  | .restart => .restart
  | .captureClear => .captureClear
  | .base => .base
  | .take => .take
  | .spot => .spot
  | .holdSet => .holdSet
  | .holdClear => .holdClear

/-- A request reaches the Station Dialogue: the part is awake, the slot does not bring the loop UP, the node number lets
cells be addressed to the part (R12), the source is one that a good cell can have (R1) and is not the part itself (R5), and
the output lines follow the state. -/
structure State.Reaches (s : State) (r : Req) : Prop where
  awake : s.Awake
  steady : s.GoodSteady
  node : s.nodeValid = true
  source : goodSource r.source = true
  other : r.source ≠ s.loop.node
  lines : s.LinesFollow

/-- R211, R212: a request reaches the Station Dialogue and may be served. -/
structure State.Ready (s : State) (fn : Function) (r : Req) : Prop where
  reaches : s.Reaches r
  rights : if s.tables.present = true then mayCall s fn r = true else fn.servedTransparent = true

/-- A request has been taken off the loop and its function carried out as `op` says. -/
def State.afterRequest (s : State) (fn : Function) (r : Req) (op : State → State) : State :=
  s.takenOff (mgmtSlot s.loop.node fn.code r) r.fillFirst op

/-- A request is answered with a status and a value. -/
def State.answer (s : State) (fn : Function) (r : Req) (st : Status) (v : Int) : State :=
  s.told r.source fn.code r.tag v st.code

/-- A request has been served, and nothing has changed but the run counts, the silence timer, the slot that left, the
floor and the lines. -/
def State.ServedOn (s t : State) : Prop :=
  t = { s.counted false with floor := t.floor, outPort := t.outPort, pins := t.pins } ∧ t.LinesFollow

/-- A step of the second has been taken, and nothing has changed but the list of steps still due, the floor and the lines. -/
def State.TookDue (s t : State) (i : Instr) : Prop :=
  t = { s with due := s.due.erase i, floor := t.floor, pins := t.pins } ∧ t.LinesFollow

/-- A step that follows from an arrival has been taken, and nothing has changed but the floor and the lines. -/
def State.TookNow (s t : State) : Prop := t = { s with floor := t.floor, pins := t.pins } ∧ t.LinesFollow

/-- Nothing of the units but unit `u` has changed its state, and no batch and no record has changed. -/
structure Floor.OnlyUnit (u : PlantUnit) (f g : Floor) : Prop where
  others : ∀ w, w ≠ u → g.ctx w = f.ctx w
  batches : g.batches = f.batches
  register : g.register = f.register
  acceptCount : g.acceptCount = f.acceptCount

/-- R158: request `a` stands before request `b`: URGENT before NORMAL, and within a class the lower joining number first. -/
def Request.StandsBefore (a b : Request) : Prop :=
  (a.urgent = true ∧ b.urgent = false) ∨ (a.urgent = b.urgent ∧ a.number < b.number)

/-- R158: no dosing channel whose entry names box `n` as its owner is ACTIVE or PAUSED. -/
abbrev State.SprayShut (s : State) (n : Fin 12) : Prop :=
  ∀ c : Fin 12, s.tables.active.channelOwner c = some (.box n) → s.floor.channels[c].isOpen = false

/-- R157, R158: the arbiter's queue is in order, with one request at most of a box, under distinct numbers below the joining
counter. -/
structure Arbiter.Ordered (a : Arbiter) : Prop where
  order : a.queue.Pairwise Request.StandsBefore
  boxes : a.queue.Pairwise fun x y => x.box ≠ y.box
  numbers : a.queue.Pairwise fun x y => x.number ≠ y.number
  below : ∀ r ∈ a.queue, r.number < a.counter

/-- R158: the queued requests before a number is given: at a joining counter of 65535 they are renumbered 0, 1, 2 and onward. -/
def Arbiter.numbered (a : Arbiter) : List Request :=
  if a.counter = 65535 then a.queue.zipIdx.map fun q => { q.1 with number := q.2 } else a.queue

/-- R158: the joining number that is given next. -/
def Arbiter.numberGiven (a : Arbiter) : Nat := if a.counter = 65535 then a.queue.length else a.counter

/-- R158: `b` is `a` once the request of box `n` has joined, or has been moved to the back of its class: it has the number
given, the other requests stand as they stood, and the queue stays in order. -/
structure Arbiter.AtBack (a b : Arbiter) (n : Fin 12) (urgent : Bool) : Prop where
  request : b.request n = some ⟨n, urgent, a.numberGiven⟩
  others : b.queue.filter (·.box != n) = a.numbered.filter (·.box != n)
  counter : b.counter = a.numberGiven + 1
  ordered : a.Ordered → b.Ordered

/-- R157: `b` is `a` once the request `q` of box `n` has become URGENT: it keeps its number. -/
structure Arbiter.Upgraded (a b : Arbiter) (n : Fin 12) (q : Request) : Prop where
  request : b.request n = some { q with urgent := true }
  others : b.queue.filter (·.box != n) = a.queue.filter (·.box != n)
  counter : b.counter = a.counter
  ordered : a.Ordered → b.Ordered

/-- R159, R160, R161: between `s` and `t` the turner has been granted to the box of request `r`, which prepares, or is DISPATCHED
where its fan feedback is met. -/
structure State.GrantsTo (s t : State) (r : Request) : Prop where
  grant : t.floor.arbiter.grant = some r.box
  result : t.floor.arbiter.result = .none
  parked : t.floor.arbiter.parked = false ∧ t.floor.arbiter.parkTimer = none
  faults : t.floor.arbiter.faults = s.floor.arbiter.faults
  prepares : feedbackMet s.env s.floor r.box = false →
    t.floor.arbiter.state = .preparing ∧
      t.floor.arbiter.timer = some (s.second + entryPrepTimeout s.floor.boxes[r.box].ctx.entry)
  goes : feedbackMet s.env s.floor r.box = true →
    t.floor.arbiter.state = .dispatched ∧
      t.floor.arbiter.timer = some (s.second + entryStartTimeout s.floor.boxes[r.box].ctx.entry)

/-- Nothing but the arbiter, the boxes' fans, the insertion queue and the count of free values has changed. -/
structure Floor.OnlyTurns (f g : Floor) : Prop where
  others : g = { f with boxes := g.boxes, arbiter := g.arbiter, queue := g.queue, freeCount := g.freeCount }
  boxes : ∀ b : Fin 12, g.boxes[b] = { f.boxes[b] with fan := g.boxes[b].fan, fanPending := g.boxes[b].fanPending }

/-- R92, R93: the START `r` names a program of unit `u` that is defined, and no batch or the one that the unit holds. -/
def State.StartNames (s : State) (u : PlantUnit) (r : Req) : Prop :=
  r.value.toNat / 65536 < programCount u ∧ 0 < s.tables.active.programLength u (r.value.toNat / 65536) ∧
    (r.value.toNat % 65536 = 0 ∨ (s.floor.ctx u).batch = some (r.value.toNat % 65536))

/-- R122: vessel `v` has decided each output for the step at `p` from a record of NONE; an output with an actuator has its command
queued, or is pending where the queue has refused it, and one without has its flag clear. -/
def State.CommandsOutputs (s t : State) (v : Fin 6) (p : Position) : Prop :=
  ∀ o : Fin 5,
    let x := t.floor.vessels[v].outs[o]
    x.decision = runDecision s.env v p.fields false o .none ∧
      match vesselActuator s.tables.active v o with
      | none => x.pending = false
      | some a =>
        x.pending = true ∨
          ∃ d ∈ t.floor.queue.trip ++ t.floor.queue.command, d.dest = a.1 ∧ d.kind = 2#8 ∧ d.func = a.2

/-- The unit's first item of the program that the START `r` names, as the active bank holds it. -/
def State.firstItem (s : State) (u : PlantUnit) (r : Req) : Position :=
  s.tables.active.position u (r.value.toNat / 65536) 0

/-- A unit's context once it runs at place `p` of a program. -/
def Ctx.runsAt (c : Ctx) (p : Position) : Ctx :=
  { c with state := .running, reason := none, resume := none, noted := none, pos := some p }

/-- A unit's context once it is HELD for a reason, to return to RUNNING. -/
def Ctx.heldFor (c : Ctx) (r : HoldReason) : Ctx := { c with state := .held, reason := some r, resume := some .running }

end Sys2Proof.Machine
end

