-- ==== Sys2Proof/Certificates/Slice0/Obligations.lean ====
section
/-! DEFINITION. The statements for the provers. Each docstring names the rules of spec/ that the statement follows, or says that
it is the model's own choice and names its log entry. -/

open Sys2Proof Sys2Proof.Machine

/-! ### The queue of commands, and resets -/

/-- The step takes the command at the front of the queue and executes it on the state with the queue's rest; on an empty queue the
part idles (the model's choice, log entry 1). -/
def Obligations.StepTakesFrontCommand : Prop :=
  ∀ (i : Instr) (rest : List Instr) (s : State),
    step { s with pending := i :: rest } = exec i { s with pending := rest } ∧
      step { s with pending := [] } = .next { s with pending := [] }

/-- R13, R207, R223: RESET# low or loss of power drives BYP# low, takes both permits low and releases ALERT#, and an event of the register
torn by the reset leaves its memory as it was torn, with the valid mark clear (R207). That nothing else changes, and that from
then on every command but the end of a power-on reset leaves the state as it is, is the model's choice (log entry 12). -/
def Obligations.ResetSilencesThePart : Prop :=
  (∀ (torn : Option Retained) (s : State), s.inReset = false →
    exec (.resetAssert torn) s = .next
      { s with
        inReset := true
        pins := ⟨false, .replicate 2 false, false⟩
        due := []
        floor :=
          { s.floor with
            register :=
              { s.floor.register with
                retained := match torn with
                  | some m => { m with valid := false }
                  | none => s.floor.register.retained } } }) ∧
    ∀ (i : Instr) (s : State), s.inReset = true → (∀ straps held, i ≠ .powerOnReset straps held) → exec i s = .next s

/-- R3, R13, R14, R16, R22, R23, R46, R64, R87, R109, R110, R129, R146, R170, R194, R197, R207,
R215, section 1.7: what the end of power-on reset leaves, and the register then, by the retention indication, the valid mark, the
based flag and the records that the retained memory holds. That it does so in whatever state the part was and keeps the waiting
commands is the model's choice (log entry 12); that a register that is walked keeps more than 256 records until the walk is log
entry 25. -/
def Obligations.PowerOnResetLeaves : Prop :=
  (∀ (straps : Byte) (held : Bool) (s : State), ∃ t, exec (.powerOnReset straps held) s = .next t ∧
    t.pending = s.pending ∧ t.inReset = false ∧ t.pins.byp = true ∧ t.pins.permits = .replicate 2 false ∧
    t.loop = ⟨straps, false, 0, 0, none, false⟩ ∧ t.capture = ⟨.none, 0#8, 0#8, 0#8, 0#8, 0#32, 0⟩ ∧
    t.time = 0#32 ∧ t.timeUnset = true ∧ t.tables = ⟨[], [], false, 0, 0, none⟩ ∧
    (∀ p : Fin 192, t.points[p] = ⟨0, .none, false, false, 0⟩) ∧ (∀ i : Fin 4, t.polls[i] = none) ∧
    (∀ i : Fin 8, t.retries[i] = none) ∧ t.floor.queue = ⟨[], [], [], [], false, false⟩ ∧
    (∀ v : Fin 6, t.floor.vessels[v] =
      ⟨⟨.empty, none, none, none, none, none⟩, 0, false, .none, .replicate 5 ⟨.none, false⟩, none, t.second⟩) ∧
    (∀ b : Fin 12, t.floor.boxes[b] = ⟨⟨.empty, none, none, none, none, none⟩, 0, 0, none, false, t.second⟩) ∧
    (∀ k : Fin 2, t.floor.kilns[k] =
      ⟨⟨.empty, none, none, none, none, none⟩, 0, 0, ⟨none, false⟩, ⟨none, false⟩, 0, 0, false, 0, 0, 0, none, [], 0, .none,
        0, 0, 0, none, 0, false, false, t.second⟩) ∧
    (∀ c : Fin 12, t.floor.channels[c] = ⟨.idle, true, 0, 0, false, 0, none, none, false, .none, false, false⟩) ∧
    t.floor.arbiter = ⟨.idle, [], none, 0, .none, none, false, none, 0, false, []⟩ ∧
    (∀ b : Fin 20, t.floor.batches[b] = none) ∧ t.floor.register.reservations = []) ∧
  (∀ (straps : Byte) (held : Bool) (s : State), ∃ t, exec (.powerOnReset straps held) s = .next t ∧
    let old := s.floor.register.retained
    let r := t.floor.register
    (held = false → r.state = .unset ∧ r.retained.records = [] ∧ r.retained.next = 0 ∧ r.retained.baseCheck = 0xFFFF#16 ∧
      r.retained.based = false) ∧
    (held = true → r.retained = { old with
      records := if old.valid = true ∧ old.based = true then old.records else old.records.take 256
      next := min (2 ^ 32) old.next }) ∧
    (held = true → old.valid = false → r.state = .faulted ∧ r.firstFailed = some 256) ∧
    (held = true → old.valid = true → old.based = false → old.records = [] → r.state = .unset) ∧
    (held = true → old.valid = true → old.based = false → old.records ≠ [] →
      r.state = .faulted ∧ r.firstFailed = some 256) ∧
    (held = true → old.valid = true → old.based = true → r.state = .checking))

/-! ### Slots of the loop -/

/-- R1, R4, R10, R11, R14, R20, R23, R50: an EMPTY slot that arrives is counted and leaves with the head of the insertion queue,
which then leaves the queue: its slot byte is FULL_MARKED, its source the part's node number, its check fresh, and the
destination of a COMMAND or POLL cell is translated. With an empty queue the slot leaves EMPTY, in TRANSPARENT mode as it
arrived. A bad cell in operating mode is counted in the bad-cell run and captured, and its slot leaves EMPTY or filled from
the queue in the same way. The first offence that the capture record meets stays in it with its reason, bytes 1 to 4 of its
cell and the time; each further one is only counted, to 65535 at most. A slot that the silence of the loop or its coming up
falls on is the matter of LoopSilenceHoldsAndTrips and SlotsCountAndLoopComesUp. That a slot is counted before it is handled
is log entry 6, and that it is the slot's bytes which say what it is, whichever row brought it, is log entry 37: both the
model's choices. -/
def Obligations.EmptyAndBadSlotsAreFilled : Prop :=
  (∀ (slot : Slot) (ff : Bool) (s : State), s.Awake → s.GoodSteady → s.LinesFollow → classify slot = .empty →
    (∀ c q, s.floor.queue.pop = some (c, q) →
      exec (.emptySlot slot ff) s = .next
        { s.passedOn (Slot.fresh
            ⟨0xA5#8, if c.kind = 2#8 ∨ c.kind = 3#8 then s.tables.active.translate c.dest else c.dest, s.loop.node, c.kind,
              c.func, c.tag, c.value, c.qual, 0#8⟩) with
          floor := { s.floor with queue := q } }) ∧
    (s.floor.queue.pop = none →
      exec (.emptySlot slot ff) s = .next (s.passedOn (if s.tables.present then emptySlotBytes else slot)))) ∧
  (∀ (slot : Slot) (ff : Bool) (s : State), s.Awake → s.BadSteady → s.LinesFollow → s.tables.present = true →
    classify slot = .bad →
    let t := { s.counted true with capture := capturedBy s.capture s.time .badCell slot }
    (∀ c q, s.floor.queue.pop = some (c, q) →
      exec (.badCell slot ff) s = .next { t with
        outPort := some (Slot.fresh
          ⟨0xA5#8, if c.kind = 2#8 ∨ c.kind = 3#8 then s.tables.active.translate c.dest else c.dest, s.loop.node, c.kind,
            c.func, c.tag, c.value, c.qual, 0#8⟩)
        floor := { s.floor with queue := q } }) ∧
    (s.floor.queue.pop = none → exec (.badCell slot ff) s = .next { t with outPort := some emptySlotBytes })) ∧
  (∀ (c : Capture) (now : Word) (why : CaptureReason) (slot : Slot),
    (c.reason = .none →
      capturedBy c now why slot = ⟨why, slot.dest, slot.source, slot.kind, slot.func, now, c.further⟩) ∧
    (c.reason ≠ .none → c.further < 65535 → capturedBy c now why slot = { c with further := c.further + 1 }) ∧
    (c.reason ≠ .none → c.further = 65535 → capturedBy c now why slot = c))

/-- R5, R6, R9, R23, R215: in operating mode a good cell of no kind that another rule takes is forwarded marked; one whose source
is the part is stripped without capture; a marked one is stripped as an orphan; one addressed to the part that is not MGMT is
stripped as BAD_KIND. A TIME cell is forwarded marked, and one from a source of STATION class sets the process clock and
clears TIME_UNSET. Where a cell is stripped, the arrival says whether its slot is filled before the cell's own work or after
it (the model's choice, log entry 5). -/
def Obligations.CellForwardedOrStripped : Prop :=
  (∀ (slot : Slot) (ff : Bool) (s : State), s.Awake → s.GoodSteady → s.LinesFollow → s.tables.present = true →
    classify slot = .good →
    (slot.source = s.loop.node → exec (.forwardCell slot ff) s = .next (s.takenOff slot ff id)) ∧
    (slot.source ≠ s.loop.node → slot.code = 0xA5#8 →
      exec (.forwardCell slot ff) s = .next (s.takenOff slot ff fun t =>
        { t with capture := capturedBy s.capture s.time .orphan slot })) ∧
    (slot.source ≠ s.loop.node → slot.code = 0x5A#8 → slot.dest = s.loop.node → slot.kind ≠ 5#8 →
      exec (.forwardCell slot ff) s = .next (s.takenOff slot ff fun t =>
        { t with capture := capturedBy s.capture s.time .badKind slot })) ∧
    (slot.source ≠ s.loop.node → slot.code = 0x5A#8 → slot.dest ≠ s.loop.node →
      slot.kind ≠ 1#8 → slot.kind ≠ 2#8 → slot.kind ≠ 4#8 →
      exec (.forwardCell slot ff) s = .next (s.passedOn { slot with code := 0xA5#8 }))) ∧
  (∀ (slot : Slot) (ff : Bool) (s : State), s.Awake → s.GoodSteady → s.LinesFollow → s.tables.present = true →
    classify slot = .good → slot.code = 0x5A#8 → slot.kind = 4#8 → slot.source ≠ s.loop.node → slot.dest ≠ s.loop.node →
    (s.tables.active.nodeClass slot.source = .station →
      exec (.timeCell slot ff) s = .next
        { s.passedOn { slot with code := 0xA5#8 } with time := slot.value, timeUnset := false }) ∧
    (s.tables.active.nodeClass slot.source ≠ .station →
      exec (.timeCell slot ff) s = .next (s.passedOn { slot with code := 0xA5#8 })))

/-- R11: in TRANSPARENT mode every slot but an EMPTY one and a request to the part leaves as it arrived, its slot counted, and
nothing else changes. -/
def Obligations.TransparentSlotPassesUnchanged : Prop :=
  ∀ (slot : Slot) (ff : Bool) (s : State), s.Awake → s.LinesFollow → s.tables.present = false →
    (classify slot = .bad → s.BadSteady →
      exec (.badCell slot ff) s = .next { s.counted true with outPort := some slot }) ∧
    (classify slot = .good → s.GoodSteady →
      ¬(slot.code = 0x5A#8 ∧ s.nodeValid = true ∧ slot.dest = s.loop.node ∧ slot.kind = 5#8) →
      exec (.sampleCell slot ff) s = .next (s.passedOn slot) ∧ exec (.commandCell slot ff) s = .next (s.passedOn slot) ∧
        exec (.timeCell slot ff) s = .next (s.passedOn slot) ∧ exec (.forwardCell slot ff) s = .next (s.passedOn slot))

/-- R7, R26, R27, R28, R29, R30, R137, R138, R139, R222: a SAMPLE cell of probe status GOOD or SUSPECT whose source and function
an in-use Channel Map entry names gives the entry's point its engineering value: FRESH, of age 0, SUSPECT by the status,
clamped into the range of a LEVEL point and marked CLAMPED where the clamp changed it; a TOTAL point takes the value as it is.
No other point changes; with the action COPY the cell is forwarded marked. A cell without an entry is forwarded marked, and
nothing else changes. A cell of any other status takes no value: a FRESH or HELD point becomes STALE and keeps its value, its
flags and its age. A sample of a TOTAL point that one dosing channel alone meters is that channel's next reading: the first is
only kept; then the delta modulo 2^32 counts, and one above 2^31 resets the meter with METER_RESET. An open channel's current
count falls by the delta, what is beyond it joins the overrun total, and a count that comes to 0 takes the terminal count; on
a closed channel the delta joins the overrun total within the overrun window, and after it sets the uncommanded note with
UNCOMMANDED_FLOW. -/
def Obligations.SampleReachesItsPoint : Prop :=
  (∀ (slot : Slot) (ff : Bool) (s : State) (m : Nat) (p : Fin 192) (c : Fin 12), s.Awake → s.GoodSteady → s.Meets slot 1#8 →
    let b := s.tables.active
    let x := s.floor.channels[c]
    let reading := slot.value.toNat
    let read := { x with lastReading := some reading }
    let event := fun (code : Nat) (v : Nat) => (⟨BitVec.ofInt 8 (b.field 0 0 5), 7#8, BitVec.ofNat 8 code,
      s.floor.eventSeq + 1#8, BitVec.ofNat 32 v, BitVec.ofNat 8 c, s.second⟩ : QCell)
    b.mapFind slot.source slot.func = some m → b.field 1 m 3 = (p : Nat) → slot.qual = 0#8 ∨ slot.qual = 1#8 →
    b.field 2 p 0 = 1 → b.meterPoint c = (p : Nat) → (∀ d : Fin 12, d ≠ c → b.meterPoint d ≠ (p : Nat)) →
    b.isTurnerPoint p = false → (∀ n, s.floor.arbiter.grant = some n → b.boxBinding n 3 ≠ (p : Nat)) →
    (∀ k : Fin 2, b.kilnBinding k 1 ≠ (p : Nat)) → s.floor.NoneWaiting →
    ∃ t, exec (.sampleCell slot ff) s = .next t ∧
      (x.lastReading = none → t.floor.channels = s.floor.channels.set c read) ∧
      ∀ l, x.lastReading = some l →
        let delta := (reading + 2 ^ 32 - l) % 2 ^ 32
        let quiet := b.field 1 m 4 = 0 ∧ s.points[p].quality ≠ .stale ∧ pollFor s p = none
        (delta = 0 → t.floor.channels = s.floor.channels.set c read) ∧
        (2 ^ 31 < delta → t.floor.channels = s.floor.channels.set c read ∧
          (quiet → t.floor.queue = s.floor.queue.offerEvent (event 22 reading) ∧
            t.floor.eventSeq = s.floor.eventSeq + 1#8)) ∧
        (0 < delta → delta ≤ 2 ^ 31 →
          (x.isOpen = true → delta < x.current →
            t.floor.channels = s.floor.channels.set c
              { read with current := x.current - delta, overrun := min (2 ^ 32 - 1) x.overrun }) ∧
          (x.isOpen = true → x.current ≤ delta → (∀ v, reportedOwner s.env c ≠ some (.vessel v)) →
            let y := t.floor.channels[c]
            y.tc = true ∧ y.valve = .closed ∧ y.base = x.base ∧
              y.overrun = min (2 ^ 32 - 1) (x.overrun + (delta - x.current)) ∧
              (b.autoReinit c = true → y.state = .idle ∧ y.current = x.base) ∧
              (b.autoReinit c = false → y.state = .done ∧ y.current = 0)) ∧
          (∀ closed, x.isOpen = false → x.closeTime = some closed → s.second ≤ closed + b.overrunWindow c →
            t.floor.channels = s.floor.channels.set c
              { read with overrun := min (2 ^ 32 - 1) (x.overrun + delta) }) ∧
          (x.isOpen = false → (∀ closed, x.closeTime = some closed → closed + b.overrunWindow c < s.second) →
            t.floor.channels = s.floor.channels.set c { read with note := true } ∧
              (x.note = false → quiet → t.floor.queue = s.floor.queue.offerEvent (event 23 delta) ∧
                t.floor.eventSeq = s.floor.eventSeq + 1#8)))) ∧
  (∀ (slot : Slot) (ff : Bool) (s : State), s.Awake → s.GoodSteady → s.LinesFollow → s.Meets slot 1#8 →
    (∀ (m : Nat) (p : Fin 192), s.tables.active.mapFind slot.source slot.func = some m →
      s.tables.active.field 1 m 3 = (p : Nat) → slot.qual = 0#8 ∨ slot.qual = 1#8 →
      ∃ t, exec (.sampleCell slot ff) s = .next t ∧
        (let b := s.tables.active
          let v := (slot.value.toInt * clamp (-32768) 32767 (b.field 2 p 1)).fdiv 256 + b.field 2 p 2
          let c := clamp (min (b.field 2 p 3) (b.field 2 p 4)) (max (b.field 2 p 3) (b.field 2 p 4)) v
          t.points = s.points.set p
            (if b.field 2 p 0 = 1 then ⟨slot.value.toInt, .fresh, false, slot.qual == 1#8, 0⟩
              else ⟨c, .fresh, c != v, slot.qual == 1#8, 0⟩)) ∧
        t = { s.counted false with
          points := t.points, polls := t.polls, outPort := t.outPort, floor := t.floor, pins := t.pins } ∧
        (s.tables.active.field 1 m 4 = 0 → t.outPort = some { slot with code := 0xA5#8 })) ∧
    (s.tables.active.mapFind slot.source slot.func = none →
      exec (.sampleCell slot ff) s = .next (s.passedOn { slot with code := 0xA5#8 }))) ∧
  (∀ (slot : Slot) (ff : Bool) (s : State) (m : Nat) (p : Fin 192), s.Awake → s.GoodSteady → s.Meets slot 1#8 →
    s.tables.active.mapFind slot.source slot.func = some m → s.tables.active.field 1 m 3 = (p : Nat) →
    slot.qual ≠ 0#8 → slot.qual ≠ 1#8 →
    ∃ t, exec (.sampleCell slot ff) s = .next t ∧ (∀ q : Fin 192, q ≠ p → t.points[q] = s.points[q]) ∧
      t.points[p] =
        (if s.points[p].quality = .fresh ∨ s.points[p].quality = .held then { s.points[p] with quality := .stale }
          else s.points[p]) ∧
      t = { s.counted false with points := t.points, outPort := t.outPort, floor := t.floor, pins := t.pins })

/-- R8, R9, R50, R51: a COMMAND cell into an ACTUATOR or TURNER window from a source that is not of STATION class is stripped and
captured, and answered DENIED with its function, its tag and its value; one whose destination lies in no such window is
forwarded marked, translated and with a fresh check. That a window of another class translates too, if its translate field is
set, is the model's choice (log entry 42). -/
def Obligations.CommandDeniedOrForwarded : Prop :=
  ∀ (slot : Slot) (ff : Bool) (s : State), s.Awake → s.GoodSteady → s.LinesFollow → s.Meets slot 2#8 →
    let b := s.tables.active
    let judged := b.nodeClass slot.dest = .actuator ∨ b.nodeClass slot.dest = .turner
    (judged → b.nodeClass slot.source ≠ .station →
      exec (.commandCell slot ff) s = .next (s.takenOff slot ff fun t =>
        ({ t with capture := capturedBy s.capture s.time .denied slot }).told slot.source slot.func slot.tag
          slot.value.toInt Status.denied.code)) ∧
    (¬judged →
      exec (.commandCell slot ff) s = .next (s.passedOn
        (Slot.fresh { slot with code := 0xA5#8, dest := b.translate slot.dest })))

/-- R52, R53, R54: a rule matches a command when it is in use, the destination lies between its destination low and high, and its function
is 256 or the command's. The first matching rule whose condition is true decides, and its verdict is the verdict; rules after
it are not read; where no rule decides the verdict is PASS. The conditions, by their codes, are those of the table of R54,
evaluated on the plant as it stands, and a code above 6 is never true; the verdicts, by their codes, are those of R52. -/
def Obligations.LowestRuleDecides : Prop :=
  (∀ (e : Env) (f : Floor) (r : Nat),
    let code := e.bank.field 5 r 5
    let holds := ruleCondition e f r = true
    let names := fun u : PlantUnit => e.bank.field 5 r 4 = (u.index : Nat)
    let p := e.point (e.bank.field 5 r 6)
    let threshold := e.bank.field 5 r 7
    (code = 0 → holds) ∧
    (code = 1 → (holds ↔ ∃ u, names u ∧ (f.ctx u).state ∈ [UnitState.running, .held, .tripped])) ∧
    (code = 2 → (holds ↔ ∃ u, names u ∧ (f.ctx u).state ∈ [UnitState.discharging, .receiving])) ∧
    (code = 3 → (holds ↔ f.arbiter.state ≠ .idle)) ∧
    (code = 4 → (holds ↔ p.quality = .none ∨ p.quality = .stale ∨ threshold < p.value)) ∧
    (code = 5 → (holds ↔ p.quality = .none ∨ p.quality = .stale ∨ p.value < threshold)) ∧
    (code = 6 → (holds ↔ ∃ (u : PlantUnit) (b : Fin 20) (x : Batch),
      names u ∧ f.batches[b] = some x ∧ x.exciseHold = true ∧
        ((f.ctx u).batch = some x.id ∨
          ((f.ctx u).state = .receiving ∧ ∃ t, x.transfer = some t ∧ t.dest = some u)))) ∧
    (6 < code → ¬holds) ∧
    (let low := e.bank.field 5 r 9;
      let high := e.bank.field 5 r 10;
      (e.bank.field 5 r 8 = 0 → ruleVerdict e.bank r = .pass) ∧
      (e.bank.field 5 r 8 = 1 ∨ 3 < e.bank.field 5 r 8 → ruleVerdict e.bank r = .refuse) ∧
      (e.bank.field 5 r 8 = 2 → ruleVerdict e.bank r = .retry) ∧
      (e.bank.field 5 r 8 = 3 → ruleVerdict e.bank r = .clamp (min low high) (max low high)))) ∧
  ∀ (e : Env) (f : Floor) (dest func : Byte),
    let fits := fun r : Nat =>
      e.bank.field 5 r 0 ≠ 0 ∧ e.bank.field 5 r 1 ≤ (dest.toNat : Int) ∧ (dest.toNat : Int) ≤ e.bank.field 5 r 2 ∧
        (e.bank.field 5 r 3 = 256 ∨ e.bank.field 5 r 3 = (func.toNat : Int))
    (∀ r, r < 64 → fits r → ruleCondition e f r = true → (∀ q, q < r → fits q → ruleCondition e f q = false) →
      judge e f dest func = ruleVerdict e.bank r) ∧
    ((∀ r, r < 64 → fits r → ruleCondition e f r = false) → judge e f dest func = .pass)

/-- R56, R57, R58: a station's COMMAND into an ACTUATOR or TURNER window. PASS forwards it and frees its retry list entry; REFUSE
strips it and answers REFUSED with its value, the retry list unchanged; CLAMP forwards it with its value brought into the
rule's range and frees its entry, and answers CLAMPED with the value sent where the value was changed. -/
def Obligations.StationCommandVerdicts : Prop :=
  ∀ (slot : Slot) (ff : Bool) (s : State), s.Awake → s.GoodSteady → s.LinesFollow → s.Meets slot 2#8 →
    let b := s.tables.active
    (b.nodeClass slot.dest = .actuator ∨ b.nodeClass slot.dest = .turner) → b.nodeClass slot.source = .station →
    let freed := retryFree slot.source slot.dest slot.func
    let sent := fun v : Word => Slot.fresh { slot with value := v, code := 0xA5#8, dest := b.translate slot.dest }
    (judge s.env s.floor slot.dest slot.func = .pass →
      exec (.commandCell slot ff) s = .next (freed (s.passedOn (sent slot.value)))) ∧
    (judge s.env s.floor slot.dest slot.func = .refuse →
      exec (.commandCell slot ff) s = .next (s.takenOff slot ff fun t =>
        t.told slot.source slot.func slot.tag slot.value.toInt Status.refused.code)) ∧
    (∀ lo hi, judge s.env s.floor slot.dest slot.func = .clamp lo hi →
      let v := if slot.value.toInt < lo then lo else if hi < slot.value.toInt then hi else slot.value.toInt
      (v = slot.value.toInt → exec (.commandCell slot ff) s = .next (freed (s.passedOn (sent (Word.ofValue v))))) ∧
      (v ≠ slot.value.toInt →
        exec (.commandCell slot ff) s = .next
          ((freed (s.passedOn (sent (Word.ofValue v)))).told slot.source slot.func slot.tag v Status.clamped.code)))

/-- R59, R60, R61: a RETRY verdict. With a retry limit of 0 the command is refused. Otherwise a command without an entry takes a
free one, or of a full list the one with the earliest last attempt, with count 1 and is answered RETRY with 1; one with an
entry whose count is below the limit increases it and is answered RETRY with the count; one beyond the limit loses its entry,
is captured and is answered REFUSED. That the free entry taken is the lowest-numbered one is the model's choice (log entry
43). -/
def Obligations.RetryVerdictCounts : Prop :=
  ∀ (slot : Slot) (ff : Bool) (s : State) (w : Nat), s.Awake → s.GoodSteady → s.LinesFollow → s.Meets slot 2#8 →
    let b := s.tables.active
    (b.nodeClass slot.dest = .actuator ∨ b.nodeClass slot.dest = .turner) → b.nodeClass slot.source = .station →
    judge s.env s.floor slot.dest slot.func = .retry → b.windowOf slot.dest = some w →
    let answer := fun (st : Status) (v : Int) (t : State) => t.told slot.source slot.func slot.tag v st.code
    (b.retryLimit w = 0 →
      exec (.commandCell slot ff) s = .next (s.takenOff slot ff (answer .refused slot.value.toInt))) ∧
    (∀ i : Fin 8, 0 < b.retryLimit w → retryFind s slot.source slot.dest slot.func = none →
      firstIndex s.retries (·.isNone) = some i →
      exec (.commandCell slot ff) s = .next (s.takenOff slot ff fun t =>
        answer .retry 1 { t with
          retries := s.retries.set i (some ⟨slot.source, slot.dest, slot.func, 1, s.second⟩) })) ∧
    (∀ i : Fin 8, 0 < b.retryLimit w → retryFind s slot.source slot.dest slot.func = none →
      firstIndex s.retries (·.isNone) = none →
      (∀ j : Fin 8, retryLast s i ≤ retryLast s j ∧ (j < i → retryLast s i < retryLast s j)) →
      exec (.commandCell slot ff) s = .next (s.takenOff slot ff fun t =>
        answer .retry 1 { t with
          retries := s.retries.set i (some ⟨slot.source, slot.dest, slot.func, 1, s.second⟩) })) ∧
    (∀ (i : Fin 8) (x : Retry), 0 < b.retryLimit w → retryFind s slot.source slot.dest slot.func = some i →
      s.retries[i] = some x →
      (x.count < b.retryLimit w →
        exec (.commandCell slot ff) s = .next (s.takenOff slot ff fun t =>
          answer .retry (x.count + 1 : Nat) { t with
            retries := s.retries.set i (some { x with count := x.count + 1, last := s.second }) })) ∧
      (b.retryLimit w ≤ x.count →
        exec (.commandCell slot ff) s = .next (s.takenOff slot ff fun t =>
          answer .refused slot.value.toInt { t with
            retries := s.retries.set i none
            capture := capturedBy s.capture s.time .retryExhausted slot })))

/-! ### The loop's state -/

/-- R16: the silence timer's expiry, or 16 bad cells in a row, take the loop from UP to SILENT: both permits go low, ALERT# is
driven, every kiln that is RUNNING or HELD trips with cause LOOP and notes it, every RUNNING vessel and box is HELD(LOOP) with
resume state RUNNING, and no other unit leaves its state. Batches and records do not change. A timer that has not expired, or
a loop that is SILENT already, changes nothing. The bad cell that brings the run to 16 has these effects as it arrives, and is
counted and captured as any other. -/
def Obligations.LoopSilenceHoldsAndTrips : Prop :=
  ∀ (elapsed : Nat) (s : State), s.Awake →
    let silenced := fun t : State =>
      t.pins.permits = .replicate 2 false ∧ t.pins.alertLow = true ∧
        (∀ k : Fin 2, s.floor.kilns[k].ctx.state = .running ∨ s.floor.kilns[k].ctx.state = .held →
          t.floor.kilns[k].ctx.state = .tripped ∧
            ∃ ton, t.floor.kilns[k].trip = some ⟨.loop, s.floor.kilns[k].ctx.item, s.time, s.timeUnset, ton⟩) ∧
        (∀ k : Fin 2, s.floor.kilns[k].ctx.state ≠ .running → s.floor.kilns[k].ctx.state ≠ .held →
          t.floor.kilns[k] = s.floor.kilns[k]) ∧
        (∀ v : Fin 6, t.floor.vessels[v].ctx =
          if s.floor.vessels[v].ctx.state = .running then
            { s.floor.vessels[v].ctx with state := .held, reason := some .loop, resume := some .running }
          else s.floor.vessels[v].ctx) ∧
        (∀ b : Fin 12, t.floor.boxes[b].ctx =
          if s.floor.boxes[b].ctx.state = .running then
            { s.floor.boxes[b].ctx with state := .held, reason := some .loop, resume := some .running }
          else s.floor.boxes[b].ctx) ∧
        t.floor.batches = s.floor.batches ∧ t.floor.register = s.floor.register
    (s.loop.up = true → (s.loop.badRun = 16 ∨ ∃ limit, s.loop.silence = some limit ∧ limit ≤ elapsed) →
      ∃ t, exec (.loopSilent elapsed) s = .next t ∧
        t = { s with
          loop := { s.loop with up := false, goodRun := 0, silence := none, silenceAlert := true }
          floor := t.floor
          pins := t.pins } ∧ silenced t) ∧
    (∀ (slot : Slot) (ff : Bool), s.loop.up = true → s.loop.badRun = 15 → classify slot = .bad →
      ∃ t, exec (.badCell slot ff) s = .next t ∧
        t = { s with
          loop := { s.loop with up := false, goodRun := 0, badRun := 16, silence := none, silenceAlert := true }
          capture := if s.tables.present = true then capturedBy s.capture s.time .badCell slot else s.capture
          outPort := t.outPort
          floor := t.floor
          pins := t.pins } ∧ silenced t) ∧
    (s.LinesFollow → (s.loop.up = false ∨ (s.loop.badRun ≠ 16 ∧ ∀ limit, s.loop.silence = some limit → elapsed < limit)) →
      exec (.loopSilent elapsed) s = .next s)

/-- R14, R15, R222: a slot counts in the runs and restarts the silence timer. The good or EMPTY slot that brings the good-cell run
to 16 while the loop is SILENT takes it to UP: the SILENT condition of ALERT# ends and LOOP_UP is raised; for an EMPTY slot
nothing else changes but the slot that leaves and the demand conditions, so that a unit in HELD(LOOP) and a kiln in TRIPPED
stay so. LOOP_UP is a step of its own that the slot has taken already (log entry 3): it does the same in a state that still
calls for it, and nothing in any other. That a slot is counted before it is handled is log entry 6. -/
def Obligations.SlotsCountAndLoopComesUp : Prop :=
  (∀ (slot : Slot) (ff : Bool) (s : State), s.Awake → s.loop.up = false → s.loop.goodRun = 15 →
    let loop : LoopState := { s.loop with
      up := true
      goodRun := 16
      badRun := 0
      silence := some (if s.tables.present then s.tables.active.silenceMs else 100)
      silenceAlert := false }
    let event : QCell :=
      ⟨BitVec.ofInt 8 (s.tables.active.field 0 0 5), 7#8, 2#8, s.floor.eventSeq + 1#8, 0#32, 0#8, s.second⟩
    (classify slot = .good → ∃ t, exec (.forwardCell slot ff) s = .next t ∧ t.loop = loop ∧ t.LinesFollow) ∧
    (classify slot = .empty → ∃ t, exec (.emptySlot slot ff) s = .next t ∧ t.LinesFollow ∧
      t = { s with
        loop := loop
        outPort := t.outPort
        pins := t.pins
        floor := { s.floor with
          queue := t.floor.queue
          eventSeq := if s.tables.present then s.floor.eventSeq + 1#8 else s.floor.eventSeq
          channels := t.floor.channels } } ∧
      ((∀ k : Fin 2, s.floor.kilns[k].ctx.state ≠ .running ∧ s.floor.kilns[k].ctx.state ≠ .held) →
        t.floor.channels = s.floor.channels ∧
          (s.tables.present = true → ff = true → ∀ q : Queue,
            (s.floor.queue.pop = none ∧ q = s.floor.queue) ∨ (∃ c, s.floor.queue.pop = some (c, q)) →
            t.floor.queue = q.offerEvent event)))) ∧
  (∀ s : State, s.loop.goodRun ≤ 16 → s.loop.badRun ≤ 16 →
    let limit := if s.tables.present then s.tables.active.silenceMs else 100
    (s.counted false).loop = { s.loop with
      goodRun := if s.loop.goodRun = 16 then 16 else s.loop.goodRun + 1, badRun := 0, silence := some limit } ∧
    (s.counted true).loop = { s.loop with
      badRun := if s.loop.badRun = 16 then 16 else s.loop.badRun + 1, goodRun := 0, silence := some limit }) ∧
  (∀ s : State, s.inReset = false → s.loop.up = false → s.loop.goodRun = 16 →
    ∃ t, exec .loopUp s = .next t ∧
      t = { s with loop := { s.loop with up := true, silenceAlert := false }, floor := t.floor, pins := t.pins } ∧
      t.floor = { s.floor with
        queue := t.floor.queue, eventSeq := t.floor.eventSeq, channels := t.floor.channels } ∧
      t.floor.eventSeq = (if s.tables.present then s.floor.eventSeq + 1#8 else s.floor.eventSeq) ∧ t.LinesFollow) ∧
  (∀ s : State, s.LinesFollow → s.loop.up = true ∨ s.loop.goodRun ≠ 16 → exec .loopUp s = .next s)

/-! ### The management functions -/

/-- R211, R212, R213, R23: a request for an unknown function code is answered BAD_FUNCTION. In operating mode a request whose
source has no right to the function is captured and answered DENIED; in TRANSPARENT mode a function that is not served there
is answered NOT_ACTIVE. Nothing else is done. The codes and
the rights are those of section 11.1: a STATION may call every function but
BASE, TAKE, SPOT and HOLD_CLEAR; an OFFICER these, HOLD_SET and REFRESH, CURSOR on a view, and READ while the cursor stands on
a view; any other class none. In TRANSPARENT mode CURSOR, WRITE, READ, CLEAR_SHADOW, COPY_ACTIVE, ACTIVATE and RESTART are
served. -/
def Obligations.RightsAndModeDecideService : Prop :=
  ((∀ code fn, functionOf code = some fn ↔ fn.code = code) ∧
    [Function.cursor, .write, .read, .clearShadow, .copyActive, .activate].map Function.code =
      [1#8, 2#8, 3#8, 4#8, 5#8, 6#8] ∧
    [Function.start, .hold, .resume, .manual, .auto, .stopProgram, .discard].map Function.code =
      [16#8, 17#8, 18#8, 19#8, 20#8, 21#8, 22#8] ∧
    [Function.transfer, .transferDone, .transferAbort].map Function.code = [24#8, 25#8, 26#8] ∧
    [Function.doseStart, .unmask, .doseClear].map Function.code = [32#8, 33#8, 34#8] ∧
    Function.turnerEnable.code = 40#8 ∧ Function.refresh.code = 48#8 ∧
    [Function.timeSet, .restart, .captureClear].map Function.code = [56#8, 57#8, 58#8] ∧
    [Function.base, .take, .spot, .holdSet, .holdClear].map Function.code = [64#8, 65#8, 66#8, 67#8, 68#8]) ∧
  (∀ (fn : Function) (r : Req) (s : State),
    (mayCall s fn r = true ↔
      (s.tables.active.nodeClass r.source = .station ∧ fn ∉ [Function.base, .take, .spot, .holdClear]) ∨
        (s.tables.active.nodeClass r.source = .officer ∧
          (fn ∈ [Function.refresh, .base, .take, .spot, .holdSet, .holdClear] ∨
            (fn = .cursor ∧ 32 ≤ r.qual.toNat ∧ r.qual.toNat ≤ 40) ∨ (fn = .read ∧ 32 ≤ s.tables.cursorNumber)))) ∧
    (fn.servedTransparent = true ↔
      fn ∈ [Function.cursor, .write, .read, .clearShadow, .copyActive, .activate, .restart])) ∧
  ∀ (r : Req) (s : State), s.Reaches r →
    (∀ code, functionOf code = none →
      exec (.badFunction code r) s = .next (s.takenOff (mgmtSlot s.loop.node code r) r.fillFirst fun t =>
        t.told r.source code r.tag 0 Status.badFunction.code)) ∧
    (∀ fn, s.tables.present = true → mayCall s fn r = false →
      exec (fn.command r) s = .next (s.afterRequest fn r fun t =>
        ({ t with capture := capturedBy s.capture s.time .denied (mgmtSlot s.loop.node fn.code r) }).answer fn r .denied
          0)) ∧
    (∀ fn, s.tables.present = false → fn.servedTransparent = false →
      exec (fn.command r) s = .next (s.afterRequest fn r fun t => t.answer fn r .notActive 0))

/-- R70, R71, R74, R213: CURSOR takes a table or view number and an entry that exist, and answers OK with the entry; any other
number or entry is answered BAD_ARGUMENT, and the cursor stays. WRITE stores the value into the shadow bank's field under the
cursor and answers OK with the value; on a view, or with a field number that the table does not have, it answers BAD_ARGUMENT;
while a check runs it answers BUSY. The active bank does not change. -/
def Obligations.CursorMovesAndWriteStores : Prop :=
  (∀ (r : Req) (s : State), s.Ready .cursor r →
    (∀ i : Nat, i < cursorEntries r.qual.toNat → r.value.toInt = i →
      exec (.cursor r) s = .next (s.afterRequest .cursor r fun t =>
        ({ t with tables := { s.tables with cursorNumber := r.qual.toNat, cursorIndex := i } }).answer .cursor r .ok i)) ∧
    (¬(0 ≤ r.value.toInt ∧ r.value.toInt < cursorEntries r.qual.toNat) →
      exec (.cursor r) s = .next (s.afterRequest .cursor r fun t => t.answer .cursor r .badArgument 0))) ∧
  (∀ (r : Req) (s : State), s.Ready .write r →
    let n := s.tables.cursorNumber
    let i := r.qual.toNat
    (s.tables.check = none → n < 12 → i < tableFields n →
      exec (.write r) s = .next (s.afterRequest .write r fun t =>
        ({ t with
          tables := { s.tables with
            shadow := s.tables.shadow.write (flatIndex n s.tables.cursorIndex i) r.value } }).answer .write r .ok
          r.value.toInt)) ∧
    (s.tables.check = none → ¬(n < 12 ∧ i < tableFields n) →
      exec (.write r) s = .next (s.afterRequest .write r fun t => t.answer .write r .badArgument 0)) ∧
    (s.tables.check ≠ none → exec (.write r) s = .next (s.afterRequest .write r fun t => t.answer .write r .busy 0)))

/-- R72, R144, R174, R213, R216, R217, R218, R219: READ on a table answers the field of the shadow bank, or with bit 7 of the qualifier
that of the active bank, NOT_ACTIVE where no bank is active, and BAD_ARGUMENT for a field number that the table does not have
(tested first: the model's choice, log entry 23). READ on a view answers the view's field, or BAD_ARGUMENT; on a dosing
channel's entry it clears the channel's TC, but not where it is answered BAD_ARGUMENT (log entry 48). No field of any bank
changes. The fields of the views are those of R217 to R219, with the states, qualities and reasons by their codes; what is
absent reads −1 where the field cannot be negative, and 0 otherwise (log entry 27). View 37 has R218's fields at R218's numbers,
and after them, at numbers that are the model's choice, those fields of R174's table that R218's list leaves out (log entry
64). View 33 has R217's fields without the copies that R88 counts among those it shows (log entry 69). -/
def Obligations.ReadAnswersTheField : Prop :=
  ([UnitState.empty, .loaded, .running, .held, .manual, .done, .discharging, .receiving, .tripped].map UnitState.code =
      [0, 1, 2, 3, 4, 5, 6, 7, 8] ∧
    [HoldReason.station, .loop, .point, .dose, .restart, .programGone].map HoldReason.code = [1, 2, 3, 4, 5, 6] ∧
    [Quality.none, .fresh, .held, .stale].map Quality.code = [0, 1, 2, 3] ∧
    [ChannelState.idle, .active, .paused, .done, .stopped].map ChannelState.code = [0, 1, 2, 3, 4] ∧
    [ArbiterState.idle, .parking, .preparing, .dispatched, .turning, .releasing, .disabled].map ArbiterState.code =
      [0, 1, 2, 3, 4, 5, 6] ∧
    [FillState.none, .notBegun, .filling, .complete].map FillState.code = [0, 1, 2, 3] ∧
    [TripCause.tonHigh, .tonLost, .flameLost, .loop].map TripCause.code = [1, 2, 3, 4] ∧
    [RegisterState.unset, .checking, .ready, .faulted].map RegisterState.code = [0, 1, 2, 3] ∧
    [CaptureReason.none, .badCell, .orphan, .badKind, .denied, .retryExhausted, .unmappedPoll].map CaptureReason.code =
      [0, 1, 2, 3, 4, 5, 6] ∧
    [VoteStatus.agreed3, .agreed2, .disagree, .missing].map voteCode = [1, 2, 3, 4] ∧
    [SampleKind.steepOut, .kilnIn, .kilnOut, .spot, .void].map kindCode = [1, 2, 3, 4, 5] ∧
    [Status.ok, .busy, .denied, .badFunction, .badArgument, .notActive, .refused, .retry, .clamped, .hold, .full, .wait,
        .badName, .badCheck, .oldGeneration, .dupKey, .badWindow, .badReference, .unitBusy].map Status.code =
      [0, 1, 2, 3, 4, 5, 6, 7, 8, 9, 10, 11, 16, 17, 18, 19, 20, 21, 22]) ∧
  (∀ s : State,
    let bit := fun b : Bool => if b = true then (1 : Int) else 0
    let count := fun o : Option Nat => match o with | some n => (n : Int) | none => -1
    let figure := fun o : Option Int => match o with | some i => i | none => (0 : Int)
    let setting := fun o : Option Int => match o with | some i => i | none => (-1 : Int)
    let output := fun o : Output =>
      (match o.decision with | .none => 0 | .off => 1 | .on => 2) + (if o.pending = true then (4 : Int) else 0)
    (∀ p : Fin 192, let x := s.points[p];
      viewEntry s 32 p = [x.value, x.quality.code, bit x.clamped, bit x.suspect, x.age]) ∧
    (∀ u : PlantUnit, let c := s.floor.ctx u;
      (viewEntry s 33 u.index).take 8 =
        [(c.state.code : Int), (match c.reason with | some w => (w.code : Int) | none => 0),
          count (c.resume.map fun w => w.state.code), (match c.batch with | some i => (i : Int) | none => 0),
          count (c.pos.map (·.program)), count (c.pos.map (·.item)), count c.noted,
          bit (s.tables.active.inService u.index)]) ∧
    (∀ v : Fin 6, let x := s.floor.vessels[v];
      (viewEntry s 33 v).drop 8 = [(x.timer : Int), bit x.note, x.fill.code, figure (x.endCo2.map (·.1)),
        figure (x.endCo2.map (·.2)), output x.outs[0], output x.outs[1], output x.outs[2], output x.outs[3],
        output x.outs[4], x.origin, bit x.endCo2.isSome]) ∧
    (∀ b : Fin 12, let x := s.floor.boxes[b];
      (viewEntry s 33 (6 + b)).drop 8 = [(x.dayClock : Int), x.turnClock, setting x.fan, bit x.fanPending, x.origin]) ∧
    (∀ k : Fin 2, let x := s.floor.kilns[k];
      (viewEntry s 33 (18 + k)).drop 8 = [(x.timer : Int), x.setpoint, setting x.burner.value, bit x.burner.pending,
        setting x.fan.value, bit x.fan.pending, x.origin]) ∧
    (∀ (b : Fin 20) (x : Batch), s.floor.batches[b] = some x →
      (viewEntry s 34 b).take 18 =
        [(x.id : Int), x.location.index, x.steepIn,
          bit x.steepOut.mass.isSome + 2 * bit x.steepOut.moisture.isSome + 4 * bit x.kilnIn.mass.isSome +
            8 * bit x.kilnIn.moisture.isSome + 16 * bit x.kilnOut.mass.isSome + 32 * bit x.kilnOut.moisture.isSome,
          figure x.steepOut.mass, figure x.steepOut.moisture, figure x.kilnIn.mass, figure x.kilnIn.moisture,
          figure x.kilnOut.mass, figure x.kilnOut.moisture, x.samples.length, count x.samples[0]?, count x.samples[1]?,
          count x.samples[2]?, count x.samples[3]?, count x.samples[4]?, count x.samples[5]?,
          bit x.exciseHold + 2 * bit x.unverified + 4 * bit x.inTransit] ∧
      (x.transfer = none → (viewEntry s 34 b).drop 18 = [-1, 0, -1, -1, 0]) ∧
      (∀ t, x.transfer = some t → (viewEntry s 34 b).drop 18 =
        [(match t.dest with | some u => (u.index : Int) | none => 255),
          (match t.phase with | .pendingSample => 1 | .inTransit => 2), (t.startTime.toNat : Int), count t.sample,
          bit t.overdue + 2 * bit t.waitExpired + 4 * bit t.voteWait.isSome + 8 * bit t.startUnset])) ∧
    (∀ c : Fin 12, let x := s.floor.channels[c];
      viewEntry s 35 c = [(x.state.code : Int), bit x.masked, x.base, x.current, bit x.tc, x.overrun, bit x.lastReading.isSome,
        figure (x.lastReading.map fun n => (n : Int)), bit x.closeTime.isSome,
        figure (x.closeTime.map fun n => (n : Int)), bit x.demand,
        (match x.valve with | .none => 0 | .closed => 1 | .opened => 2) + (if x.valvePending = true then 4 else 0),
        bit x.note]) ∧
    (let a := s.floor.arbiter;
      viewEntry s 36 0 = [(a.state.code : Int), count (a.grant.map fun b => 6 + (b : Nat)), a.faults,
        (match a.result with | .none => 0 | .complete => 1 | .incomplete => 2), count a.timer, bit a.parked,
        count a.parkTimer, a.queue.length, a.counter, bit a.parkOffered] ∧
      (∀ i, i < 12 → a.queue[i]? = none → viewEntry s 36 (i + 1) = [-1, -1, -1]) ∧
      (∀ i q, i < 12 → a.queue[i]? = some q →
        viewEntry s 36 (i + 1) = [6 + ((q.box : Nat) : Int), if q.urgent = true then 2 else 1, q.number])) ∧
    (∀ k : Fin 2, let x := s.floor.kilns[k];
      (viewEntry s 37 k).take 9 = [((x.dry / 2 ^ 32 : Nat) : Int), ((x.dry % 2 ^ 32 : Nat) : Int),
        ((x.water / 2 ^ 32 : Nat) : Int), ((x.water % 2 ^ 32 : Nat) : Int), x.removed, x.carry, x.moisture,
        figure x.filter, x.history.length] ∧
      (∀ i, i < 16 → (viewEntry s 37 k)[9 + i]? = some (figure x.history[i]?)) ∧
      ((viewEntry s 37 k).drop 25).take 5 = [(x.cure : Int), x.peat.code, x.peatBase, x.peatDelivered, x.flame] ∧
      (x.trip = none → ((viewEntry s 37 k).drop 30).take 5 = [0, -1, -1, 0, 0]) ∧
      (∀ t, x.trip = some t → ((viewEntry s 37 k).drop 30).take 5 =
        [(t.cause.code : Int), t.phase, t.time.toNat, bit t.timeUnset, t.ton]) ∧
      ((viewEntry s 37 k).drop 35).take 2 =
        [(x.skipped : Int), bit x.noBasis + 2 * bit x.noPickup + 4 * bit x.skipNote] ∧
      (viewEntry s 37 k).drop 37 = [(x.timer : Int), x.setpoint, setting x.burner.value, bit x.burner.pending,
        setting x.fan.value, bit x.fan.pending, x.origin]) ∧
    (let g := s.floor.register;
      viewEntry s 38 256 = [(g.state.code : Int), g.retained.records.length, g.reservations.length,
        ((g.retained.next % 2 ^ 32 : Nat) : Int), bit (g.retained.next == 2 ^ 32), g.retained.baseCheck.toNat,
        bit (decide (240 ≤ g.retained.records.length + g.reservations.length)), count g.firstFailed,
        bit g.retained.based] ∧
      (∀ i r, i < 256 → g.retained.records[i]? = some r →
        viewEntry s 38 i = [(r.number : Int), kindCode r.kind, r.batch, r.unit, r.time.toNat, bit r.timeUnset, r.mass,
          voteCode r.massStatus, r.moisture, voteCode r.moistureStatus, figure (r.estimate.map fun n => (n : Int)),
          figure (r.peat.map fun n => (n : Int)), figure (r.officer.map fun n => (n.toNat : Int)),
          figure (r.voided.map fun n => (n : Int)), r.check.toNat,
          bit r.estimate.isSome + 2 * bit r.peat.isSome + 4 * bit r.officer.isSome + 8 * bit r.voided.isSome])) ∧
    (let c := s.capture;
      viewEntry s 39 0 = [(c.reason.code : Int), c.dest.toNat, c.source.toNat, c.kind.toNat, c.func.toNat, c.time.toNat,
        c.further]) ∧
    (let q := s.floor.queue;
      viewEntry s 40 0 = [(s.loop.node.toNat : Int), bit s.tables.present, bit s.loop.up, bit s.tables.present,
        (if s.tables.present = true then (s.tables.active.unsigned 0 0 3 : Int) else 0), bit s.tables.check.isSome,
        s.time.toNat, bit s.timeUnset, s.floor.register.state.code,
        (q.trip.length + q.command.length + q.reply.length + q.event.length : Nat), q.trip.length, q.command.length,
        q.reply.length, q.event.length, bit q.lost,
        bit (s.floor.kilns[0].ctx.state == .tripped || s.floor.kilns[1].ctx.state == .tripped) +
          2 * bit s.loop.silenceAlert + 4 * bit q.congested + 8 * bit s.floor.anyOverdue +
          16 * bit (s.floor.arbiter.state == .disabled) +
          32 * bit (s.floor.register.state == .faulted ||
            decide (240 ≤ s.floor.register.retained.records.length + s.floor.register.reservations.length)),
        s.floor.eventSeq.toNat])) ∧
  ∀ (r : Req) (s : State), s.Ready .read r →
    let n := s.tables.cursorNumber
    let i := r.qual.toNat % 128
    let answers := fun (st : Status) (v : Int) =>
      exec (.read r) s = .next (s.afterRequest .read r fun t => t.answer .read r st v)
    (n < 32 →
      (tableFields n ≤ i → answers .badArgument 0) ∧
      (i < tableFields n → r.qual.toNat < 128 → answers .ok (s.tables.shadow.field n s.tables.cursorIndex i)) ∧
      (i < tableFields n → 128 ≤ r.qual.toNat → s.tables.present = true →
        answers .ok (s.tables.active.field n s.tables.cursorIndex i)) ∧
      (i < tableFields n → 128 ≤ r.qual.toNat → s.tables.present = false → answers .notActive 0)) ∧
    (32 ≤ n → n ≠ 35 →
      exec (.read r) s = .next (s.afterRequest .read r fun t =>
        match (viewEntry t n s.tables.cursorIndex)[i]? with
        | some v => t.answer .read r .ok v
        | none => t.answer .read r .badArgument 0)) ∧
    (∀ c : Fin 12, n = 35 → s.tables.cursorIndex = c →
      (∀ v, (channelView s.floor.channels[c])[i]? = some v →
        exec (.read r) s = .next (s.afterRequest .read r fun t : State =>
          ({ t with
            floor := { t.floor with
              channels := s.floor.channels.set c { s.floor.channels[c] with tc := false } } }).answer .read r .ok v)) ∧
      ((channelView s.floor.channels[c])[i]? = none → answers .badArgument 0))

/-- R73, R74, R76, R213: CLEAR_SHADOW sets every field of the shadow bank to 0 and COPY_ACTIVE takes over every field of the
active bank, each answered OK with 0; the active bank does not change. ACTIVATE notes its source and tag, enters CHECKING and
gives no reply yet. While a check runs each is answered BUSY. -/
def Obligations.ShadowIsClearedCopiedAndChecked : Prop :=
  (∀ (r : Req) (s : State),
    (s.Ready .clearShadow r →
      (s.tables.check = none → ∃ b : Bank, (∀ t e i, b.field t e i = 0) ∧
        exec (.clearShadow r) s = .next (s.afterRequest .clearShadow r fun t =>
          ({ t with tables := { s.tables with shadow := b } }).answer .clearShadow r .ok 0)) ∧
      (s.tables.check ≠ none →
        exec (.clearShadow r) s = .next (s.afterRequest .clearShadow r fun t => t.answer .clearShadow r .busy 0))) ∧
    (s.Ready .copyActive r →
      (s.tables.check = none →
        exec (.copyActive r) s = .next (s.afterRequest .copyActive r fun t =>
          ({ t with tables := { s.tables with shadow := s.tables.active } }).answer .copyActive r .ok 0)) ∧
      (s.tables.check ≠ none →
        exec (.copyActive r) s = .next (s.afterRequest .copyActive r fun t => t.answer .copyActive r .busy 0)))) ∧
  (∀ (r : Req) (s : State), s.Ready .activate r →
    (s.tables.check = none →
      exec (.activate r) s = .next (s.afterRequest .activate r fun t =>
        { t with tables := { s.tables with check := some (r.source, r.tag) } })) ∧
    (s.tables.check ≠ none →
      exec (.activate r) s = .next (s.afterRequest .activate r fun t => t.answer .activate r .busy 0)))

/-- R48, R76, R77, R78, R79, R80, R81, R83: the check ends. Where a test fails, the failure is answered to the noted node and tag,
the activation state is IDLE and nothing else changes. The tests are made in the order of R76 and the first that fails gives
the status and the value: the name, the check code, the generation, a Channel Map entry whose source and channel an earlier
one has (the lowest such, log entry 26), the lowest window at fault by R48, the first entry with an index field out of range,
and the first occupied unit, or else open channel, whose entry would change. Where every test passes, the two banks change
roles, an active bank is present, the retry list is emptied, each LEVEL point that is not NONE is clamped into its new range
and marked CLAMPED where that changed it, and the clock, the capture record, the poll list, the units' states, the batches and
the register are kept. -/
def Obligations.EndOfCheckSwapsOrAnswers : Prop :=
  (∀ (own : Byte) (f : Floor) (t : TableBank),
    let b := t.shadow
    let answer := activationFailure own f t
    let first := fun (P : Nat → Prop) (n : Nat) => P n ∧ ∀ m, m < n → ¬P m
    let named := b.read 0 = 0x56414C47#32 ∧ b.read 1 = 0x52412037#32 ∧ b.read 2 = 0x31343020#32
    let coded := b.unsigned 0 0 4 = b.checkCode.toNat
    let old := t.present = true ∧ b.unsigned 0 0 3 ≤ t.active.unsigned 0 0 3
    let repeated := fun j => j < 256 ∧ b.field 1 j 0 ≠ 0 ∧
      ∃ i, i < j ∧ b.field 1 i 0 ≠ 0 ∧ b.field 1 i 1 = b.field 1 j 1 ∧ b.field 1 i 2 = b.field 1 j 2
    let covers := fun (w : Nat) (n : Byte) =>
      b.field 4 w 1 ≤ (n.toNat : Int) ∧ (n.toNat : Int) < b.field 4 w 1 + b.field 4 w 2
    let sound := fun w =>
      b.field 4 w 2 ∈ [(1 : Int), 2, 4, 8, 16, 32, 64, 128] ∧ b.field 4 w 1 % b.field 4 w 2 = 0 ∧
        b.field 4 w 1 + b.field 4 w 2 ≤ 255 ∧ 1 ≤ b.field 4 w 3 ∧ b.field 4 w 3 ≤ 5 ∧
        (b.field 4 w 4 ≠ 0 → 1 ≤ b.field 4 w 5 ∧ b.field 4 w 5 + b.field 4 w 2 - 1 ≤ 254) ∧
        (∀ v, v < 8 → v ≠ w → b.field 4 v 0 ≠ 0 → ∀ n, ¬(covers v n ∧ covers w n)) ∧
        (b.field 4 w 3 = 4 ∨ b.field 4 w 3 = 5 → ¬covers w own)
    let unsound := fun w => w < 8 ∧ b.field 4 w 0 ≠ 0 ∧ ¬sound w
    let outside := fun v => ∃ n e, n < 12 ∧ e < tableEntries n ∧ v = 65536 * n + e ∧ entryGood b n e = false
    let differs := fun n e => ∃ i, i < tableFields n ∧ t.active.field n e i ≠ b.field n e i
    let busy := fun v =>
      (∃ u : PlantUnit, v = 65536 * 6 + u.index ∧ (f.ctx u).state ≠ .empty ∧ differs 6 u.index) ∨
        (v = 65536 * 6 + 20 ∧ f.arbiter.state ≠ .idle ∧ f.arbiter.state ≠ .disabled ∧ differs 6 20) ∨
        ∃ c : Fin 12, v = 65536 * 7 + c ∧ f.channels[c].isOpen = true ∧ differs 7 c
    (¬named → answer = some (.badName, 0)) ∧
    (named → ¬coded → answer = some (.badCheck, b.checkCode.toNat)) ∧
    (named → coded → old → answer = some (.oldGeneration, t.active.unsigned 0 0 3)) ∧
    (named → coded → ¬old →
      (∀ j, first repeated j → answer = some (.dupKey, 65536 + j)) ∧
      ((∀ j, ¬repeated j) →
        (∀ w, first unsound w → answer = some (.badWindow, 65536 * 4 + w)) ∧
        ((∀ w, ¬unsound w) →
          (∀ v, first outside v → answer = some (.badReference, v)) ∧
          ((∀ v, ¬outside v) →
            (∀ v, first busy v → answer = some (.unitBusy, v)) ∧ ((∀ v, ¬busy v) → answer = none)))))) ∧
  ∀ (s : State) (node tag : Byte), s.Awake → s.LinesFollow → s.tables.check = some (node, tag) →
    let new := s.tables.shadow
    (∀ st v, activationFailure s.loop.node s.floor s.tables = some (st, v) →
      exec .endOfCheck s = .next
        (({ s with tables := { s.tables with check := none } }).told node 6#8 tag v st.code)) ∧
    (nameGood new = true → checkGood new = true → oldGeneration s.tables = false → duplicateKey new = none →
      windowFault new s.loop.node = none → badReference new = none → unitBusy s.tables.active new s.floor = none →
      ∃ t, exec .endOfCheck s = .next t ∧
        t.tables = { s.tables with active := s.tables.shadow, shadow := s.tables.active, present := true, check := none } ∧
        t.retries = .replicate 8 none ∧
        (∀ p : Fin 192, t.points[p] =
          let x := s.points[p]
          let c := clamp (min (new.field 2 p 3) (new.field 2 p 4)) (max (new.field 2 p 3) (new.field 2 p 4)) x.value
          if new.field 2 p 0 = 1 ∨ x.quality = .none ∨ c = x.value then x else { x with value := c, clamped := true }) ∧
        t = { s with
          tables := t.tables, retries := t.retries, points := t.points, floor := t.floor, pins := t.pins } ∧
        (∀ u, t.floor.ctx u = s.floor.ctx u) ∧ t.floor.batches = s.floor.batches ∧ t.floor.register = s.floor.register)

/-- R41, R42, R43, R213: REFRESH of a point that is FRESH is answered at once with its value, quality and flags; a point out of
range is answered BAD_ARGUMENT; one that no in-use Channel Map entry names is captured and answered BAD_ARGUMENT; a request
that joins a poll list entry waits, each requester once; with the poll list full, or the entry's four requesters, it is
answered BUSY; otherwise it takes a free entry, the lowest-numbered one (the model's choice, log entry 41), and a POLL cell is
offered. -/
def Obligations.RefreshAnswersJoinsOrPolls : Prop :=
  ∀ (r : Req) (s : State), s.Ready .refresh r →
    let answers := fun (st : Status) =>
      exec (.refresh r) s = .next (s.afterRequest .refresh r fun t => t.answer .refresh r st 0)
    (¬(0 ≤ r.value.toInt ∧ r.value.toInt < 192) → answers .badArgument) ∧
    ∀ p : Fin 192, r.value.toInt = (p : Nat) →
      let x := s.points[p]
      (x.quality = .fresh →
        exec (.refresh r) s = .next (s.afterRequest .refresh r fun t =>
          t.told r.source 48#8 r.tag x.value
            (128 + 1 + (if x.clamped then 4 else 0) + if x.suspect then 8 else 0))) ∧
      (x.quality ≠ .fresh → ∀ (i : Fin 4) (q : Poll), pollFor s p = some i → s.polls[i] = some q →
        ((r.source, r.tag) ∈ q.requesters → exec (.refresh r) s = .next (s.afterRequest .refresh r id)) ∧
        ((r.source, r.tag) ∉ q.requesters → q.requesters.length < 4 →
          exec (.refresh r) s = .next (s.afterRequest .refresh r fun t =>
            { t with polls := s.polls.set i (some { q with requesters := q.requesters ++ [(r.source, r.tag)] }) })) ∧
        ((r.source, r.tag) ∉ q.requesters → 4 ≤ q.requesters.length → answers .busy)) ∧
      (x.quality ≠ .fresh → pollFor s p = none → s.tables.active.mapOfPoint p = none →
        exec (.refresh r) s = .next (s.afterRequest .refresh r fun t =>
          ({ t with
            capture := capturedBy s.capture s.time .unmappedPoll (mgmtSlot s.loop.node 48#8 r) }).answer .refresh r
              .badArgument 0)) ∧
      (x.quality ≠ .fresh → pollFor s p = none → ∀ m, s.tables.active.mapOfPoint p = some m →
        (firstIndex s.polls (·.isNone) = none → answers .busy) ∧
        ∀ i : Fin 4, firstIndex s.polls (·.isNone) = some i →
          exec (.refresh r) s = .next (s.afterRequest .refresh r fun t =>
            let o := t.floor.queue.offerCommand
              ⟨mapByte (s.tables.active.field 1 m 1), 3#8, mapByte (s.tables.active.field 1 m 2), BitVec.ofNat 8 i, 0#32,
                0#8, s.second⟩
            { t with
              floor := { t.floor with queue := o.1 }
              polls := s.polls.set i (some ⟨p, s.second, [(r.source, r.tag)], o.2⟩) }))

/-- R23, R213, R215, R220: TIME_SET sets the process clock, clears TIME_UNSET and answers OK with the clock; CAPTURE_CLEAR empties
the capture record and answers OK with the further offences that it held. -/
def Obligations.ClockSetAndCaptureCleared : Prop :=
  ∀ (r : Req) (s : State),
    (s.Ready .timeSet r →
      exec (.timeSet r) s = .next (s.afterRequest .timeSet r fun t =>
        ({ t with time := r.value, timeUnset := false }).answer .timeSet r .ok r.value.toNat)) ∧
    (s.Ready .captureClear r →
      exec (.captureClear r) s = .next (s.afterRequest .captureClear r fun t =>
        ({ t with capture := ⟨.none, 0#8, 0#8, 0#8, 0#8, 0#32, 0⟩ }).answer .captureClear r .ok s.capture.further))

/-- R19, R22, R82, R110, R146, R170, R213, R221: RESTART empties the insertion queue of its four classes, the poll list and the retry
list, and abandons a check. Where an EVENT cell was discarded the lost flag is set, and the first UNIT_HELD of the RESTART
carries it; of the events of the RESTART the queue takes 8. The reply, OK with 0, is offered after the emptying. Every RUNNING or MANUAL unit
is HELD(RESTART) and keeps its program and its batch, every other unit keeps its state; an open channel is STOPPED and every
channel masked; the arbiter's queue and grant are gone, and it is IDLE or stays DISABLED. The tables, the points, the clock, the
capture record, the batches and the register are kept. The order within RESTART is the model's choice (log entry 18). -/
def Obligations.RestartHoldsUnitsAndKeepsRecords : Prop :=
  ∀ (r : Req) (s : State), s.Ready .restart r →
    ∃ t, exec (.restart r) s = .next t ∧
      t = { s.counted false with
        polls := .replicate 4 none
        retries := .replicate 8 none
        tables := { s.tables with check := none }
        outPort := t.outPort
        floor := t.floor
        pins := t.pins } ∧
      (∀ u, (s.floor.ctx u).state = .running →
        t.floor.ctx u = { s.floor.ctx u with state := .held, reason := some .restart, resume := some .running }) ∧
      (∀ u back, (s.floor.ctx u).state = .manual → (s.floor.ctx u).resume = some back →
        t.floor.ctx u = { s.floor.ctx u with state := .held, reason := some .restart, resume := some back }) ∧
      (∀ u, (s.floor.ctx u).state ≠ .running → (s.floor.ctx u).state ≠ .manual → t.floor.ctx u = s.floor.ctx u) ∧
      (∀ c : Fin 12, t.floor.channels[c].masked = true ∧ t.floor.channels[c].base = s.floor.channels[c].base ∧
        t.floor.channels[c].current = s.floor.channels[c].current ∧
        t.floor.channels[c].state =
          if s.floor.channels[c].state = .active ∨ s.floor.channels[c].state = .paused then .stopped
          else s.floor.channels[c].state) ∧
      t.floor.arbiter.queue = [] ∧ t.floor.arbiter.grant = none ∧ t.floor.arbiter.faults = s.floor.arbiter.faults ∧
      t.floor.arbiter.state = (if s.floor.arbiter.state = .disabled then .disabled else .idle) ∧
      t.floor.batches = s.floor.batches ∧ t.floor.register = s.floor.register ∧
      (∀ k : Fin 2, t.floor.kilns[k].trip = s.floor.kilns[k].trip ∧ t.floor.kilns[k].flame = 0) ∧ t.LinesFollow ∧
      let old := if r.fillFirst then (s.floor.queue.pop.map (·.2)).getD s.floor.queue else s.floor.queue
      let q := t.floor.queue
      let lost := old.lost || !old.event.isEmpty
      let holds := allUnits.filter fun u => (s.floor.ctx u).state == .running || (s.floor.ctx u).state == .manual
      q.trip = [] ∧ q.congested = false ∧ (∀ c ∈ q.command ++ q.reply ++ q.event, c.joined = s.second) ∧
        (s.floor.arbiter.grant = none → q.command = []) ∧
        (r.fillFirst = true ∨ s.floor.arbiter.grant ≠ none →
          q.reply = [⟨r.source, 6#8, 57#8, r.tag, 0#32, 0#8, s.second⟩]) ∧
        (r.fillFirst = false → s.floor.arbiter.grant = none →
          q.reply = [] ∧
            t.outPort = some (Slot.fresh ⟨0xA5#8, r.source, s.loop.node, 6#8, 57#8, r.tag, 0#32, 0#8, 0#8⟩)) ∧
        (holds = [] ∨ s.tables.present = false → q.event = [] ∧ q.lost = lost) ∧
        ∀ u rest, holds = u :: rest → s.tables.present = true →
          q.event.head? = some ⟨BitVec.ofInt 8 (s.tables.active.field 0 0 5), 7#8, 8#8, s.floor.eventSeq + 1#8, 5#32,
            BitVec.ofNat 8 u.index + (if lost then 128#8 else 0#8), s.second⟩ ∧
            q.event.length = min 8 holds.length ∧ q.lost = decide (8 < holds.length)

/-! ### Unit commands -/

/-- R91 to R98: a unit command whose qualifier names no unit is answered BAD_ARGUMENT; one to a unit in a transfer is answered
BUSY; one to a unit in a state that the command does not take is answered REFUSED with the unit's state. Nothing else is done. -/
def Obligations.UnitCommandsTurnedAway : Prop :=
  ∀ (fn : Function) (r : Req) (s : State),
    fn ∈ [Function.start, .hold, .resume, .manual, .auto, .stopProgram, .discard] → s.Ready fn r →
    (unitOf r.qual.toNat = none →
      exec (fn.command r) s = .next (s.afterRequest fn r fun t => t.answer fn r .badArgument 0)) ∧
    (∀ u, unitOf r.qual.toNat = some u → (s.floor.ctx u).state = .discharging ∨ (s.floor.ctx u).state = .receiving →
      exec (fn.command r) s = .next (s.afterRequest fn r fun t => t.answer fn r .busy 0)) ∧
    (∀ u, unitOf r.qual.toNat = some u →
      (fn, (s.floor.ctx u).state) ∈
        [(.start, .empty), (.start, .running), (.start, .held), (.start, .manual), (.start, .done), (.start, .tripped),
          (.hold, .empty), (.hold, .loaded), (.hold, .manual), (.hold, .done), (.hold, .tripped), (.resume, .empty), (.resume, .loaded),
          (.resume, .manual), (.resume, .done), (.manual, .empty), (.manual, .tripped), (.stopProgram, .empty),
          (.stopProgram, .loaded), (.stopProgram, .done), (.discard, .empty), (.discard, .running), (.discard, .held),
          (.discard, .manual), (.discard, .tripped)] →
      (fn = .start → ∀ v, u = .vessel v → (s.floor.ctx u).state ≠ .empty) →
      exec (fn.command r) s = .next (s.afterRequest fn r fun t => t.answer fn r .refused (s.floor.ctx u).replyValue))

/-- R93, R114, R116, R118, R119, R122, R133, R155, R169: START of a defined program on a LOADED vessel or box: it is RUNNING at the
first item with its clocks at 0 and its evaluation origin at this second, and a box commands its fan. A vessel decides each of its
outputs from a record of NONE and commands it, OFF as well as ON (R122; the records begin at NONE: log entry 60). A FILL step asks the
fill channel for its volume. A channel whose points are both FRESH grants it, and so does one that is not masked and finds
neither point STALE or NONE: the vessel fills. Else the START of the dose is refused: the vessel is HELD(DOSE) with the fill
not begun. A FILL step without a volume ends as it is entered (log entry 31): the vessel is in the next step, or DONE where
there is none, and keeps its program position with its copies there (the model's choice, log entry 45). -/
def Obligations.StartRunsVesselOrBox : Prop :=
  ∀ (r : Req) (s : State), s.Ready .start r →
    (∀ v : Fin 6, r.qual.toNat = v → s.floor.vessels[v].ctx.state = .loaded → s.StartNames (.vessel v) r →
      unitChannelOpen s.env (.vessel v) s.floor = false →
      let p := s.firstItem (.vessel v) r
      ∃ t, exec (.start r) s = .next t ∧ s.ServedOn t ∧ s.floor.OnlyUnit (.vessel v) t.floor ∧
        t.floor.boxes = s.floor.boxes ∧ t.floor.kilns = s.floor.kilns ∧ t.floor.arbiter = s.floor.arbiter ∧
        (stepKind p.fields ≠ .fill →
          t.floor.channels = s.floor.channels ∧ t.floor.vessels[v].ctx = s.floor.vessels[v].ctx.runsAt p ∧
            t.floor.vessels[v].timer = 0 ∧ t.floor.vessels[v].fill = .none ∧ t.floor.vessels[v].origin = s.second ∧
            s.CommandsOutputs t v p) ∧
        (stepKind p.fields = .fill → t.floor.vessels[v].timer = 0 ∧ t.floor.vessels[v].origin = s.second) ∧
        (stepKind p.fields = .fill → 0 < stepFillVolume p.fields → ∀ c,
          s.tables.active.unitChannel (.vessel v) = some c → s.tables.active.channelOwner c = some (.vessel v) →
          let lost := fun i => (s.env.point i).quality = .stale ∨ (s.env.point i).quality = .none
          let masked := s.floor.channels[c].masked = true ∨ lost (s.tables.active.meterPoint c) ∨
            lost (s.tables.active.feedbackPoint c)
          (pointsFresh s.env c = true ∨ ¬masked →
            t.floor.vessels[v].ctx = s.floor.vessels[v].ctx.runsAt p ∧ t.floor.vessels[v].fill = .filling ∧
              t.floor.channels[c].state = .active ∧ t.floor.channels[c].masked = false ∧
              (t.floor.channels[c].base : Int) = stepFillVolume p.fields ∧
              t.floor.channels[c].current = t.floor.channels[c].base ∧ t.floor.channels[c].valve = .opened) ∧
          (pointsFresh s.env c = false → masked →
            t.floor.vessels[v].ctx = (s.floor.vessels[v].ctx.runsAt p).heldFor .dose ∧
              t.floor.vessels[v].fill = .notBegun ∧ t.floor.channels[c].masked = true)) ∧
        (stepKind p.fields = .fill → stepFillVolume p.fields ≤ 0 →
          let q := s.tables.active.position (.vessel v) p.program 1
          (s.tables.active.programLength (.vessel v) p.program ≤ 1 →
            t.floor.vessels[v].ctx = { s.floor.vessels[v].ctx.runsAt p with state := .done } ∧
              t.floor.vessels[v].fill = .none ∧
              t.floor.vessels[v].endCo2 = some (stepCo2Limit p.fields, stepCo2Hysteresis p.fields)) ∧
          (1 < s.tables.active.programLength (.vessel v) p.program → stepKind q.fields ≠ .fill →
            t.floor.vessels[v].ctx = s.floor.vessels[v].ctx.runsAt q ∧ t.floor.vessels[v].fill = .none))) ∧
    (∀ b : Fin 12, r.qual.toNat = 6 + b → s.floor.boxes[b].ctx.state = .loaded → s.StartNames (.box b) r →
      let p := s.firstItem (.box b) r
      ∃ t, exec (.start r) s = .next t ∧ s.ServedOn t ∧
        t.floor = { s.floor with queue := t.floor.queue, boxes := t.floor.boxes, freeCount := t.floor.freeCount } ∧
        (∀ w : Fin 12, w ≠ b → t.floor.boxes[w] = s.floor.boxes[w]) ∧
        t.floor.boxes[b].ctx = s.floor.boxes[b].ctx.runsAt p ∧ t.floor.boxes[b].dayClock = 0 ∧
        t.floor.boxes[b].turnClock = 0 ∧ t.floor.boxes[b].origin = s.second ∧
        ((s.env.bed b).usable = true → s.floor.arbiter.grant ≠ some b →
          t.floor.boxes[b].fan = some (fanFormula p.fields (s.env.bed b).value) ∧
            (actuatorRef (s.tables.active.boxBinding b 2) = none → t.floor.boxes[b].fanPending = false)))

/-- R93, R133, R175, R176, R186: START of a defined program on a LOADED kiln with the loop UP, Ton FRESH or HELD and its peat
channel not open begins a firing in phase 0: the dry mass and the initial water from the batch's kiln-in figures, or no basis,
the setpoint from Ton under the ceiling, and everything else of the last firing at its starting value. With no peat to burn
the kiln is RUNNING. A FREE_DRY phase with peat begins its feed, the peat base in proportion to the dry mass: where the peat
channel grants it (as R133 has it) the peat is FEEDING and the dose open, in DEMAND mode PAUSED while Ton is above the phase's
maximum for peat; a base of 0 is COMPLETE at once; where the channel refuses the kiln is HELD(DOSE) with its peat NOT_BEGUN. -/
def Obligations.StartBeginsFiring : Prop :=
  ∀ (r : Req) (s : State) (k : Fin 2), s.Ready .start r → r.qual.toNat = 18 + k →
    s.floor.kilns[k].ctx.state = .loaded → s.StartNames (.kiln k) r → s.loop.up = true → (s.env.ton k).usable = true →
    unitChannelOpen s.env (.kiln k) s.floor = false →
    let p := s.firstItem (.kiln k) r
    let fig := kilnInFigures s.floor s.floor.kilns[k].ctx.batch
    ∃ t, exec (.start r) s = .next t ∧ s.ServedOn t ∧ s.floor.OnlyUnit (.kiln k) t.floor ∧
      t.floor.vessels = s.floor.vessels ∧ t.floor.boxes = s.floor.boxes ∧ t.floor.arbiter = s.floor.arbiter ∧
      (∀ c : Fin 12, s.tables.active.unitChannel (.kiln k) ≠ some c → t.floor.channels[c] = s.floor.channels[c]) ∧
      (let x := t.floor.kilns[k];
        x.timer = 0 ∧ x.removed = 0 ∧ x.carry = 0 ∧ x.cure = 0 ∧ x.skipped = 0 ∧ x.peatDelivered = 0 ∧ x.filter = none ∧
          x.history = [] ∧ x.flame = 0 ∧ x.trip = none ∧ x.origin = s.second ∧
          x.setpoint = clamp 0 (entryCeiling p.entry) (s.env.ton k).value ∧
          (∀ m w, fig.mass = some m → fig.moisture = some w →
            x.noBasis = false ∧ (x.dry : Int) = max 0 m * (1000 - clamp 0 1000 w) ∧
              (x.water : Int) = max 0 m * clamp 0 1000 w) ∧
          (fig.mass = none ∨ fig.moisture = none → x.noBasis = true ∧ x.dry = 0 ∧ x.water = 0 ∧ x.moisture = 0) ∧
          (phaseKind p.fields ≠ .freeDry ∨ phasePeat p.fields ≤ 0 ∨ s.tables.active.unitChannel (.kiln k) = none →
            x.ctx = s.floor.kilns[k].ctx.runsAt p ∧ x.peat = .none) ∧
          (phaseKind p.fields = .freeDry → 0 < phasePeat p.fields → ∀ c,
            s.tables.active.unitChannel (.kiln k) = some c → s.tables.active.channelOwner c = some (.kiln k) →
            let lost := fun i => (s.env.point i).quality = .stale ∨ (s.env.point i).quality = .none
            let masked := s.floor.channels[c].masked = true ∨ lost (s.tables.active.meterPoint c) ∨
              lost (s.tables.active.feedbackPoint c)
            let ch := t.floor.channels[c]
            x.peatBase = (if x.noBasis = true then 0 else (phasePeat p.fields).toNat * x.dry / 1000000) ∧
            (pointsFresh s.env c = true ∨ ¬masked → 0 < x.peatBase → x.peatBase < 2 ^ 31 →
              x.ctx = s.floor.kilns[k].ctx.runsAt p ∧ x.peat = .filling ∧ ch.base = x.peatBase ∧
                ch.current = x.peatBase ∧ ch.overrun = 0 ∧ ch.masked = false ∧
                (s.tables.active.channelMode c ≠ .demand ∨ (s.env.ton k).value ≤ phasePeatMaxTon p.fields →
                  ch.state = .active ∧ ch.valve = .opened) ∧
                (s.tables.active.channelMode c = .demand → phasePeatMaxTon p.fields < (s.env.ton k).value →
                  ch.state = .paused ∧ ch.valve = .closed)) ∧
            (pointsFresh s.env c = true ∨ ¬masked → x.peatBase = 0 →
              x.ctx = s.floor.kilns[k].ctx.runsAt p ∧ x.peat = .complete ∧ ch.tc = true ∧ ch.base = 0) ∧
            (pointsFresh s.env c = false → masked →
              x.ctx = (s.floor.kilns[k].ctx.runsAt p).heldFor .dose ∧ x.peat = .notBegun ∧ ch.masked = true)))

/-- R92, R99, R114, R122, R217: START on an EMPTY vessel. With an id that no batch has, a free slot and a mass vote with a value it
creates the batch in the lowest free slot: with LOAD_ONLY the vessel is LOADED; with the number of a defined program it is
RUNNING at that program's first step, its timer at 0, and commands each of its outputs (log entry 60). An occupied id, a vessel out of service or no mass is answered REFUSED,
id 0 or a number that names no defined program BAD_ARGUMENT, and a full Batch Table FULL. -/
def Obligations.StartCreatesBatch : Prop :=
  ∀ (r : Req) (s : State) (v : Fin 6), s.Ready .start r → r.qual.toNat = v → s.floor.vessels[v].ctx.state = .empty →
    let id := r.value.toNat % 65536
    let n := r.value.toNat / 65536
    let p := s.firstItem (.vessel v) r
    let defined := n < 8 ∧ 0 < s.tables.active.programLength (.vessel v) n
    let answers := fun (st : Status) (n : Int) =>
      exec (.start r) s = .next (s.afterRequest .start r fun t => t.answer .start r st n)
    let served := s.tables.active.inService v
    let named := n = 65535 ∨ defined
    (served = false → answers .refused s.floor.vessels[v].ctx.replyValue) ∧
    (served = true → ¬named → answers .badArgument 0) ∧
    (served = true → named → id = 0 → answers .badArgument 0) ∧
    (served = true → named → id ≠ 0 → s.floor.findBatch id ≠ none →
      answers .refused s.floor.vessels[v].ctx.replyValue) ∧
    (served = true → named → id ≠ 0 → s.floor.findBatch id = none → freeSlot s.floor = none → answers .full 0) ∧
    (∀ slot : Fin 20, served = true → named → id ≠ 0 → s.floor.findBatch id = none → freeSlot s.floor = some slot →
      let mass := (s.env.vote (s.tables.active.unitGroups (.vessel v)).1).value
      (mass = none → answers .refused s.floor.vessels[v].ctx.replyValue) ∧
      (∀ m, mass = some m → unitChannelOpen s.env (.vessel v) s.floor = false →
        let batches := s.floor.batches.set slot
          (some ⟨id, .vessel v, m, ⟨none, none⟩, ⟨none, none⟩, ⟨none, none⟩, [], false, false, false, none⟩)
        (n = 65535 →
          exec (.start r) s = .next (s.afterRequest .start r fun t =>
            ({ t with
              floor := { t.floor with
                batches := batches
                vessels := upd s.floor.vessels v fun x =>
                  { x with ctx := ⟨.loaded, none, none, some id, x.ctx.pos, none⟩ } } }).answer .start r .ok 1)) ∧
        (n ≠ 65535 → stepKind p.fields ≠ .fill →
          ∃ t, exec (.start r) s = .next t ∧ s.ServedOn t ∧ t.floor.batches = batches ∧
            (∀ w, w ≠ .vessel v → t.floor.ctx w = s.floor.ctx w) ∧ t.floor.register = s.floor.register ∧
            t.floor.vessels[v].ctx = ⟨.running, none, none, some id, some p, none⟩ ∧ t.floor.vessels[v].timer = 0 ∧
            t.floor.vessels[v].fill = .none ∧ t.floor.vessels[v].origin = s.second ∧ s.CommandsOutputs t v p)))

/-- R90, R94, R124, R136, R166, R186: HOLD puts a RUNNING unit into HELD(STATION), to return to RUNNING; a HELD unit is answered
OK and does not change. A fill in progress is stopped; a kiln's DEMAND channel that is ACTIVE is PAUSED with its valve CLOSED.
A box that holds the grant before its turn has begun loses it with its request; in its turn the spray is stopped too and the
turn, INCOMPLETE, is released, the turn clock and the fault count unchanged. -/
def Obligations.HoldHoldsRunningUnit : Prop :=
  ∀ (r : Req) (s : State) (u : PlantUnit), s.Ready .hold r → unitOf r.qual.toNat = some u →
    ((s.floor.ctx u).state = .running →
      ∃ t, exec (.hold r) s = .next t ∧ s.ServedOn t ∧ s.floor.OnlyUnit u t.floor ∧
        t.floor.ctx u = (s.floor.ctx u).heldFor .station ∧
        (∀ v, u = .vessel v → s.floor.vessels[v].fill = .filling → unitChannelOpen s.env u s.floor = true →
          ∀ c, s.tables.active.unitChannel u = some c →
            t.floor.channels[c].state = .stopped ∧ t.floor.channels[c].valve = .closed) ∧
        (∀ k c, u = .kiln k → s.tables.active.unitChannel u = some c → s.tables.active.channelMode c = .demand →
          t.floor.channels[c].demand = false ∧ t.floor.channels[c].current = s.floor.channels[c].current ∧
            (s.floor.channels[c].state = .active →
              t.floor.channels[c].state = .paused ∧ t.floor.channels[c].valve = .closed)) ∧
        (∀ b, u = .box b → s.floor.arbiter.grant = some b →
          (s.floor.arbiter.state ∈ [ArbiterState.preparing, .dispatched, .turning] →
            t.floor.arbiter.hasRequest b = false ∧ t.floor.arbiter.grant ≠ some b ∧
              t.floor.arbiter.faults = s.floor.arbiter.faults ∧
              t.floor.boxes[b].turnClock = s.floor.boxes[b].turnClock) ∧
          (s.floor.arbiter.state = .turning → t.SprayShut b) ∧
          (s.floor.arbiter.state = .releasing → t.floor.arbiter = s.floor.arbiter))) ∧
    ((s.floor.ctx u).state = .held →
      exec (.hold r) s = .next (s.afterRequest .hold r fun t => t.answer .hold r .ok (s.floor.ctx u).replyValue))

/-- R86, R95, R125, R136, R154, R186, R187, R191: RESUME. A HELD unit whose resume state is LOADED or DONE enters it. One whose
resume state is RUNNING runs again: a box, but for HELD(POINT) without a bed reading, which is answered REFUSED; a vessel or
kiln whose dosing request is granted; where the request is refused the unit is HELD(DOSE). A RUNNING unit is answered OK, and
with the loop SILENT a HELD unit REFUSED. A TRIPPED kiln with the loop UP and Ton FRESH and at or below the setpoint ceiling
starts again from Ton, RUNNING where its peat needs nothing of its channel, and the trip record stays; otherwise it is
answered REFUSED and nothing changes (a kiln without a copied program entry has no ceiling and is refused: log entry 40).
RESUME of HELD(PROGRAM_GONE) fetches the noted item of the same program again: where the active bank holds it the unit is
RUNNING in it, otherwise REFUSED and nothing changes. A kiln whose feed is PAUSED takes it up where its demand condition is
true again. -/
def Obligations.ResumeReturnsUnit : Prop :=
  (∀ (r : Req) (s : State) (u : PlantUnit), s.Ready .resume r → unitOf r.qual.toNat = some u →
    let c := s.floor.ctx u
    let runs := ∃ t, exec (.resume r) s = .next t ∧ s.ServedOn t ∧ s.floor.OnlyUnit u t.floor ∧
      t.floor.ctx u = { c with state := .running, reason := none, resume := none, noted := none }
    let held := ∃ t, exec (.resume r) s = .next t ∧ s.ServedOn t ∧ s.floor.OnlyUnit u t.floor ∧
      (t.floor.ctx u).state = .held ∧ (t.floor.ctx u).reason = some .dose ∧ (t.floor.ctx u).resume = some .running ∧
      (t.floor.ctx u).batch = c.batch ∧ (t.floor.ctx u).pos = c.pos
    let stays := fun st : Status =>
      exec (.resume r) s = .next (s.afterRequest .resume r fun t => t.answer .resume r st c.replyValue)
    (c.state = .running → stays .ok) ∧
    (c.state = .held → s.loop.up = false → stays .refused) ∧
    (c.state = .held → s.loop.up = true → ∀ why, c.reason = some why → why ≠ .programGone →
      (∀ back, c.resume = some back → back ≠ .running →
        ∃ t, exec (.resume r) s = .next t ∧ s.ServedOn t ∧ s.floor.OnlyUnit u t.floor ∧
          t.floor.ctx u = { c with state := back.state, reason := none, resume := none, noted := none }) ∧
      (c.resume = some .running →
        (∀ b, u = .box b →
          (why = .point → (s.env.bed b).usable = false → stays .refused) ∧
          (why ≠ .point ∨ (s.env.bed b).usable = true → runs)) ∧
        (∀ v, u = .vessel v →
          ((fillRequest s.env v s.floor).2 = .granted → runs) ∧
          ((fillRequest s.env v s.floor).2 = .refused → held)) ∧
        (∀ k, u = .kiln k →
          ((resumePeat s.env k s.floor).2 = true → runs) ∧
          ((resumePeat s.env k s.floor).2 = false → held) ∧
          (∀ ch, s.tables.active.unitChannel u = some ch → s.tables.active.channelMode ch = .demand →
            s.floor.kilns[k].peat = .filling → s.floor.channels[ch].state = .paused → c.pos.isSome = true →
            phaseKind c.fields = .freeDry → 0 < phasePeat c.fields → (s.env.ton k).usable = true →
            (s.env.ton k).value ≤ phasePeatMaxTon c.fields →
            ∃ t, exec (.resume r) s = .next t ∧ t.floor.channels[ch].state = .active ∧
              t.floor.channels[ch].valve = .opened ∧ t.floor.channels[ch].demand = true)))) ∧
    (c.state = .held → s.loop.up = true → c.reason = some .programGone → ∀ p i, c.pos = some p → c.noted = some i →
      let q := s.tables.active.position u p.program i
      (s.tables.active.programLength u p.program ≤ (i : Int) → stays .refused) ∧
      ((i : Int) < s.tables.active.programLength u p.program →
        (∀ v, u = .vessel v → stepKind q.fields ≠ .fill →
          ∃ t, exec (.resume r) s = .next t ∧ s.ServedOn t ∧ s.floor.OnlyUnit u t.floor ∧
            t.floor.ctx u = c.runsAt q ∧ t.floor.vessels[v].timer = 0) ∧
        (∀ b, u = .box b →
          ∃ t, exec (.resume r) s = .next t ∧ s.ServedOn t ∧ s.floor.OnlyUnit u t.floor ∧
            t.floor.ctx u = c.runsAt q ∧ t.floor.boxes[b].dayClock = 0) ∧
        (∀ k, u = .kiln k →
          phaseKind q.fields ≠ .freeDry ∨ phasePeat q.fields ≤ 0 ∨ s.tables.active.unitChannel u = none →
          ∃ t, exec (.resume r) s = .next t ∧ s.ServedOn t ∧ s.floor.OnlyUnit u t.floor ∧
            t.floor.ctx u = c.runsAt q ∧ t.floor.kilns[k].timer = 0 ∧
            t.floor.kilns[k].setpoint = clamp 0 (entryCeiling q.entry) (phaseStart q.fields))))) ∧
  (∀ (r : Req) (s : State) (k : Fin 2), s.Ready .resume r → r.qual.toNat = 18 + k →
    s.floor.kilns[k].ctx.state = .tripped →
    let x := s.floor.kilns[k]
    let ton := s.env.ton k
    (s.loop.up = true → x.ctx.pos.isSome = true → ton.quality = .fresh → ton.value ≤ entryCeiling x.ctx.entry →
      x.peat = .none ∨ x.peat = .complete ∨ s.tables.active.unitChannel (.kiln k) = none →
      ∃ t, exec (.resume r) s = .next t ∧ s.ServedOn t ∧ s.floor.OnlyUnit (.kiln k) t.floor ∧
        t.floor.kilns[k] = { x with
          ctx := { x.ctx with state := .running, reason := none, resume := none, noted := none }
          setpoint := max 0 ton.value
          burner := t.floor.kilns[k].burner
          fan := t.floor.kilns[k].fan } ∧
        t.floor.kilns[k].burner.value = some (max 0 ton.value) ∧
        t.floor.kilns[k].fan.value = some (phaseFan x.ctx.fields)) ∧
    (¬(s.loop.up = true ∧ x.ctx.pos.isSome = true ∧ ton.quality = .fresh ∧ ton.value ≤ entryCeiling x.ctx.entry) →
      exec (.resume r) s = .next (s.afterRequest .resume r fun t => t.answer .resume r .refused x.ctx.replyValue)))

/-- R96, R127, R169, R192: MANUAL notes the state to return to and gives up the unit's decisions. AUTO returns the unit to
HELD(STATION) where that state is RUNNING, or else to LOADED or DONE. MANUAL of a MANUAL unit and AUTO of any other are
answered OK, and MANUAL of HELD(PROGRAM_GONE) REFUSED, without effect. -/
def Obligations.ManualAndAuto : Prop :=
  ∀ (r : Req) (s : State) (u : PlantUnit), unitOf r.qual.toNat = some u →
    let c := s.floor.ctx u
    (s.Ready .manual r →
      (∀ back, (c.state = .loaded ∧ back = .loaded) ∨ (c.state = .running ∧ back = .running) ∨
          (c.state = .done ∧ back = .done) ∨
          (c.state = .held ∧ c.reason ≠ some .programGone ∧ c.resume = some back) →
        ∃ t, exec (.manual r) s = .next t ∧ s.ServedOn t ∧ s.floor.OnlyUnit u t.floor ∧
          t.floor.ctx u = { c with state := .manual, reason := none, resume := some back, noted := none } ∧
          (∀ v : Fin 6, u = .vessel v → ∀ o : Fin 5, t.floor.vessels[v].outs[o] = ⟨.none, false⟩) ∧
          (∀ b : Fin 12, u = .box b → t.floor.boxes[b].fan = none) ∧
          (∀ k : Fin 2, u = .kiln k → t.floor.kilns[k].burner = ⟨none, false⟩ ∧ t.floor.kilns[k].fan = ⟨none, false⟩)) ∧
      (c.state = .manual →
        exec (.manual r) s = .next (s.afterRequest .manual r fun t => t.answer .manual r .ok c.replyValue)) ∧
      (c.state = .held → c.reason = some .programGone →
        exec (.manual r) s = .next (s.afterRequest .manual r fun t => t.answer .manual r .refused c.replyValue))) ∧
    (s.Ready .auto r → c.state ≠ .discharging → c.state ≠ .receiving →
      (c.state = .manual → ∀ back, c.resume = some back →
        ∃ t, exec (.auto r) s = .next t ∧ s.ServedOn t ∧ s.floor.OnlyUnit u t.floor ∧
          t.floor.ctx u =
            match back with
            | .running => c.heldFor .station
            | .loaded => { c with state := .loaded, reason := none, resume := none, noted := none }
            | .done => { c with state := .done, reason := none, resume := none, noted := none }) ∧
      (c.state ≠ .manual →
        exec (.auto r) s = .next (s.afterRequest .auto r fun t => t.answer .auto r .ok c.replyValue)))

/-- R97, R128, R169, R192: STOP_PROGRAM takes a RUNNING, HELD, MANUAL or TRIPPED unit out of its program and keeps its batch: a
vessel is DONE, a box or a kiln LOADED. A box that does not hold the grant has no turn request left, and the channel that a
vessel or kiln uses is not open, of a kiln by inference (log entry 34). -/
def Obligations.StopProgramUnloads : Prop :=
  ∀ (r : Req) (s : State) (u : PlantUnit), s.Ready .stopProgram r → unitOf r.qual.toNat = some u →
    (s.floor.ctx u).state ∈ [UnitState.running, .held, .manual, .tripped] →
    ∃ t, exec (.stopProgram r) s = .next t ∧ s.ServedOn t ∧ s.floor.OnlyUnit u t.floor ∧
      t.floor.ctx u =
        ⟨match u with | .vessel _ => .done | _ => .loaded, none, none, (s.floor.ctx u).batch, none, none⟩ ∧
      (∀ b, u = .box b → s.floor.arbiter.grant ≠ some b → t.floor.arbiter.hasRequest b = false) ∧
      (∀ c, s.tables.active.unitChannel u = some c → (∀ b, u ≠ .box b) → t.floor.channels[c].isOpen = false)

/-- R98, R128, R213, R222: DISCARD of a LOADED or DONE vessel frees its batch and leaves the vessel EMPTY, and one event is
raised; a batch under excise hold is kept and answered HOLD. Where no output of the vessel is ON and the batch has no
transfer, nothing else happens than that event, which is BATCH_FREED with the batch's last location and its id, and the reply
OK, which follows it (log entry 16). -/
def Obligations.DiscardFreesBatch : Prop :=
  ∀ (r : Req) (s : State) (v : Fin 6) (b : Fin 20) (x : Batch), s.Ready .discard r → r.qual.toNat = v →
    s.floor.vessels[v].ctx.state = .loaded ∨ s.floor.vessels[v].ctx.state = .done →
    s.floor.vessels[v].ctx.batch = some x.id → s.floor.findBatch x.id = some b → s.floor.batches[b] = some x →
    (x.exciseHold = true →
      exec (.discard r) s = .next (s.afterRequest .discard r fun t => t.answer .discard r .hold 0)) ∧
    (x.exciseHold = false →
      ∃ t, exec (.discard r) s = .next t ∧ s.ServedOn t ∧
        t.floor = { s.floor with
          queue := t.floor.queue
          eventSeq := s.floor.eventSeq + 1#8
          vessels := t.floor.vessels
          batches := s.floor.batches.set b none } ∧
        (∀ w : Fin 6, w ≠ v → t.floor.vessels[w] = s.floor.vessels[w]) ∧
        t.floor.vessels[v].ctx = ⟨.empty, none, none, none, none, none⟩ ∧ t.floor.vessels[v].endCo2 = none) ∧
    (x.exciseHold = false → x.transfer = none → (∀ o : Fin 5, s.floor.vessels[v].outs[o].decision ≠ .on) →
      exec (.discard r) s = .next (s.afterRequest .discard r fun t =>
        ({ t with
          floor := { t.floor with
            queue := t.floor.queue.offerEvent
              ⟨BitVec.ofInt 8 (s.tables.active.field 0 0 5), 7#8, 10#8, s.floor.eventSeq + 1#8, Word.ofValue x.id,
                BitVec.ofNat 8 x.location.index, s.second⟩
            eventSeq := s.floor.eventSeq + 1#8
            vessels := s.floor.vessels.set v
              { s.floor.vessels[v] with ctx := ⟨.empty, none, none, none, none, none⟩, endCo2 := none }
            batches := s.floor.batches.set b none } }).answer .discard r .ok 0))

/-! ### Batches and transfers -/

/-- R101, R102, R104, R105, R198, R199, R200: TRANSFER. It is turned away, and nothing else is done, by the first of the five
tests of R101 that fails: BAD_ARGUMENT, BUSY, HOLD, REFUSED for the location or the path, REFUSED for the destination.
Accepted, the source is DISCHARGING and the destination RECEIVING. Without room or with a register that is not READY the
transfer waits; with a vote that has no agreement its vote wait begins; with both votes agreed the sample is taken: one record
of the next number with its chain check and one reservation, and the transfer is IN_TRANSIT. -/
def Obligations.TransferTakesSampleOrWaits : Prop :=
  (∀ (r : Req) (s : State), s.Ready .transfer r →
    let answers := fun st : Status =>
      exec (.transfer r) s = .next (s.afterRequest .transfer r fun t => t.answer .transfer r st 0)
    let dest := unitOf r.qual.toNat
    (s.floor.findBatch (r.value.toNat % 65536) = none → answers .badArgument) ∧
    ∀ (b : Fin 20) (x : Batch), s.floor.findBatch (r.value.toNat % 65536) = some b → s.floor.batches[b] = some x →
      let path :=
        (∃ v n, x.location = .vessel v ∧ dest = some (.box n)) ∨ (∃ n k, x.location = .box n ∧ dest = some (.kiln k)) ∨
          (∃ k, x.location = .kiln k ∧ dest = none)
      let receives := ∀ u, dest = some u →
        (s.floor.ctx u).state = .empty ∧ s.tables.active.inService u.index = true ∧
          ∀ n, u = .box n → s.tables.active.boxBinding n 5 ≠ 0
      (dest = none → r.qual ≠ 255#8 → answers .badArgument) ∧
      (dest ≠ none ∨ r.qual = 255#8 →
        (x.transfer ≠ none → answers .busy) ∧
        (x.transfer = none → x.exciseHold = true → answers .hold) ∧
        (x.transfer = none → x.exciseHold = false →
          ((s.floor.ctx x.location).state ≠ .done ∨ ¬path → answers .refused) ∧
          ((s.floor.ctx x.location).state = .done → path → ¬receives → answers .refused)))) ∧
  ∀ (r : Req) (s : State) (b : Fin 20) (x : Batch) (dest : Option PlantUnit), s.Ready .transfer r →
    s.floor.findBatch (r.value.toNat % 65536) = some b → s.floor.batches[b] = some x → x.transfer = none →
    x.exciseHold = false → (s.floor.ctx x.location).state = .done → dest = unitOf r.qual.toNat →
    (dest = none → r.qual = 255#8) → pathAllowed x.location dest = true → destinationReady s.env s.floor dest = true →
    s.floor.NoneWaiting →
    let before := s.floor.register
    let votes := unitVotes s.env x.location
    let ready := before.state = .ready ∧ before.room 2 = true
    ∃ t, exec (.transfer r) s = .next t ∧ s.ServedOn t ∧
      t.floor.ctx x.location = { s.floor.ctx x.location with state := .discharging } ∧
      (∀ u, dest = some u → t.floor.ctx u = { s.floor.ctx u with state := .receiving }) ∧
      (∀ w, w ≠ x.location → some w ≠ dest → t.floor.ctx w = s.floor.ctx w) ∧
      (∀ c : Fin 20, c ≠ b → t.floor.batches[c] = s.floor.batches[c]) ∧ t.floor.arbiter = s.floor.arbiter ∧
      (∃ y tr, t.floor.batches[b] = some y ∧ y.transfer = some tr ∧ tr.dest = dest ∧ tr.startTime = s.time ∧
        tr.startSecond = s.second ∧ tr.overdue = false ∧ y.id = x.id ∧ y.location = x.location ∧
        (¬ready →
          t.floor.register = before ∧ tr.phase = .pendingSample ∧ tr.voteWait = none ∧ y.inTransit = x.inTransit) ∧
        (ready → ¬(VoteStatus.agreed votes.1.status = true ∧ VoteStatus.agreed votes.2.status = true) →
          0 < s.tables.active.unsigned 0 0 14 →
          t.floor.register = before ∧ tr.phase = .pendingSample ∧ tr.voteWait = some s.second ∧
            y.inTransit = x.inTransit) ∧
        (ready → VoteStatus.agreed votes.1.status = true → VoteStatus.agreed votes.2.status = true →
          tr.phase = .inTransit ∧ tr.sample = some before.retained.next ∧ y.inTransit = true ∧
          (∃ rec : SampleRecord, t.floor.register.retained.records = before.retained.records ++ [rec] ∧
            rec.number = before.retained.next ∧ rec.kind = transferKind x.location ∧ rec.batch = x.id ∧
            rec.unit = x.location.index ∧ rec.time = s.time ∧ rec.massStatus = votes.1.status ∧
            some rec.mass = votes.1.value ∧ rec.moistureStatus = votes.2.status ∧ some rec.moisture = votes.2.value ∧
            rec.check = recordCheck (chainSeed before.retained) rec) ∧
          t.floor.register.retained.next = before.retained.next + 1 ∧ t.floor.register.state = .ready ∧
          (∃ v, t.floor.register.reservations = before.reservations ++ [v] ∧ v.number = before.retained.next ∧
            v.batch = x.id ∧ v.unit = x.location.index)))

/-- R106, R128, R169, R193: TRANSFER_DONE of a transfer IN_TRANSIT whose batch is not under excise hold: its reservation is gone,
the source is EMPTY, and the destination is LOADED with the batch, or the batch is freed in STORE. A batch under hold is
answered HOLD and a transfer that waits for its sample BUSY. -/
def Obligations.TransferDoneMovesBatch : Prop :=
  ∀ (r : Req) (s : State) (b : Fin 20) (x : Batch) (tr : Transfer), s.Ready .transferDone r →
    s.floor.findBatch (r.value.toNat % 65536) = some b → s.floor.batches[b] = some x → x.transfer = some tr →
    (tr.phase = .pendingSample →
      exec (.transferDone r) s = .next (s.afterRequest .transferDone r fun t => t.answer .transferDone r .busy 0)) ∧
    (tr.phase = .inTransit → x.exciseHold = true →
      exec (.transferDone r) s = .next (s.afterRequest .transferDone r fun t => t.answer .transferDone r .hold 0)) ∧
    (tr.phase = .inTransit → x.exciseHold = false → some x.location ≠ tr.dest → s.floor.NoneWaiting →
      ∃ t, exec (.transferDone r) s = .next t ∧ s.ServedOn t ∧
        t.floor.ctx x.location = ⟨.empty, none, none, none, none, none⟩ ∧
        (∀ u, tr.dest = some u →
          t.floor.ctx u = ⟨.loaded, none, none, some x.id, (s.floor.ctx u).pos, none⟩ ∧
            t.floor.batches[b] = some { x with location := u, inTransit := false, transfer := none }) ∧
        (tr.dest = none → t.floor.batches[b] = none) ∧
        (∀ w, w ≠ x.location → some w ≠ tr.dest → t.floor.ctx w = s.floor.ctx w) ∧
        (∀ c : Fin 20, c ≠ b → t.floor.batches[c] = s.floor.batches[c]) ∧
        t.floor.register = { s.floor.register with
          reservations :=
            s.floor.register.reservations.filter fun v => !(v.batch == x.id && some v.number == tr.sample) })

/-- R107, R201: TRANSFER_ABORT returns the source to DONE and the destination to EMPTY and removes the transfer record. One
IN_TRANSIT whose reservation stands writes a VOID record of the reservation's figures, sealed as any record is, and releases
the reservation, and its number joins the batch's sample list; one that waits for its sample leaves the register as it is. -/
def Obligations.TransferAbortReturnsSource : Prop :=
  ∀ (r : Req) (s : State) (b : Fin 20) (x : Batch) (tr : Transfer), s.Ready .transferAbort r →
    s.floor.findBatch (r.value.toNat % 65536) = some b → s.floor.batches[b] = some x → x.transfer = some tr →
    some x.location ≠ tr.dest → (∀ c : Fin 20, c ≠ b → waitingTransfer s.floor c = none) →
    ∃ t, exec (.transferAbort r) s = .next t ∧ s.ServedOn t ∧
      t.floor.ctx x.location = { s.floor.ctx x.location with state := .done } ∧
      (∀ u, tr.dest = some u → t.floor.ctx u = { s.floor.ctx u with state := .empty }) ∧
      (∀ w, w ≠ x.location → some w ≠ tr.dest → t.floor.ctx w = s.floor.ctx w) ∧
      (∀ c : Fin 20, c ≠ b → t.floor.batches[c] = s.floor.batches[c]) ∧
      (tr.phase = .pendingSample →
        t.floor.register = s.floor.register ∧ t.floor.batches[b] = some { x with transfer := none, inTransit := false }) ∧
      (tr.phase = .inTransit → (s.floor.register.reservations.find? fun v => some v.number == tr.sample) = none →
        t.floor.register = s.floor.register ∧ t.floor.batches[b] = some { x with transfer := none, inTransit := false }) ∧
      (∀ v, tr.phase = .inTransit → (s.floor.register.reservations.find? fun v => some v.number == tr.sample) = some v →
        let old := s.floor.register.retained
        t.floor.batches[b] = some { x with
          transfer := none
          inTransit := false
          samples := appendSample x.samples old.next
          unverified := x.unverified || !(VoteStatus.agreed v.massStatus && VoteStatus.agreed v.moistureStatus) } ∧
        ∃ rec : SampleRecord,
          t.floor.register = { s.floor.register with
            retained := { old with records := old.records ++ [rec], next := old.next + 1, valid := true }
            reservations := s.floor.register.reservations.filter fun w => w.number != v.number } ∧
          rec.number = old.next ∧ rec.kind = .void ∧ rec.voided = some v.number ∧ rec.batch = v.batch ∧ rec.unit = v.unit ∧
          rec.mass = v.mass ∧ rec.massStatus = v.massStatus ∧ rec.moisture = v.moisture ∧
          rec.moistureStatus = v.moistureStatus ∧ rec.check = recordCheck (chainSeed old) rec)

/-- R102 to R105, R108: the transfers that wait. An attempt with a READY register, room and two agreed votes takes the sample and
the transfer is IN_TRANSIT; with a vote that has no agreement the vote wait begins; without room, or with a register that is
not READY, nothing changes. When the vote wait expires the sample is taken whatever the votes say. At its limit a transfer
becomes OVERDUE and ALERT# is driven. -/
def Obligations.WaitingTransferProceeds : Prop :=
  ∀ (s : State) (b : Fin 20) (x : Batch) (tr : Transfer), s.inReset = false →
    s.floor.batches[b] = some x → x.transfer = some tr →
    let before := s.floor.register
    let votes := unitVotes s.env x.location
    let ready := before.state = .ready ∧ before.room 2 = true
    let agreed := VoteStatus.agreed votes.1.status = true ∧ VoteStatus.agreed votes.2.status = true
    let sampled := fun t : State =>
      t.floor.register.retained.next = before.retained.next + 1 ∧
        t.floor.register.retained.records.length = before.retained.records.length + 1 ∧
        t.floor.register.reservations.length = before.reservations.length + 1 ∧
        (∃ y ytr, t.floor.batches[b] = some y ∧ y.transfer = some ytr ∧ ytr.phase = .inTransit ∧
          ytr.sample = some before.retained.next ∧ y.inTransit = true) ∧
        (∀ u, t.floor.ctx u = s.floor.ctx u)
    (tr.phase = .pendingSample → (∀ c : Fin 20, c ≠ b → waitingTransfer s.floor c = none) →
      (s.LinesFollow → ¬ready → voteWaitDue s.env s.floor b = false → exec (.transferAttempt b) s = .next s) ∧
      (ready → agreed → ∃ t, exec (.transferAttempt b) s = .next t ∧ s.TookNow t ∧ sampled t) ∧
      (s.LinesFollow → ready → ¬agreed → tr.waitExpired = false → tr.voteWait = none →
        0 < s.tables.active.unsigned 0 0 14 →
        exec (.transferAttempt b) s = .next { s with
          floor := { s.floor with
            batches := s.floor.batches.set b (some { x with
              transfer := some { tr with voteWait := some s.second } }) } }) ∧
      (.voteWaitExpiry b ∈ s.due → ready → voteWaitDue s.env s.floor b = true →
        ∃ t, exec (.voteWaitExpiry b) s = .next t ∧ s.TookDue t (.voteWaitExpiry b) ∧ sampled t)) ∧
    (.transferOverdue b ∈ s.due → overdueDue s.env s.floor b = true →
      ∃ t, exec (.transferOverdue b) s = .next t ∧ s.TookDue t (.transferOverdue b) ∧
        t.floor = { s.floor with
          queue := t.floor.queue
          eventSeq := t.floor.eventSeq
          batches := s.floor.batches.set b (some { x with transfer := some { tr with overdue := true } }) } ∧
        t.pins.alertLow = true)

/-! ### The Excise Register -/

/-- R203, R204, R206: BASE on a register without records and reservations sets the next sample number and the base check and makes
it READY; with records or reservations it is answered REFUSED. TAKE of k records, 1 to the number held, removes the k oldest
and takes the check of the newest removed as the base check; any other k is answered BAD_ARGUMENT. While the walk runs both
are answered BUSY. -/
def Obligations.OfficerBasesAndTakes : Prop :=
  ∀ (r : Req) (s : State),
    let g := s.floor.register
    (s.Ready .base r →
      (g.state = .checking →
        exec (.base r) s = .next (s.afterRequest .base r fun t => t.answer .base r .busy 0)) ∧
      (g.state ≠ .checking → g.retained.records ≠ [] ∨ g.reservations ≠ [] →
        exec (.base r) s = .next (s.afterRequest .base r fun t => t.answer .base r .refused 0)) ∧
      (g.state ≠ .checking → g.retained.records = [] → g.reservations = [] → s.floor.NoneWaiting →
        ∃ t, exec (.base r) s = .next t ∧ s.ServedOn t ∧
          t.floor = { s.floor with
            queue := t.floor.queue
            eventSeq := if g.state = .ready then s.floor.eventSeq else s.floor.eventSeq + 1#8
            register := ⟨.ready, ⟨[], r.value.toNat, 0xFFFF#16, true, true⟩, [], none⟩ })) ∧
    (s.Ready .take r →
      let k := r.value.toInt
      (g.state = .checking →
        exec (.take r) s = .next (s.afterRequest .take r fun t => t.answer .take r .busy 0)) ∧
      (g.state ≠ .checking → ¬(1 ≤ k ∧ k ≤ g.retained.records.length) →
        exec (.take r) s = .next (s.afterRequest .take r fun t => t.answer .take r .badArgument 0)) ∧
      (g.state ≠ .checking → 1 ≤ k → k ≤ g.retained.records.length → s.floor.NoneWaiting →
        ∃ t last, exec (.take r) s = .next t ∧ s.ServedOn t ∧ g.retained.records[k.toNat - 1]? = some last ∧
          t.floor = { s.floor with
            queue := t.floor.queue
            register := { g with
              retained := { g.retained with
                records := g.retained.records.drop k.toNat, baseCheck := last.check, valid := true } } }))

/-- R36, R37, R38, R39, R40, R100, R195, R196, R200, R202: SPOT of a unit that holds a batch, on a READY register with room,
writes one record of kind SPOT with the unit's votes, 0 where a vote gives no value, the officer's node, the next number and
its chain check, and adds its number to the batch, which keeps the six newest. Without a batch, or on a register that is not
READY, it is answered REFUSED; without room FULL; while the walk runs BUSY. A vote takes the members that are FRESH or HELD,
not CLAMPED and not SUSPECT: of three, the median where all pairs agree, the common member of two agreeing pairs, the mean of
one rounded down, or no value; of two that agree, their mean; of fewer, no value. -/
def Obligations.SpotWritesRecord : Prop :=
  (∀ (e : Env) (g : Nat),
    let members := ([0, 1, 2] : List Nat).map fun i => e.point (e.bank.field 3 g i)
    let values := (members.filter fun p => (p.quality == .fresh || p.quality == .held) && !p.clamped && !p.suspect).map
      Point.value
    let tol := max 0 (e.bank.field 3 g 3)
    let near := fun a b : Int => a - b ≤ tol ∧ b - a ≤ tol
    let mean := fun a b : Int => (a + b).fdiv 2
    (∀ a b c, values = [a, b, c] →
      (near a b → near a c → near b c → e.vote g = ⟨.agreed3, some (max (min a b) (min (max a b) c))⟩) ∧
      (near a b → near a c → ¬near b c → e.vote g = ⟨.agreed2, some a⟩) ∧
      (near a b → ¬near a c → near b c → e.vote g = ⟨.agreed2, some b⟩) ∧
      (¬near a b → near a c → near b c → e.vote g = ⟨.agreed2, some c⟩) ∧
      (near a b → ¬near a c → ¬near b c → e.vote g = ⟨.agreed2, some (mean a b)⟩) ∧
      (¬near a b → near a c → ¬near b c → e.vote g = ⟨.agreed2, some (mean a c)⟩) ∧
      (¬near a b → ¬near a c → near b c → e.vote g = ⟨.agreed2, some (mean b c)⟩) ∧
      (¬near a b → ¬near a c → ¬near b c → e.vote g = ⟨.disagree, none⟩)) ∧
    (∀ a b, values = [a, b] →
      (near a b → e.vote g = ⟨.agreed2, some (mean a b)⟩) ∧ (¬near a b → e.vote g = ⟨.disagree, none⟩)) ∧
    (values.length < 2 → e.vote g = ⟨.missing, none⟩)) ∧
  ∀ (r : Req) (s : State), s.Ready .spot r →
    let g := s.floor.register
    let answers := fun st : Status => exec (.spot r) s = .next (s.afterRequest .spot r fun t => t.answer .spot r st 0)
    (unitOf r.qual.toNat = none → answers .badArgument) ∧
    ∀ u, unitOf r.qual.toNat = some u →
      (g.state = .checking → answers .busy) ∧
      (g.state = .unset ∨ g.state = .faulted → answers .refused) ∧
      (g.state = .ready → (s.floor.ctx u).batch = none → answers .refused) ∧
      (∀ (b : Fin 20) (x : Batch), g.state = .ready → (s.floor.ctx u).batch = some x.id → s.floor.findBatch x.id = some b →
        s.floor.batches[b] = some x →
        (g.room 1 = false → answers .full) ∧
        (g.room 1 = true → s.floor.NoneWaiting →
          ∃ t, exec (.spot r) s = .next t ∧ s.ServedOn t ∧
            let votes := unitVotes s.env u
            ∃ rec : SampleRecord,
              t.floor = { s.floor with
                queue := t.floor.queue
                eventSeq := t.floor.eventSeq
                batches := s.floor.batches.set b (some { x with
                  samples := appendSample x.samples g.retained.next
                  unverified := x.unverified || !(VoteStatus.agreed votes.1.status && VoteStatus.agreed votes.2.status) })
                register := { g with
                  retained := { g.retained with
                    records := g.retained.records ++ [rec], next := g.retained.next + 1, valid := true } } } ∧
              rec.number = g.retained.next ∧ rec.kind = .spot ∧ rec.batch = x.id ∧ rec.unit = u.index ∧
              rec.officer = some r.source ∧ rec.voided = none ∧ rec.time = s.time ∧ rec.timeUnset = s.timeUnset ∧
              rec.massStatus = votes.1.status ∧ rec.moistureStatus = votes.2.status ∧ rec.mass = votes.1.value.getD 0 ∧
              rec.moisture = votes.2.value.getD 0 ∧ rec.estimate = none ∧ rec.peat = none ∧
              rec.check = recordCheck (chainSeed g.retained) rec))

/-- R205: HOLD_SET and HOLD_CLEAR set and clear the excise hold of the batch named, 0 naming every batch, and are answered OK with
the number of batches changed; an id that no batch has is answered BAD_ARGUMENT. -/
def Obligations.ExciseHoldSetAndCleared : Prop :=
  ∀ (fn : Function) (flag : Bool) (r : Req) (s : State), (fn = .holdSet ∧ flag = true) ∨ (fn = .holdClear ∧ flag = false) →
    s.Ready fn r →
    let id := r.value.toNat % 65536
    (id ≠ 0 → s.floor.findBatch id = none →
      exec (fn.command r) s = .next (s.afterRequest fn r fun t => t.answer fn r .badArgument 0)) ∧
    (id = 0 ∨ s.floor.findBatch id ≠ none →
      exec (fn.command r) s = .next (s.afterRequest fn r fun t : State =>
        ({ t with
          floor := { t.floor with
            batches := s.floor.batches.map fun o : Option Batch => o.map fun x : Batch =>
              if id = 0 ∨ x.id = id then { x with exciseHold := flag } else x } }).answer fn r .ok
          ((List.finRange 20).countP fun b =>
            match (s.floor.batches[b] : Option Batch) with
            | some x => (id == 0 || x.id == id) && x.exciseHold != flag
            | none => false)))

/-- R206, R208: the walk ends. Records that number 256 or fewer and form a sound chain, with the next number after the newest,
make the register READY; any others FAULTED, with a first failed position and ALERT#, and of more than 256 records the first
256 are kept (log entry 25). A register that does not check is not changed. -/
def Obligations.WalkEndsReadyOrFaulted : Prop :=
  ∀ s : State, s.Awake →
    let m := s.floor.register.retained
    (s.LinesFollow → s.floor.register.state ≠ .checking → exec .walkEnd s = .next s) ∧
    (s.floor.register.state = .checking → s.floor.NoneWaiting →
      (m.records.length ≤ 256 ∧ ChainSound m →
        ∃ t, exec .walkEnd s = .next t ∧ s.TookNow t ∧
          t.floor = { s.floor with
            queue := t.floor.queue
            eventSeq := t.floor.eventSeq
            register := { s.floor.register with state := .ready, firstFailed := none } }) ∧
      (¬(m.records.length ≤ 256 ∧ ChainSound m) →
        ∃ t i, exec .walkEnd s = .next t ∧ s.TookNow t ∧ i ≤ 256 ∧
          t.floor = { s.floor with
            queue := t.floor.queue
            eventSeq := t.floor.eventSeq
            register := { s.floor.register with
              state := .faulted
              retained := { m with records := m.records.take 256 }
              firstFailed := some i } } ∧
          t.pins.alertLow = true))

/-! ### Dosing channels -/

/-- R132, R133, R141, R142, R213: DOSE_START on a channel of a MANUAL or EMPTY vessel or kiln, of mode BLOCK or SINGLE, not open
but for SINGLE, opens a dose of the value asked, offers the valve's cell and answers OK with that value, where both its points
are FRESH or it is not masked and neither point is STALE or NONE; else it is masked and answers REFUSED. A value below 1 is
answered BAD_ARGUMENT; a channel of mode DEMAND, of a box or of no unit, or whose owner is neither MANUAL nor EMPTY REFUSED;
an open channel of mode BLOCK BUSY. UNMASK clears the mask of a channel whose points are both FRESH, and answers REFUSED where
they are not. -/
def Obligations.StationDosesAndUnmasks : Prop :=
  ∀ (r : Req) (s : State) (c : Fin 12), r.qual.toNat = c →
    let b := s.tables.active
    let x := s.floor.channels[c]
    (s.Ready .doseStart r →
      (r.value.toInt < 1 →
        exec (.doseStart r) s = .next (s.afterRequest .doseStart r fun t => t.answer .doseStart r .badArgument 0)) ∧
      (1 ≤ r.value.toInt →
        b.channelMode c = .demand ∨ b.channelOwner c = none ∨ (∃ n, b.channelOwner c = some (.box n)) ∨
          (∃ u, b.channelOwner c = some u ∧ (s.floor.ctx u).state ≠ .manual ∧ (s.floor.ctx u).state ≠ .empty) →
        exec (.doseStart r) s = .next (s.afterRequest .doseStart r fun t => t.answer .doseStart r .refused 0)) ∧
      (∀ u, 1 ≤ r.value.toInt → b.channelMode c = .block → b.channelOwner c = some u → (∀ n, u ≠ .box n) →
        (s.floor.ctx u).state = .manual ∨ (s.floor.ctx u).state = .empty → x.isOpen = true →
        exec (.doseStart r) s = .next (s.afterRequest .doseStart r fun t => t.answer .doseStart r .busy 0)) ∧
      (∀ u, 1 ≤ r.value.toInt → b.channelMode c ≠ .demand → b.channelOwner c = some u → (∀ n, u ≠ .box n) →
        (s.floor.ctx u).state = .manual ∨ (s.floor.ctx u).state = .empty → x.isOpen = false ∨ b.channelMode c = .single →
        let lost := fun i => (s.env.point i).quality = .stale ∨ (s.env.point i).quality = .none
        let masked := x.masked = true ∨ lost (b.meterPoint c) ∨ lost (b.feedbackPoint c)
        (pointsFresh s.env c = false → masked →
          exec (.doseStart r) s = .next (s.afterRequest .doseStart r fun t : State =>
            ({ t with
              floor := { t.floor with channels := s.floor.channels.set c { x with masked := true } } }).answer .doseStart r
                .refused 0)) ∧
        (∀ n f : Byte, pointsFresh s.env c = true ∨ ¬masked → b.channelActuator c = some (n, f) → x.valve ≠ .opened →
          exec (.doseStart r) s = .next (s.afterRequest .doseStart r fun t : State =>
            let o := t.floor.queue.offerCommand
              ⟨n, 2#8, f, BitVec.ofNat 8 (32 + c), Word.ofValue 1, 0#8, s.second⟩
            ({ t with
              floor := { t.floor with
                queue := o.1
                channels := s.floor.channels.set c { x with
                  state := .active
                  masked := false
                  base := r.value.toNat
                  current := r.value.toNat
                  overrun := 0
                  note := false
                  valve := .opened
                  valvePending := !o.2 } } }).answer .doseStart r .ok r.value.toInt))) ∧
      (∀ u, 1 ≤ r.value.toInt → b.channelMode c ≠ .demand → b.channelOwner c = some u → (∀ n, u ≠ .box n) →
        (s.floor.ctx u).state = .manual ∨ (s.floor.ctx u).state = .empty → x.isOpen = false ∨ b.channelMode c = .single →
        pointsFresh s.env c = true →
        ∃ t, exec (.doseStart r) s = .next t ∧ s.ServedOn t ∧
          t.floor = { s.floor with
            queue := t.floor.queue
            channels := s.floor.channels.set c { x with
              state := .active
              masked := false
              base := r.value.toNat
              current := r.value.toNat
              overrun := 0
              note := false
              valve := .opened
              valvePending := t.floor.channels[c].valvePending } })) ∧
    (s.Ready .unmask r →
      (x.masked = false →
        exec (.unmask r) s = .next (s.afterRequest .unmask r fun t => t.answer .unmask r .ok x.state.code)) ∧
      (x.masked = true → pointsFresh s.env c = true →
        exec (.unmask r) s = .next (s.afterRequest .unmask r fun t : State =>
          ({ t with
            floor := { t.floor with channels := s.floor.channels.set c { x with masked := false } } }).answer .unmask r
              .ok x.state.code)) ∧
      (x.masked = true → pointsFresh s.env c = false →
        exec (.unmask r) s = .next (s.afterRequest .unmask r fun t => t.answer .unmask r .refused x.state.code)))

/-- R143, R123: DOSE_CLEAR brings every channel to rest: IDLE, its counts 0, its TC clear, masked, its valve closed if it was
open. A RUNNING vessel that was filling from an open channel of its own is HELD(DOSE); it finds the channel no longer open
(log entry 11). Batches and records do not change. -/
def Obligations.DoseClearBringsChannelsToRest : Prop :=
  ∀ (r : Req) (s : State), s.Ready .doseClear r →
    ∃ t, exec (.doseClear r) s = .next t ∧ s.ServedOn t ∧ t.floor.batches = s.floor.batches ∧
      t.floor.register = s.floor.register ∧
      (∀ c : Fin 12,
        let x := t.floor.channels[c];
        x.state = .idle ∧ x.base = 0 ∧ x.current = 0 ∧ x.tc = false ∧ x.masked = true ∧
          (s.floor.channels[c].isOpen = true → x.valve = .closed)) ∧
      (∀ (c : Fin 12) (v : Fin 6), s.floor.channels[c].isOpen = true → reportedOwner s.env c = some (.vessel v) →
        s.floor.vessels[v].ctx.state = .running → s.floor.vessels[v].fill = .filling →
        t.floor.vessels[v].ctx = s.floor.vessels[v].ctx.heldFor .dose)

/-- R139, R116, R118, R186: the terminal count of an open channel whose current count is 0 closes the valve, sets TC, and leaves
the channel IDLE with the current count at the base where AUTO_REINIT is set, or else DONE. A peat channel's kiln has its peat
COMPLETE and adds what was delivered; a vessel that fills ends its FILL step, and keeps its program position with its copies
where it is DONE then (the model's choice, log entry 45); the owner finds the channel no longer open (log entry 11). A channel
that is not open, or whose count is not 0, has no terminal count. -/
def Obligations.TerminalCountEndsTheDose : Prop :=
  ∀ (s : State) (c : Fin 12), s.inReset = false →
    let ch := s.floor.channels[c]
    let rest := fun t : State =>
      let x := t.floor.channels[c];
      x.tc = true ∧ x.valve = .closed ∧ x.base = ch.base ∧ x.overrun = ch.overrun ∧
        (s.tables.active.autoReinit c = true → x.state = .idle ∧ x.current = ch.base) ∧
        (s.tables.active.autoReinit c = false → x.state = .done ∧ x.current = 0)
    (s.LinesFollow → ¬(ch.isOpen = true ∧ ch.current = 0) → exec (.terminalCount c) s = .next s) ∧
    (ch.isOpen = true → ch.current = 0 →
      ∃ t, exec (.terminalCount c) s = .next t ∧ s.TookNow t ∧ t.floor.batches = s.floor.batches ∧
        t.floor.register = s.floor.register ∧
        ((∀ v, reportedOwner s.env c ≠ some (.vessel v)) → rest t ∧ ∀ u, t.floor.ctx u = s.floor.ctx u) ∧
        (∀ k, reportedOwner s.env c = some (.kiln k) → s.floor.kilns[k].peat = .filling →
          t.floor.kilns[k] = { s.floor.kilns[k] with
            peat := .complete
            peatDelivered := s.floor.kilns[k].peatDelivered + (ch.base + ch.overrun) }) ∧
        (∀ v, reportedOwner s.env c = some (.vessel v) → s.floor.vessels[v].ctx.state = .running →
          stepKind s.floor.vessels[v].ctx.fields = .fill → s.floor.vessels[v].fill = .filling →
          let x := s.floor.vessels[v].ctx
          (boundary s.tables.active (.vessel v) x = .ended →
            rest t ∧ t.floor.vessels[v].ctx = { x with state := .done, reason := none, resume := none, noted := none }) ∧
          (∀ p, boundary s.tables.active (.vessel v) x = .next p → stepKind p.fields ≠ .fill →
            rest t ∧ t.floor.vessels[v].ctx = { x with pos := some p } ∧ t.floor.vessels[v].timer = 0) ∧
          (∀ i, boundary s.tables.active (.vessel v) x = .gone i →
            rest t ∧ t.floor.vessels[v].ctx = { x.heldFor .programGone with noted := some i })))

/-! ### Time -/

/-- R32, R115, R155, R156, R184, R189, R215: a second of the time base. Both clocks advance and every point that is not NONE ages.
In operating mode a RUNNING vessel's step timer advances while its water temperature can be used, a RUNNING box's day clock
advances and its turn clock too unless it holds the grant, and a RUNNING kiln's phase timer advances; a kiln RUNNING or HELD
trips where Ton is lost or above the trip temperature of its copied program entry. In TRANSPARENT mode the units stand still.
That the step timers and the tests on Ton read the qualities as they stood before this second's ageing takes effect is read
from the spec by inference (log entry 32), as is where the timers and clocks stop (log entry 29). -/
def Obligations.SecondAdvancesClocks : Prop :=
  ∀ s : State, s.Awake →
    ∃ t, exec .timeBaseSecond s = .next t ∧ t.LinesFollow ∧
      t = { s with
        second := s.second + 1
        time := s.time + 1#32
        points := t.points
        due := t.due
        floor := t.floor
        pins := t.pins } ∧
      (∀ p : Fin 192, t.points[p] =
        if s.points[p].quality = .none then s.points[p]
        else { s.points[p] with age := min 65535 (s.points[p].age + 1) }) ∧
      t.floor.batches = s.floor.batches ∧ t.floor.register = s.floor.register ∧
      (s.tables.present = false → t.floor = s.floor) ∧
      (s.tables.present = true →
        (∀ v : Fin 6,
          let x := s.floor.vessels[v];
          t.floor.vessels[v] =
            if x.ctx.state ≠ .running then x
            else if (s.env.water v).usable = true then { x with timer := min 604800 (x.timer + 1), note := false }
            else { x with note := true }) ∧
        (∀ b : Fin 12,
          let x := s.floor.boxes[b];
          t.floor.boxes[b] =
            if x.ctx.state ≠ .running then x
            else { x with
              dayClock := min 604800 (x.dayClock + 1)
              turnClock :=
                if s.floor.arbiter.grant = some b then x.turnClock else min 16777215 (x.turnClock + 1) }) ∧
        (∀ k : Fin 2,
          let x := s.floor.kilns[k];
          let ton := s.env.ton k
          let high := x.ctx.pos.isSome = true ∧ entryTripTemp x.ctx.entry < ton.value
          (x.ctx.state = .running ∨ x.ctx.state = .held → ton.usable = false →
            t.floor.kilns[k].ctx.state = .tripped ∧
              t.floor.kilns[k].trip = some ⟨.tonLost, x.ctx.item, s.time + 1#32, s.timeUnset, 0⟩) ∧
          (x.ctx.state = .running ∨ x.ctx.state = .held → ton.usable = true → high →
            t.floor.kilns[k].ctx.state = .tripped ∧
              t.floor.kilns[k].trip = some ⟨.tonHigh, x.ctx.item, s.time + 1#32, s.timeUnset, ton.value⟩) ∧
          (x.ctx.state = .running → ton.usable = true → ¬high →
            t.floor.kilns[k] = { x with timer := min 604800 (x.timer + 1), flame := t.floor.kilns[k].flame }) ∧
          (x.ctx.state ≠ .running → x.ctx.state ≠ .held →
            t.floor.kilns[k] = { x with flame := t.floor.kilns[k].flame })))

/-- R21, R32, R42, R45, R104, R108, R117, R119, R122, R128, R132, R152, R153, R155, R157, R160, R161, R162, R163, R164, R168,
R177, R184, R189, R193: what falls due at a second of the time base, by the state that the second leaves. That such steps
stand in a list from which commands take them, and that each falls due at its time or at any later second, is the model's
choice (log entry 2). A valve is offered again at a second later than the one that refused it. A waiting turner command falls
due only while entry 20 is in service (log entry 13). An output or a fan that is pending has its re-offer due also where it
has no actuator (log entry 47) or its unit is out of service (log entry 56): the model's choices. In TRANSPARENT mode only
the test of the insertion queue falls due. -/
def Obligations.SecondMakesStepsDue : Prop :=
  ∀ s : State, s.Awake →
    ∃ t, exec .timeBaseSecond s = .next t ∧
      (s.tables.present = false → ∀ i ∈ t.due, i = .congested) ∧
      (.congested ∈ t.due ↔ t.floor.queue.hasOld t.second ≠ t.floor.queue.congested) ∧
      (s.tables.present = true →
        let b := s.tables.active
        (∀ p : Fin 192,
          let x := t.points[p];
          let past := fun n : Nat => n < x.age
          (.qualityStale p ∈ t.due ↔
            (x.quality = .fresh ∨ x.quality = .held) ∧ past (b.staleTime p + b.holdTime p)) ∧
          (.qualityHeld p ∈ t.due ↔
            x.quality = .fresh ∧ past (b.staleTime p) ∧ ¬past (b.staleTime p + b.holdTime p))) ∧
        (∀ i : Fin 4, .pollDeadline i ∈ t.due ↔ ∃ q, t.polls[i] = some q ∧ q.made + 2 ≤ t.second) ∧
        (∀ n : Fin 20,
          (.voteWaitExpiry n ∈ t.due ↔
            ∃ x tr began, t.floor.batches[n] = some x ∧ x.transfer = some tr ∧ tr.phase = .pendingSample ∧
              tr.voteWait = some began ∧ tr.waitExpired = false ∧ began + b.unsigned 0 0 14 ≤ t.second) ∧
          (.transferOverdue n ∈ t.due ↔
            ∃ x tr, t.floor.batches[n] = some x ∧ x.transfer = some tr ∧ tr.overdue = false ∧
              b.unsigned 0 0 13 ≠ 0 ∧ tr.startSecond + b.unsigned 0 0 13 * 60 ≤ t.second)) ∧
        (let a := t.floor.arbiter;
          let out := ∃ ending, a.timer = some ending ∧ ending ≤ t.second;
          (.prepTimeout ∈ t.due ↔ out ∧ a.state = .preparing) ∧ (.startTimeout ∈ t.due ↔ out ∧ a.state = .dispatched) ∧
            (.turnOverrun ∈ t.due ↔ out ∧ a.state = .turning) ∧ (.sprayTrailExpiry ∈ t.due ↔ out ∧ a.state = .releasing) ∧
            (.parkDelayExpiry ∈ t.due ↔ a.state = .idle ∧ ∃ ending, a.parkTimer = some ending ∧ ending ≤ t.second) ∧
            (.pendingReoffer .turner ∈ t.due ↔ b.inService 20 = true ∧ a.waiting ≠ [])) ∧
        (∀ i : Fin 4, .pendingReoffer (.poll i) ∈ t.due ↔ ∃ q, t.polls[i] = some q ∧ q.offered = false) ∧
        (∀ c : Fin 12, b.unitChannel (.kiln 0) ≠ some c ∨ b.unitChannel (.kiln 1) ≠ some c →
          (.pendingReoffer (.valve c) ∈ t.due ↔
            s.floor.channels[c].valvePending = true ∧ t.floor.channels[c].valvePending = true)) ∧
        (∀ (u : Fin 20) (v : Fin 6), (u : Nat) = v →
          let x := t.floor.vessels[v];
          (.pendingReoffer (.unit u) ∈ t.due ↔
            x.origin < t.second ∧ (t.second - x.origin) % b.evalSeconds = 0 ∧
              x.ctx.state ∉ [UnitState.running, .held, .done, .discharging] ∧ ∃ o : Fin 5, x.outs[o].pending = true)) ∧
        (∀ (u : Fin 20) (n : Fin 12), (u : Nat) = 6 + n →
          let x := t.floor.boxes[n];
          (.pendingReoffer (.unit u) ∈ t.due ↔
            x.origin < t.second ∧ (t.second - x.origin) % b.evalSeconds = 0 ∧
              x.ctx.state ∉ [UnitState.running, .held, .done, .discharging] ∧ x.fanPending = true)) ∧
        (∀ (u : Fin 20) (k : Fin 2), (u : Nat) = 18 + k →
          let x := t.floor.kilns[k];
          (.pendingReoffer (.unit u) ∈ t.due ↔
            x.origin < t.second ∧ (t.second - x.origin) % b.evalSeconds = 0 ∧ x.ctx.state = .discharging ∧
              (x.burner.pending = true ∨ x.fan.pending = true))) ∧
        (∀ v : Fin 6,
          let x := t.floor.vessels[v];
          (.stepMaximum v ∈ t.due ↔ x.ctx.state = .running ∧ stepMaxTime x.ctx.fields ≤ x.timer) ∧
          (.vesselEvaluation v ∈ t.due ↔
            x.origin < t.second ∧ (t.second - x.origin) % b.evalSeconds = 0 ∧
              x.ctx.state ∈ [UnitState.running, .held, .done, .discharging])) ∧
        (∀ n : Fin 12,
          let x := t.floor.boxes[n];
          (.dayEnded n ∈ t.due ↔ x.ctx.state = .running ∧ dayLength x.ctx.fields * 60 ≤ x.dayClock) ∧
          (.turnIntervalReached n ∈ t.due ↔
            x.ctx.state = .running ∧ 0 < dayInterval x.ctx.fields ∧ dayInterval x.ctx.fields * 60 ≤ x.turnClock ∧
              t.floor.arbiter.hasRequest n = false) ∧
          (.boxEvaluation n ∈ t.due ↔
            x.origin < t.second ∧ (t.second - x.origin) % b.evalSeconds = 0 ∧
              x.ctx.state ∈ [UnitState.running, .held, .done, .discharging])) ∧
        (∀ k : Fin 2,
          let x := t.floor.kilns[k];
          (.phaseMaximum k ∈ t.due ↔ x.ctx.state = .running ∧ phaseMaxTime x.ctx.fields ≤ x.timer) ∧
          (.flameLost k ∈ t.due ↔
            (x.ctx.state = .running ∨ x.ctx.state = .held) ∧ entryFlameGrace x.ctx.entry ≤ x.flame) ∧
          (.kilnEvaluation k ∈ t.due ↔
            x.origin < t.second ∧ (t.second - x.origin) % b.evalSeconds = 0 ∧
              x.ctx.state ∈ [UnitState.running, .held, .tripped, .done])))

/-! ### Points and polls -/

/-- R32, R34, R140, R154, R165, R189: a point that is due to become HELD becomes HELD and nothing else changes. One that is due to
become STALE becomes STALE: a kiln RUNNING or HELD on it trips, a RUNNING box whose bed it is is HELD(POINT), and an open
channel that meters or proves by it is STOPPED with its valve CLOSED, and masked, unless the point is also a Ton or bed point,
whose notice the model gives first (log entry 10). Its value, flags and age stay. Where it is the position or the status of
the turner and a box holds the grant, that is a turner fault: the grant is withdrawn with the request, the spray is stopped,
the fault is counted, and the third leaves the arbiter DISABLED. -/
def Obligations.PointsAgeToHeldAndStale : Prop :=
  ∀ (s : State) (p : Fin 192), s.inReset = false →
    let b := s.tables.active
    let x := s.points[p]
    (s.LinesFollow → .qualityHeld p ∈ s.due → x.quality = .fresh → b.staleTime p < x.age →
      x.age ≤ b.staleTime p + b.holdTime p →
      exec (.qualityHeld p) s = .next { s with
        due := s.due.erase (.qualityHeld p), points := s.points.set p { x with quality := .held } }) ∧
    (.qualityStale p ∈ s.due → x.quality = .fresh ∨ x.quality = .held → b.staleTime p + b.holdTime p < x.age →
      ∃ t, exec (.qualityStale p) s = .next t ∧ t.LinesFollow ∧
        t = { s with
          due := s.due.erase (.qualityStale p)
          points := s.points.set p { x with quality := .stale }
          floor := t.floor
          pins := t.pins } ∧
        (∀ k : Fin 2, b.kilnBinding k 1 = (p : Nat) →
          s.floor.kilns[k].ctx.state = .running ∨ s.floor.kilns[k].ctx.state = .held →
          t.floor.kilns[k].ctx.state = .tripped ∧ ∃ y, t.floor.kilns[k].trip = some y ∧ y.cause = .tonLost) ∧
        (∀ n : Fin 12, b.boxBinding n 1 = (p : Nat) → s.floor.boxes[n].ctx.state = .running →
          t.floor.boxes[n].ctx = s.floor.boxes[n].ctx.heldFor .point) ∧
        (let alone := (∀ k : Fin 2, b.kilnBinding k 1 ≠ (p : Nat)) ∧ ∀ n : Fin 12, b.boxBinding n 1 ≠ (p : Nat);
          (∀ c : Fin 12, b.meterPoint c = (p : Nat) ∨ b.feedbackPoint c = (p : Nat) → s.floor.channels[c].isOpen = true →
            t.floor.channels[c].state = .stopped ∧ t.floor.channels[c].valve = .closed ∧
              t.floor.channels[c].base = s.floor.channels[c].base ∧
              t.floor.channels[c].current = s.floor.channels[c].current ∧
              (alone → t.floor.channels[c].masked = true)) ∧
          (∀ n, b.inService 20 = true → b.binding 20 6 = (p : Nat) ∨ b.binding 20 7 = (p : Nat) →
            s.floor.arbiter.grant = some n → alone →
            (∀ c : Fin 12, b.meterPoint c ≠ (p : Nat) ∧ b.feedbackPoint c ≠ (p : Nat)) →
            t.floor.arbiter.grant = none ∧ t.floor.arbiter.hasRequest n = false ∧
              t.floor.arbiter.faults = s.floor.arbiter.faults + 1 ∧ t.SprayShut n ∧
              t.floor.boxes[n].turnClock = s.floor.boxes[n].turnClock ∧
              (2 ≤ s.floor.arbiter.faults → t.floor.arbiter.state = .disabled ∧ t.pins.alertLow = true) ∧
              (s.floor.arbiter.faults < 2 → t.floor.arbiter.state = .idle))))

/-- R44, R45, R213: a poll list entry whose point is FRESH, or whose deadline has come, answers each of its requesters with the
point's value, quality and flags, and is freed; nothing else changes. -/
def Obligations.PollsAreAnswered : Prop :=
  ∀ (s : State) (i : Fin 4) (q : Poll), s.inReset = false → s.LinesFollow → s.polls[i] = some q →
    let x := s.points[q.point]
    let quality := match x.quality with | .none => 0 | .fresh => 1 | .held => 2 | .stale => 3
    let detail := 128 + quality + (if x.clamped then 4 else 0) + if x.suspect then 8 else 0
    let answered : State :=
      { s with
        polls := s.polls.set i none
        floor := { s.floor with
          queue := q.requesters.foldl
            (fun u n => u.offerReply ⟨n.1, 6#8, 48#8, n.2, Word.ofValue x.value, BitVec.ofNat 8 detail, s.second⟩)
            s.floor.queue } }
    (x.quality = .fresh → pollFor s q.point = some i → exec (.pollAnswered q.point) s = .next answered) ∧
    (.pollDeadline i ∈ s.due → q.made + 2 ≤ s.second →
      exec (.pollDeadline i) s = .next { answered with due := s.due.erase (.pollDeadline i) })

/-! ### The insertion queue -/

/-- R17, R18, R19, R21, R222: the bounds of the queue's classes and the one cell for each key hold after every step, and after
every offer and every insertion. An offer of a key that is queued merges; a reply or an event without room is dropped. An
event that is raised in operating mode adds 1 to the sequence count and offers an EVENT cell to EVENT_NODE with its code as
function, the count as tag, its parameter as value and its index as qualifier, 128 added where the lost flag is set; in
TRANSPARENT mode none is raised. -/
def Obligations.QueueKeepsItsBounds : Prop :=
  (∀ s t : State, step s = .next t → s.floor.queue.Bounded → s.floor.queue.KeysDistinct →
    t.floor.queue.Bounded ∧ t.floor.queue.KeysDistinct) ∧
  (∀ (e : Env) (code index : Nat) (v : Int) (f : Floor),
    let cell : QCell :=
      ⟨BitVec.ofInt 8 (e.bank.field 0 0 5), 7#8, BitVec.ofNat 8 code, f.eventSeq + 1#8, Word.ofValue v,
        BitVec.ofNat 8 index, e.second⟩
    let kept := { cell with qual := if f.queue.lost = true then cell.qual + 128#8 else cell.qual }
    (e.operating = false → raiseEvent e code index v f = f) ∧
    (e.operating = true → f.queue.event.length < 8 ∧ f.queue.shared < 28 →
      raiseEvent e code index v f =
        { f with eventSeq := f.eventSeq + 1#8, queue := { f.queue with event := f.queue.event ++ [kept], lost := false } }) ∧
    (e.operating = true → ¬(f.queue.event.length < 8 ∧ f.queue.shared < 28) →
      raiseEvent e code index v f = { f with eventSeq := f.eventSeq + 1#8, queue := { f.queue with lost := true } })) ∧
  ∀ (q : Queue) (c : QCell), q.Bounded → q.KeysDistinct →
    (q.offerCommand c).1.Bounded ∧ (q.offerCommand c).1.KeysDistinct ∧ (q.offerTrip c).Bounded ∧
      (q.offerTrip c).KeysDistinct ∧ (q.offerReply c).Bounded ∧ (q.offerReply c).KeysDistinct ∧ (q.offerEvent c).Bounded ∧
      (q.offerEvent c).KeysDistinct ∧ (∀ d r, q.pop = some (d, r) → r.Bounded ∧ r.KeysDistinct) ∧
      ((∃ d ∈ q.trip ++ q.command, d.sameKey c = true) →
        (q.offerCommand c).2 = true ∧ (q.offerCommand c).1.depth = q.depth) ∧
      (q.reply.length = 8 ∨ q.shared = 28 → q.offerReply c = q) ∧
      (q.event.length = 8 ∨ q.shared = 28 → q.offerEvent c = { q with lost := true })

/-- R21, R42, R122, R132, R153, R164: a refused offer is made again: the cell of a valve, of a poll list entry, of a waiting
turner command or of a box's fan, by the decision as it stands; it stays pending while the queue refuses it. That a poll's cell
is made by the Channel Map entry of the bank active at the re-offer, and that a box's fan is offered also where its unit is out
of service, are the model's choices (log entries 41 and 56). The offers of a unit change none of its decisions. The CONGESTED
condition follows the age of the queued cells and drives ALERT#. -/
def Obligations.RefusedOffersAreMadeAgain : Prop :=
  ∀ s : State, s.inReset = false →
    let b := s.tables.active
    let cell := fun (n f : Byte) (tag : Nat) (v : Int) =>
      s.floor.queue.offerCommand ⟨n, 2#8, f, BitVec.ofNat 8 tag, Word.ofValue v, 0#8, s.second⟩
    (s.LinesFollow →
      (∀ (c : Fin 12) (n f : Byte), .pendingReoffer (.valve c) ∈ s.due → s.floor.channels[c].valvePending = true →
        b.channelActuator c = some (n, f) →
        let o := cell n f (32 + c) (if s.floor.channels[c].valve = .opened then 1 else 0)
        exec (.pendingReoffer (.valve c)) s = .next { s with
          due := s.due.erase (.pendingReoffer (.valve c))
          floor := { s.floor with
            queue := o.1
            channels := s.floor.channels.set c { s.floor.channels[c] with valvePending := !o.2 } } }) ∧
      (∀ (i : Fin 4) (q : Poll) (m : Nat), .pendingReoffer (.poll i) ∈ s.due → s.polls[i] = some q → q.offered = false →
        b.mapOfPoint q.point = some m →
        let o := s.floor.queue.offerCommand
          ⟨mapByte (b.field 1 m 1), 3#8, mapByte (b.field 1 m 2), BitVec.ofNat 8 i, 0#32, 0#8, s.second⟩
        exec (.pendingReoffer (.poll i)) s = .next { s with
          due := s.due.erase (.pendingReoffer (.poll i))
          polls := s.polls.set i (some { q with offered := o.2 })
          floor := { s.floor with queue := o.1 } }) ∧
      (∀ w : TurnerCommand, .pendingReoffer .turner ∈ s.due → b.inService 20 = true → s.floor.arbiter.waiting = [w] →
        let o := s.floor.queue.offerCommand (turnerCell s.env w)
        exec (.pendingReoffer .turner) s = .next { s with
          due := s.due.erase (.pendingReoffer .turner)
          floor := { s.floor with
            queue := o.1
            arbiter := { s.floor.arbiter with waiting := if o.2 = true then [] else [w] } } }) ∧
      (∀ (n : Fin 12) (u : Fin 20) (a f : Byte) (v : Int), .pendingReoffer (.unit u) ∈ s.due → (u : Nat) = 6 + n →
        s.floor.boxes[n].fanPending = true → s.floor.boxes[n].ctx.heldRestart = false →
        actuatorRef (b.boxBinding n 2) = some (a, f) → s.floor.boxes[n].fan = some v →
        let o := cell a f (6 + n) v
        exec (.pendingReoffer (.unit u)) s = .next { s with
          due := s.due.erase (.pendingReoffer (.unit u))
          floor := { s.floor with
            queue := o.1
            boxes := s.floor.boxes.set n { s.floor.boxes[n] with fanPending := !o.2 } } })) ∧
    (∀ u : Fin 20, .pendingReoffer (.unit u) ∈ s.due →
      ∃ t, exec (.pendingReoffer (.unit u)) s = .next t ∧ s.TookDue t (.pendingReoffer (.unit u)) ∧
        t.floor = { s.floor with
          queue := t.floor.queue, vessels := t.floor.vessels, boxes := t.floor.boxes, kilns := t.floor.kilns } ∧
        (∀ x, t.floor.ctx x = s.floor.ctx x) ∧
        (∀ (v : Fin 6) (o : Fin 5), t.floor.vessels[v].outs[o].decision = s.floor.vessels[v].outs[o].decision) ∧
        (∀ n : Fin 12, t.floor.boxes[n].fan = s.floor.boxes[n].fan) ∧
        (∀ k : Fin 2, t.floor.kilns[k].burner.value = s.floor.kilns[k].burner.value ∧
          t.floor.kilns[k].fan.value = s.floor.kilns[k].fan.value)) ∧
    (.congested ∈ s.due →
      ∃ t, exec .congested s = .next t ∧ s.TookDue t .congested ∧
        t.floor = { s.floor with queue := { s.floor.queue with congested := s.floor.queue.hasOld s.second } } ∧
        (s.floor.queue.hasOld s.second = true → t.pins.alertLow = true))

/-! ### Steep vessels and germination boxes -/

/-- R85, R86, R116, R117, R118, R119, R120, R121, R122: an evaluation of a vessel that is due decides each output by the row of
R119. In RUNNING and HELD, by the copied step: chiller and heater by R120 in FILL and WET and else OFF, the fan by R121 in
AIR_REST and else OFF, the blower by the step's aeration, the drain OPEN in a DRAIN step of a RUNNING vessel and else CLOSED.
In DONE and DISCHARGING the fan by the end CO2 setting (OFF where there is none: log entry 15) and all else OFF and CLOSED. A
HELD vessel without a copied step closes its drain, and that its other outputs are OFF is the model's choice (log entry 39).
Where a RUNNING vessel's exit condition holds, or its step timer has reached the maximum, the step ends by the boundary of
R85: the vessel enters the next step, is DONE, or is HELD(PROGRAM_GONE), where an evaluation decides by the row of HELD. The
exit conditions are those of DRAIN and of WET in R116. That a unit which is DONE keeps its program position is the model's
choice (log entry 45). -/
def Obligations.VesselEvaluatesAndEndsSteps : Prop :=
  ∀ (s : State) (v : Fin 6), s.inReset = false →
    let x := s.floor.vessels[v]
    let leaves := fun t : State =>
      (boundary s.tables.active (.vessel v) x.ctx = .ended →
        t.floor.vessels[v].ctx = { x.ctx with state := .done, reason := none, resume := none, noted := none } ∧
          t.floor.vessels[v].endCo2 = some (stepCo2Limit x.ctx.fields, stepCo2Hysteresis x.ctx.fields)) ∧
      (∀ p, boundary s.tables.active (.vessel v) x.ctx = .next p → stepKind p.fields ≠ .fill →
        t.floor.vessels[v].ctx = { x.ctx with pos := some p } ∧ t.floor.vessels[v].timer = 0) ∧
      (∀ i, boundary s.tables.active (.vessel v) x.ctx = .gone i →
        t.floor.vessels[v].ctx = { x.ctx.heldFor .programGone with noted := some i })
    let stepRow := fun (st : UnitState) (t : State) => ∀ p, x.ctx.pos = some p →
      let l := p.fields
      let d := fun o : Fin 5 => t.floor.vessels[v].outs[o].decision
      let wet := stepKind l = .fill ∨ stepKind l = .wet
      (wet → d 0 = chillerDecision (s.env.water v) l x.outs[0].decision ∧
        d 1 = heaterDecision (s.env.water v) l x.outs[1].decision) ∧
      (¬wet → d 0 = .off ∧ d 1 = .off) ∧
      (stepKind l = .airRest →
        d 2 = extractionDecision (s.env.co2 v) (stepCo2Limit l) (stepCo2Hysteresis l) x.outs[2].decision) ∧
      (stepKind l ≠ .airRest → d 2 = .off) ∧ d 3 = (if stepAeration l = true then .on else .off) ∧
      d 4 = (if stepKind l = .drain ∧ st = .running then .on else .off)
    let decides := fun (p : State → Prop) =>
      ∃ t, exec (.vesselEvaluation v) s = .next t ∧ s.TookDue t (.vesselEvaluation v) ∧
        t.floor = { s.floor with queue := t.floor.queue, vessels := t.floor.vessels } ∧
        (∀ w : Fin 6, w ≠ v → t.floor.vessels[w] = s.floor.vessels[w]) ∧
        t.floor.vessels[v] = { x with outs := t.floor.vessels[v].outs } ∧ p t
    (∀ (b : Bank) (u : PlantUnit) (c : Ctx) (p : Position), c.pos = some p →
      (copied p.entry 0 ≤ p.item + 1 → boundary b u c = .ended) ∧
      ((p.item + 1 : Int) < copied p.entry 0 →
        ((p.item + 1 : Int) < b.programLength u p.program →
          boundary b u c = .next (b.position u p.program (p.item + 1))) ∧
        (b.programLength u p.program ≤ (p.item + 1 : Int) → boundary b u c = .gone (p.item + 1)))) ∧
    (stepExitMet s.env v x = true ↔
      (stepKind x.ctx.fields = .drain ∧ stepMinTime x.ctx.fields ≤ x.timer ∧ (s.env.level v).usable = true ∧
        (s.env.level v).value ≤ stepDrainLevel x.ctx.fields) ∨
      (stepKind x.ctx.fields = .wet ∧ stepMinTime x.ctx.fields ≤ x.timer ∧ 0 < stepMoistureTarget x.ctx.fields ∧
        ∃ m, (s.env.vote (s.tables.active.unitGroups (.vessel v)).2).value = some m ∧
          stepMoistureTarget x.ctx.fields ≤ m)) ∧
    (.vesselEvaluation v ∈ s.due → x.ctx.state = .held → decides fun t =>
      stepRow .held t ∧ (x.ctx.pos = none → ∀ o : Fin 5, t.floor.vessels[v].outs[o].decision = .off)) ∧
    (.vesselEvaluation v ∈ s.due → x.ctx.state = .running → stepExitMet s.env v x = false → decides (stepRow .running)) ∧
    (.vesselEvaluation v ∈ s.due → x.ctx.state = .done ∨ x.ctx.state = .discharging → decides fun t =>
      let d := fun o : Fin 5 => t.floor.vessels[v].outs[o].decision
      d 0 = .off ∧ d 1 = .off ∧ d 3 = .off ∧ d 4 = .off ∧ (x.endCo2 = none → d 2 = .off) ∧
        ∀ limit hysteresis, x.endCo2 = some (limit, hysteresis) →
          d 2 = extractionDecision (s.env.co2 v) limit hysteresis x.outs[2].decision) ∧
    (.vesselEvaluation v ∈ s.due → x.ctx.state = .running → stepExitMet s.env v x = true →
      ∃ t, exec (.vesselEvaluation v) s = .next t ∧ s.TookDue t (.vesselEvaluation v) ∧
        s.floor.OnlyUnit (.vessel v) t.floor ∧ leaves t ∧
        ∀ i, boundary s.tables.active (.vessel v) x.ctx = .gone i → stepRow .held t) ∧
    (.stepMaximum v ∈ s.due → x.ctx.state = .running → stepMaxTime x.ctx.fields ≤ x.timer →
      ∃ t, exec (.stepMaximum v) s = .next t ∧ s.TookDue t (.stepMaximum v) ∧
        s.floor.OnlyUnit (.vessel v) t.floor ∧ leaves t)

/-- R120, R121: the decisions on cooling, heating and extraction. With the water temperature STALE or NONE chiller and heater are
OFF; else the chiller is ON above target plus band and OFF at the target or below, the heater ON below target less band and
OFF at the target or above, and between these the decision is kept, NONE being OFF; the two are never both ON. With the CO2
point STALE or NONE and a limit above 0 the fan is ON; else it is ON above the limit and OFF at limit less hysteresis or
below. -/
def Obligations.SteepDecisionsKeepTheirBands : Prop :=
  ∀ (w : Point) (l : List Int) (limit hysteresis : Int) (now : Decision),
    let target := copied l 3
    let band := max 0 (copied l 4)
    let kept := if now = .on then Decision.on else .off
    (w.usable = false → chillerDecision w l now = .off ∧ heaterDecision w l now = .off) ∧
    (w.usable = true →
      chillerDecision w l now =
          (if target + band < w.value then .on else if w.value ≤ target then .off else kept) ∧
        heaterDecision w l now =
          (if w.value < target - band then .on else if target ≤ w.value then .off else kept)) ∧
    (0 < limit → w.usable = false → extractionDecision w limit hysteresis now = .on) ∧
    (0 < limit → w.usable = true →
      extractionDecision w limit hysteresis now =
        (if limit < w.value then .on else if w.value ≤ limit - hysteresis then .off else kept)) ∧
    ∀ before : Decision, ¬(chillerDecision w l now = .on ∧ heaterDecision w l before = .on)

/-- R152, R153, R154, R155, R157: an evaluation of a box that is due. RUNNING with a bed reading and no urgent turn to ask for, it
decides its fan by the formula, kept to the turn-air maximum while it holds the grant; without one ever taken it is
HELD(POINT). HELD, DONE or DISCHARGING it decides by the formula, or the maximum air without a reading. At the end of a day it
enters the next day with its day clock at 0, is DONE, where it keeps its program position (the model's choice, log entry 45),
or is HELD(PROGRAM_GONE). -/
def Obligations.BoxEvaluatesAndEndsDays : Prop :=
  ∀ (s : State) (n : Fin 12), s.inReset = false →
    let x := s.floor.boxes[n]
    let bed := s.env.bed n
    let day := x.ctx.fields
    let air := clamp (dayMinAir day) (dayMaxAir day) (dayMinAir day + (dayGain day * (bed.value - dayTarget day)).fdiv 10)
    let evaluates := fun fan : Int =>
      ∃ t, exec (.boxEvaluation n) s = .next t ∧ s.TookDue t (.boxEvaluation n) ∧
        t.floor = { s.floor with queue := t.floor.queue, boxes := t.floor.boxes } ∧
        (∀ w : Fin 12, w ≠ n → t.floor.boxes[w] = s.floor.boxes[w]) ∧
        t.floor.boxes[n] = { x with fan := some fan, fanPending := t.floor.boxes[n].fanPending }
    (.boxEvaluation n ∈ s.due → x.ctx.pos.isSome = true →
      (x.ctx.state = .running → bed.usable = true → urgentCondition s.env n x = false →
        evaluates (if s.floor.arbiter.grant = some n then min air (entryTurnAirMax x.ctx.entry) else air)) ∧
      (x.ctx.state ∈ [UnitState.held, .done, .discharging] →
        evaluates (if bed.usable = true then air else dayMaxAir day)) ∧
      (x.ctx.state = .running → bed.quality = .none →
        ∃ t, exec (.boxEvaluation n) s = .next t ∧ s.TookDue t (.boxEvaluation n) ∧ s.floor.OnlyUnit (.box n) t.floor ∧
          t.floor.boxes[n].ctx = x.ctx.heldFor .point)) ∧
    (.dayEnded n ∈ s.due → x.ctx.state = .running → dayLength day * 60 ≤ x.dayClock →
      ∃ t, exec (.dayEnded n) s = .next t ∧ s.TookDue t (.dayEnded n) ∧ s.floor.OnlyUnit (.box n) t.floor ∧
        t.floor.boxes[n].turnClock = x.turnClock ∧
        (∀ p, boundary s.tables.active (.box n) x.ctx = .next p →
          t.floor.boxes[n].ctx = { x.ctx with pos := some p } ∧ t.floor.boxes[n].dayClock = 0) ∧
        (boundary s.tables.active (.box n) x.ctx = .ended →
          t.floor.boxes[n].ctx = { x.ctx with state := .done, reason := none, resume := none, noted := none }) ∧
        (∀ i, boundary s.tables.active (.box n) x.ctx = .gone i →
          t.floor.boxes[n].ctx = { x.ctx.heldFor .programGone with noted := some i }))

/-! ### The Turner Arbiter -/

/-- R152, R157, R158, R159, R160: a RUNNING box whose turn clock has reached its day's interval joins the queue with class NORMAL;
one that has a request makes none. A bed at or above the day's target plus the urgent delta, with the box's turn clock at the
minimum gap or past it, asks at an evaluation with class URGENT: a box without a request joins so, and a NORMAL request that is
not granted becomes URGENT and keeps its number. A request that joins takes the joining counter's value, which then rises by 1;
at 65535 the queued requests are first renumbered 0, 1, 2 and onward in queue order, and the counter is their number. The other
requests stand as they stood, and the queue stays in order: URGENT before NORMAL, and within a class the lowest number first.
After each such arrival, and as a step of its own, an arbiter in IDLE or PARKING with the turner ready grants the turner to the
first eligible request and prepares, with no result and a prep timer; where the fan feedback is met already it is DISPATCHED. In
any other state, or without an eligible request, nothing is granted. -/
def Obligations.TurnIsAskedAndGranted : Prop :=
  ∀ s : State, s.inReset = false → s.LinesFollow →
    let a := s.floor.arbiter
    let free := (a.state = .idle ∨ a.state = .parking) ∧ turnerReady s.env = true
    let first := fun t : State => t.floor.arbiter.queue.find? (eligible s.env s.floor)
    let decides := fun t : State =>
      (∀ r, free → first t = some r → s.GrantsTo t r) ∧
        (¬free ∨ first t = none →
          t.floor.arbiter = { a with queue := t.floor.arbiter.queue, counter := t.floor.arbiter.counter })
    (∀ n : Fin 12, .turnIntervalReached n ∈ s.due → s.floor.boxes[n].ctx.state = .running →
      0 < dayInterval s.floor.boxes[n].ctx.fields →
      dayInterval s.floor.boxes[n].ctx.fields * 60 ≤ s.floor.boxes[n].turnClock →
      ∃ t, exec (.turnIntervalReached n) s = .next t ∧ s.TookDue t (.turnIntervalReached n) ∧
        s.floor.OnlyTurns t.floor ∧
        (a.hasRequest n = false → a.AtBack t.floor.arbiter n false ∧ decides t ∧
          (¬free ∨ first t = none → t.floor = { s.floor with arbiter := t.floor.arbiter })) ∧
        (a.hasRequest n = true → t.floor = s.floor)) ∧
    (∀ n : Fin 12,
      let c := s.floor.boxes[n].ctx
      .boxEvaluation n ∈ s.due → c.state = .running → 0 < dayInterval c.fields → 0 < entryUrgentDelta c.entry →
      (s.env.bed n).usable = true → dayTarget c.fields + entryUrgentDelta c.entry ≤ (s.env.bed n).value →
      entryMinGap c.entry * 60 ≤ s.floor.boxes[n].turnClock →
      ∃ t, exec (.boxEvaluation n) s = .next t ∧ s.TookDue t (.boxEvaluation n) ∧ s.floor.OnlyTurns t.floor ∧
        (a.request n = none → a.AtBack t.floor.arbiter n true ∧ decides t) ∧
        (∀ q, a.request n = some q → q.urgent = false → a.grant ≠ some n →
          a.Upgraded t.floor.arbiter n q ∧ decides t) ∧
        (∀ q, a.request n = some q → q.urgent = true ∨ a.grant = some n → t.floor.arbiter = a)) ∧
    (¬(free ∧ ∃ r ∈ a.queue, eligible s.env s.floor r = true) → exec .grant s = .next s) ∧
    (∀ r, free → a.queue.find? (eligible s.env s.floor) = some r →
      ∃ t, exec .grant s = .next t ∧ s.TookNow t ∧ s.floor.OnlyTurns t.floor ∧ s.GrantsTo t r ∧
        t.floor.arbiter.queue = a.queue ∧ t.floor.arbiter.counter = a.counter)

/-- R136, R158, R160, R161, R162, R163: a turn proceeds. In PREPARING the fan feedback at or below the turn-air maximum dispatches the
turner; in DISPATCHED the turner TURNING at the box starts the turn, INCOMPLETE so far, with the demand condition of the spray
channel true, in every mode (log entry 71), and the channel asked for the day's litres; in TURNING the turner IDLE or MOVING completes it; in RELEASING the
spray no longer open releases the grant: the request is gone, no channel that the box owns is open, whatever channel its binding
names by then (log entry 72), and after a complete turn the turn clock and the fault count are 0. -/
def Obligations.TurnProceeds : Prop :=
  ∀ (s : State) (n : Fin 12), s.inReset = false → s.floor.arbiter.grant = some n →
    let a := s.floor.arbiter
    let x := s.floor.boxes[n]
    let released := fun (complete : Bool) (t : State) =>
      t.floor.arbiter.hasRequest n = false ∧ t.floor.arbiter.grant ≠ some n ∧ t.SprayShut n ∧
        t.floor.arbiter.faults = (if complete = true then 0 else a.faults) ∧
        t.floor.boxes[n].turnClock = (if complete = true then 0 else x.turnClock) ∧
        (turnerReady s.env = false → t.floor.arbiter.state = .idle ∧ t.floor.arbiter.grant = none)
    let proceeds := fun (i : Instr) (p : State → Prop) =>
      ∃ t, exec i s = .next t ∧ s.TookNow t ∧ (∀ u, t.floor.ctx u = s.floor.ctx u) ∧
        t.floor.batches = s.floor.batches ∧ t.floor.register = s.floor.register ∧ p t
    (a.state = .preparing → feedbackMet s.env s.floor n = true →
      proceeds .fanFeedbackMet fun t =>
        t.floor.arbiter.state = .dispatched ∧ t.floor.arbiter.grant = some n ∧
          t.floor.arbiter.timer = some (s.second + entryStartTimeout x.ctx.entry) ∧ t.floor.boxes = s.floor.boxes) ∧
    (a.state = .dispatched → s.env.turnerStatus.usable = true → s.env.turnerStatus.value = 2 →
      s.env.turnerPosition.usable = true → s.env.turnerPosition.value = (n : Nat) →
      proceeds .turnerAtBox fun t =>
        t.floor.arbiter = { a with
          state := .turning
          result := .incomplete
          timer := some (s.second + entryTurnTimeout x.ctx.entry * 60) } ∧
        (∀ c, s.tables.active.unitChannel (.box n) = some c → t.floor.channels[c].demand = true) ∧
        (daySpray x.ctx.fields ≤ 0 →
          t.floor = { s.floor with
            arbiter := t.floor.arbiter, queue := t.floor.queue, channels := t.floor.channels } ∧
          ∀ c : Fin 12,
            let ch := s.floor.channels[c]
            (s.tables.active.unitChannel (.box n) ≠ some c → t.floor.channels[c] = ch) ∧
            (s.tables.active.unitChannel (.box n) = some c →
              (s.tables.active.channelMode c = .demand → ch.state = .paused →
                t.floor.channels[c].state = .active ∧ t.floor.channels[c].valve = .opened) ∧
              (s.tables.active.channelMode c ≠ .demand ∨ ch.state ≠ .paused →
                t.floor.channels[c] = { ch with demand := true }))) ∧
        (∀ c, 0 < daySpray x.ctx.fields → daySpray x.ctx.fields < 2 ^ 31 → s.tables.active.unitChannel (.box n) = some c →
          s.tables.active.channelOwner c = some (.box n) → pointsFresh s.env c = true →
          t.floor.channels[c].state = .active ∧ (t.floor.channels[c].base : Int) = daySpray x.ctx.fields)) ∧
    (a.state = .turning → s.env.turnerStatus.usable = true →
      s.env.turnerStatus.value = 0 ∨ s.env.turnerStatus.value = 1 →
      proceeds .turnerFinished fun t =>
        (¬s.SprayShut n → 0 < entrySprayTrail x.ctx.entry →
          t.floor = { s.floor with
            arbiter := { a with
              state := .releasing
              result := .complete
              timer := some (s.second + entrySprayTrail x.ctx.entry) } }) ∧
        (s.SprayShut n ∨ entrySprayTrail x.ctx.entry = 0 → released true t)) ∧
    (a.state = .releasing → s.SprayShut n →
      proceeds .release fun t => released (a.result == .complete) t)

/-- R158, R160, R161, R162, R163, R165: the timers of a turn. In PREPARING the grant is withdrawn and the request moves to the back
of its class: it takes the joining counter's value, at 65535 after the renumbering, the other requests stand as they stood, and
the queue stays in order. In DISPATCHED it moves back in the same way and a fault is counted, the third leaving the arbiter DISABLED; in TURNING the
spray is stopped and the turn, INCOMPLETE, is released; in RELEASING a spray still open is stopped, so that no channel that the box
owns is open, whatever channel its binding names by then (log entry 72), and the grant is released, a
complete turn setting the turn clock and the fault count to 0. A sample of the turner's status point that is read as FAULT,
neither 0, 1 nor 2, while a box holds the grant is a turner fault: the grant is withdrawn with the request, the spray is
stopped, and the fault is counted, the third leaving the arbiter DISABLED. -/
def Obligations.TurnTimersRunOut : Prop :=
  (∀ (s : State) (n : Fin 12) (ending : Nat), s.inReset = false → s.floor.arbiter.grant = some n →
    s.floor.arbiter.timer = some ending → ending ≤ s.second →
    let a := s.floor.arbiter
    let x := s.floor.boxes[n]
    let back := fun t : State =>
      (∀ q, a.request n = some q → a.AtBack t.floor.arbiter n q.urgent) ∧
        (a.request n = none → t.floor.arbiter.queue = a.queue)
    let ends := fun (i : Instr) (p : State → Prop) =>
      i ∈ s.due → ∃ t, exec i s = .next t ∧ s.TookDue t i ∧ (∀ u, t.floor.ctx u = s.floor.ctx u) ∧
        t.floor.batches = s.floor.batches ∧ t.floor.register = s.floor.register ∧ p t
    (a.state = .preparing →
      ends .prepTimeout fun t =>
        back t ∧ t.floor.arbiter.faults = a.faults ∧
          (turnerReady s.env = false → t.floor.arbiter.state = .idle ∧ t.floor.arbiter.grant = none)) ∧
    (a.state = .dispatched →
      ends .startTimeout fun t =>
        back t ∧ t.floor.arbiter.faults = a.faults + 1 ∧
          (2 ≤ a.faults → t.floor.arbiter.state = .disabled ∧ t.floor.arbiter.grant = none ∧ t.pins.alertLow = true) ∧
          (a.faults < 2 → turnerReady s.env = false →
            t.floor.arbiter.state = .idle ∧ t.floor.arbiter.grant = none)) ∧
    (a.state = .turning →
      ends .turnOverrun fun t =>
        t.floor.arbiter.hasRequest n = false ∧ t.floor.arbiter.grant ≠ some n ∧ t.floor.arbiter.faults = a.faults ∧
          t.floor.boxes[n].turnClock = x.turnClock ∧ t.SprayShut n) ∧
    (a.state = .releasing →
      ends .sprayTrailExpiry fun t =>
        t.floor.arbiter.hasRequest n = false ∧ t.floor.arbiter.grant ≠ some n ∧
          t.SprayShut n ∧
          (a.result = .complete → t.floor.arbiter.faults = 0 ∧ t.floor.boxes[n].turnClock = 0) ∧
          (a.result ≠ .complete → t.floor.arbiter.faults = a.faults ∧ t.floor.boxes[n].turnClock = x.turnClock))) ∧
  (∀ (slot : Slot) (ff : Bool) (s : State) (m : Nat) (p : Fin 192) (n : Fin 12), s.Awake → s.GoodSteady → s.Meets slot 1#8 →
    let b := s.tables.active
    let a := s.floor.arbiter
    b.mapFind slot.source slot.func = some m → b.field 1 m 3 = (p : Nat) → slot.qual = 0#8 ∨ slot.qual = 1#8 →
    b.field 2 p 0 = 1 → b.inService 20 = true → b.binding 20 7 = (p : Nat) → slot.value.toInt ∉ [(0 : Int), 1, 2] →
    (∀ c : Fin 12, b.meterPoint c ≠ (p : Nat)) → (∀ k : Fin 2, b.kilnBinding k 1 ≠ (p : Nat)) → s.floor.NoneWaiting →
    a.grant = some n →
    ∃ t, exec (.sampleCell slot ff) s = .next t ∧ t.floor.arbiter.grant = none ∧ t.floor.arbiter.hasRequest n = false ∧
      t.floor.arbiter.faults = a.faults + 1 ∧ t.SprayShut n ∧
      t.floor.boxes[n].turnClock = s.floor.boxes[n].turnClock ∧
      (2 ≤ a.faults → t.floor.arbiter.state = .disabled ∧ t.pins.alertLow = true) ∧
      (a.faults < 2 → t.floor.arbiter.state = .idle))

/-- R164, R165, R168: the parking decision of an IDLE arbiter with the turner in service: PARK_POLICY 1 offers GOTO 16, to bay 0,
and the arbiter parks; 2 offers GOTO with PARK_BOX and the arbiter stays IDLE; any other offers nothing. A refused GOTO waits,
and while a STOP still waits the GOTO waits behind it (read from the spec by inference, log entry 13). In PARKING a turner
reported at position 16 is offered PARK once, and reported IDLE there it ends the move; any other report without a fault
leaves the arbiter parking. That the expiry looks neither for a FAULT or a stale point (log entry 55) nor for eligible requests
(log entry 67), and that the PARK offered flag is set where PARK waits behind a refused command (log entry 61), are the
model's choices. TURNER_ENABLE sets the fault count to 0 and makes a DISABLED arbiter IDLE, and answers OK with the
fault count as it was. -/
def Obligations.TurnerParksAndIsEnabled : Prop :=
  ∀ s : State,
    let b := s.tables.active
    let a := s.floor.arbiter
    let cell := fun (func : Nat) (v : Int) => (⟨BitVec.ofInt 8 (b.binding 20 1), 2#8, BitVec.ofInt 8 (b.binding 20 func), 20#8,
      Word.ofValue v, 0#8, s.second⟩ : QCell)
    let offers := fun (c : QCell) (what : TurnerCommand) (t : State) =>
      t.floor.queue = (s.floor.queue.offerCommand c).1 ∧
        t.floor.arbiter.waiting = if (s.floor.queue.offerCommand c).2 = true then [] else [what]
    let silent := fun t : State => t.floor.queue = s.floor.queue ∧ t.floor.arbiter.waiting = a.waiting
    (∀ p, s.inReset = false → .parkDelayExpiry ∈ s.due → a.state = .idle → a.parkTimer = some p → p ≤ s.second →
      b.inService 20 = true →
      ∃ t, exec .parkDelayExpiry s = .next t ∧ s.TookDue t .parkDelayExpiry ∧
        t.floor = { s.floor with queue := t.floor.queue, arbiter := t.floor.arbiter } ∧
        t.floor.arbiter = { a with
          parked := true
          parkTimer := none
          state := if b.field 0 0 10 = 1 then .parking else .idle
          parkOffered := if b.field 0 0 10 = 1 then false else a.parkOffered
          waiting := t.floor.arbiter.waiting } ∧
        (b.field 0 0 10 ≠ 1 → b.field 0 0 10 ≠ 2 → silent t) ∧
        (∀ bay, (b.field 0 0 10 = 1 ∧ bay = 16) ∨ (b.field 0 0 10 = 2 ∧ bay = b.field 0 0 11) →
          (.stop ∉ a.waiting → offers (cell 2 bay) (.goto bay) t) ∧
          (.stop ∈ a.waiting → t.floor.queue = s.floor.queue ∧ t.floor.arbiter.waiting = [.stop, .goto bay]))) ∧
    (s.inReset = false → a.state = .parking → s.env.turnerPosition.usable = true → s.env.turnerPosition.value = 16 →
      s.env.turnerStatus.usable = true →
      (s.env.turnerStatus.value = 0 → (∀ r ∈ a.queue, eligible s.env s.floor r = false) →
        ∃ t, exec .parkPositionReached s = .next t ∧ s.TookNow t ∧
          t.floor = { s.floor with queue := t.floor.queue, arbiter := t.floor.arbiter } ∧
          t.floor.arbiter.state = .idle ∧ t.floor.arbiter.queue = a.queue ∧ t.floor.arbiter.grant = a.grant ∧
          (a.parkOffered = true → silent t) ∧
          (a.parkOffered = false → a.waiting = [] → offers (cell 5 0) .park t)) ∧
      (s.env.turnerStatus.value = 1 ∨ s.env.turnerStatus.value = 2 →
        ∃ t, exec .parkPositionReached s = .next t ∧ s.TookNow t ∧
          t.floor = { s.floor with queue := t.floor.queue, arbiter := t.floor.arbiter } ∧
          t.floor.arbiter = { a with parkOffered := true, waiting := t.floor.arbiter.waiting } ∧
          (a.parkOffered = true → silent t) ∧
          (a.parkOffered = false → a.waiting = [] → offers (cell 5 0) .park t) ∧
          (a.parkOffered = false → a.waiting ≠ [] →
            t.floor.queue = s.floor.queue ∧ t.floor.arbiter.waiting = a.waiting ++ [.park]))) ∧
    (s.inReset = false → s.LinesFollow → a.state ≠ .parking → exec .parkPositionReached s = .next s) ∧
    (∀ r, s.Ready .turnerEnable r → turnerReady s.env = false ∨ (∀ q ∈ a.queue, eligible s.env s.floor q = false) →
      ∃ t, exec (.turnerEnable r) s = .next t ∧ t.LinesFollow ∧
        t = { (s.afterRequest .turnerEnable r fun u =>
          ({ u with floor := { u.floor with
              arbiter := if a.state = .disabled then { a with faults := 0, state := .idle, timer := none, result := .none }
                else { a with faults := 0 } } } : State).answer .turnerEnable r .ok a.faults) with
            pins := t.pins })

/-! ### Kilns -/

/-- R177, R178, R179, R180, R181, R182, R183, R184, R185: an evaluation of a kiln that is due. Where one of the five readings is
STALE or NONE it is skipped: the count of skipped evaluations rises and nothing of the account changes. Else the filter takes
its next value, the water removed rises by the pickup in whole grams with the rest carried, and the moisture follows; HELD,
TRIPPED or DONE that is all. A RUNNING kiln ends its phase where the condition of its kind is met: FREE_DRY on the break,
which is a filter rise at least the break rise with the moisture, where there is a basis, at most the break moisture, or a
moisture at most the forced-break moisture; FORCED_DRY on the moisture, COOL on Ton, CURE on the cure integral after this
evaluation's gain. The kiln then enters the next phase, is DONE with its burner at 0, or is HELD(PROGRAM_GONE). Where the
condition is not met it ramps its setpoint. The moisture is in tenths of a percent and needs a basis. That a kiln which is
DONE keeps its program position is the model's choice (log entry 45). -/
def Obligations.KilnEvaluationAccounts : Prop :=
  ∀ (s : State) (k : Fin 2), s.inReset = false → .kilnEvaluation k ∈ s.due →
    s.floor.kilns[k].ctx.state ∈ [UnitState.running, .held, .tripped, .done] →
    let x := s.floor.kilns[k]
    let b := s.tables.active
    let reads := fun i : Int => s.env.point i
    let missing := ∃ i ∈ kilnInputs b k, (reads i).usable = false
    let toff := (reads (b.kilnBinding k 2)).value
    let delta := humidityRatio b toff (reads (b.kilnBinding k 3)).value -
      humidityRatio b (reads (b.field 0 0 8)).value (reads (b.field 0 0 9)).value
    let p := (clamp 0 20000 (reads (b.kilnBinding k 4)).value).toNat * delta.toNat * b.evalSeconds
    let removed := min (2 ^ 32 - 1) (x.removed + (p + x.carry) / 600)
    let accounted := fun y : Kiln =>
      y.filter = some (filterStep (entryShift x.ctx.entry) x.filter toff) ∧ y.removed = removed ∧
        y.carry = (p + x.carry) % 600 ∧ y.moisture = moistureOf x.dry x.water removed ∧ y.skipNote = false ∧
        y.skipped = x.skipped ∧ y.dry = x.dry ∧ y.water = x.water
    ∃ t, exec (.kilnEvaluation k) s = .next t ∧ s.TookDue t (.kilnEvaluation k) ∧ s.floor.OnlyUnit (.kiln k) t.floor ∧
      t.floor.vessels = s.floor.vessels ∧ t.floor.boxes = s.floor.boxes ∧ t.floor.arbiter = s.floor.arbiter ∧
      (missing → t.floor.kilns[k] = { x with
        skipped := min 65535 (x.skipped + 1)
        skipNote := true
        burner := t.floor.kilns[k].burner
        fan := t.floor.kilns[k].fan }) ∧
      (¬missing → x.ctx.state ≠ .running → accounted t.floor.kilns[k] ∧ t.floor.kilns[k].ctx = x.ctx) ∧
      (¬missing → x.ctx.state = .running →
        let y := t.floor.kilns[k]
        let phase := x.ctx.fields
        let ton := s.env.ton k
        let goal := phaseEnd phase
        let ramped := clamp 0 (entryCeiling x.ctx.entry)
          (if phaseRamp phase ≤ 0 then goal
            else if x.setpoint < goal then min goal (x.setpoint + phaseRamp phase)
            else max goal (x.setpoint - phaseRamp phase))
        let goesOn := y.ctx = x.ctx ∧ y.timer = x.timer ∧ y.setpoint = ramped ∧ y.burner.value = some ramped ∧
          y.fan.value = some (phaseFan phase) ∧ y.peat = x.peat
        let ends :=
          (∀ p, boundary b (.kiln k) x.ctx = .next p →
            phaseKind p.fields ≠ .freeDry ∨ phasePeat p.fields ≤ 0 ∨ b.unitChannel (.kiln k) = none →
            y.ctx = { x.ctx with pos := some p } ∧ y.timer = 0 ∧
              y.setpoint = clamp 0 (entryCeiling p.entry) (phaseStart p.fields) ∧ y.peat = .none) ∧
          (boundary b (.kiln k) x.ctx = .ended →
            y.ctx = { x.ctx with state := .done, reason := none, resume := none, noted := none } ∧
              y.burner.value = some 0 ∧ y.fan.value = some (phaseFan phase)) ∧
          (∀ i, boundary b (.kiln k) x.ctx = .gone i → y.ctx = { x.ctx.heldFor .programGone with noted := some i })
        let m := moistureOf x.dry x.water removed
        let newest := filterStep (entryShift x.ctx.entry) x.filter toff
        let breaks :=
          (∃ old, ((newest :: x.history).take 16)[entryWindow x.ctx.entry]? = some old ∧
            entryBreakRise x.ctx.entry ≤ newest - old ∧ (x.noBasis = true ∨ (m : Int) ≤ entryBreakMoisture x.ctx.entry)) ∨
          (x.noBasis = false ∧ (m : Int) ≤ entryForcedBreak x.ctx.entry)
        let dried := x.noBasis = false ∧ (m : Int) ≤ phaseExit phase
        let cooled := ton.usable = true ∧ ton.value ≤ phaseExit phase
        let gained := min (2 ^ 32 - 1) (x.cure + (ton.value - entryCureBase x.ctx.entry).toNat * b.evalSeconds / 60)
        accounted y ∧
          (phaseKind phase = .freeDry → if breaks then ends else goesOn) ∧
          (phaseKind phase = .forcedDry → if dried then ends else goesOn) ∧
          (phaseKind phase = .cool → if cooled then ends else goesOn) ∧
          (phaseKind phase = .cure → if phaseExit phase ≤ gained then ends else goesOn ∧ y.cure = gained))

/-- R184, R185, R189, R190: a phase whose timer has reached the maximum ends: the kiln enters the next phase, is DONE with its
burner at 0, or is HELD(PROGRAM_GONE). A flame count at the flame grace trips the kiln with cause FLAME_LOST: it notes phase
and clock, its burner setpoint is 0 and its fan at the purge percentage of its program entry, its permit is low, and ALERT# is
driven; a kiln that holds no entry keeps its fan record (the model's choice, log entry 40), and one that is DONE keeps its
program position (log entry 45). -/
def Obligations.PhasesEndAndFlamesTrip : Prop :=
  ∀ (s : State) (k : Fin 2), s.inReset = false →
    let x := s.floor.kilns[k]
    (.phaseMaximum k ∈ s.due → x.ctx.state = .running → phaseMaxTime x.ctx.fields ≤ x.timer →
      ∃ t, exec (.phaseMaximum k) s = .next t ∧ s.TookDue t (.phaseMaximum k) ∧ s.floor.OnlyUnit (.kiln k) t.floor ∧
        (∀ p, boundary s.tables.active (.kiln k) x.ctx = .next p →
          phaseKind p.fields ≠ .freeDry ∨ phasePeat p.fields ≤ 0 ∨ s.tables.active.unitChannel (.kiln k) = none →
          t.floor.kilns[k].ctx = { x.ctx with pos := some p } ∧ t.floor.kilns[k].timer = 0 ∧
            t.floor.kilns[k].setpoint = clamp 0 (entryCeiling p.entry) (phaseStart p.fields) ∧
            t.floor.kilns[k].peat = .none) ∧
        (boundary s.tables.active (.kiln k) x.ctx = .ended →
          t.floor.kilns[k].ctx = { x.ctx with state := .done, reason := none, resume := none, noted := none } ∧
            t.floor.kilns[k].burner.value = some 0 ∧ t.floor.kilns[k].fan.value = some (phaseFan x.ctx.fields)) ∧
        (∀ i, boundary s.tables.active (.kiln k) x.ctx = .gone i →
          t.floor.kilns[k].ctx = { x.ctx.heldFor .programGone with noted := some i })) ∧
    (.flameLost k ∈ s.due → x.ctx.state = .running ∨ x.ctx.state = .held → entryFlameGrace x.ctx.entry ≤ x.flame →
      ∃ t, exec (.flameLost k) s = .next t ∧ s.TookDue t (.flameLost k) ∧ s.floor.OnlyUnit (.kiln k) t.floor ∧
        t.floor.kilns[k] = { x with
          ctx := { x.ctx with state := .tripped, reason := none, resume := none, noted := none }
          burner := ⟨some 0, false⟩
          fan := if x.ctx.pos.isSome = true then ⟨some (entryPurge x.ctx.entry), false⟩ else x.fan
          trip := some ⟨.flameLost, x.ctx.item, s.time, s.timeUnset,
            if (s.env.ton k).usable = true then (s.env.ton k).value else 0⟩ } ∧
        t.pins.permits[k] = false ∧ t.pins.alertLow = true ∧
        (∀ c, s.tables.active.unitChannel (.kiln k) = some c → t.floor.channels[c].isOpen = false))

/-! ### Invariants -/

/-- R13, R188, R223: the output lines follow the state after every command, from every state in which they follow it; and no
permit is high then but with consent: the kiln RUNNING or HELD(STATION) in a phase that is not COOL, Ton FRESH or HELD, and
the loop UP. -/
def Obligations.PermitsNeedConsent : Prop :=
  ∀ s t : State, step s = .next t → s.LinesFollow →
    t.LinesFollow ∧ ∀ k : Fin 2, t.pins.permits[k] = true → t.inReset = false ∧ t.FiringConsent k

/-- Both banks keep the model's canonical form at every step: places rising, no field of value 0 listed. That a bank is a list in
such a form is the model's choice (log entry 36); R65 says what the fields of a bank are. -/
def Obligations.BanksStayCanonical : Prop :=
  ∀ s t : State, step s = .next t → s.BanksCanonical → t.BanksCanonical

/-- R196, R197, R200, R203, R204, R208: in every step that begins and ends with a READY register outside a reset, a sound chain
stays sound: each record's check follows from the record before it, the numbers rise by one, and the next number follows the
newest. -/
def Obligations.ReadyChainStaysSound : Prop :=
  ∀ s t : State, step s = .next t → s.inReset = false → t.inReset = false →
    (s.floor.register.state = .ready → ChainSound s.floor.register.retained) →
    (t.floor.register.state = .ready → ChainSound t.floor.register.retained)

/-- R17, R18, R22, R188, R197: the model's reset state meets every invariant of this file. That the part is then out of reset with
its straps at 5 and nothing retained is the model's choice (log entry 7), as is the canonical form of the banks (log entry
36). -/
def Obligations.ResetMeetsTheInvariants : Prop :=
  State.reset.LinesFollow ∧ State.reset.PermitsSafe ∧ State.reset.BanksCanonical ∧ State.reset.floor.queue.Bounded ∧
    State.reset.floor.queue.KeysDistinct ∧
    (State.reset.floor.register.state = .ready → ChainSound State.reset.floor.register.retained) ∧ State.reset.Awake
end

