-- ==== Sys2Proof/Laws/State.lean ====
section
/-! SUPPORT. The fields of the state after each record update, so that no proof unfolds one; and the entries of a vector
after `upd`. -/

namespace Sys2Proof.Machine

/-! ### Vectors -/

theorem upd_get_self {α : Type} {n : Nat} (v : Vector α n) (i : Fin n) (f : α → α) : (upd v i f)[i] = f v[i] := by
  simp [upd]

@[simp] theorem upd_val_self {α : Type} {n : Nat} (v : Vector α n) (i : Fin n) (f : α → α) :
    (upd v i f)[(i : Nat)] = f v[(i : Nat)] := upd_get_self v i f

theorem upd_get_ne {α : Type} {n : Nat} (v : Vector α n) {i j : Fin n} (f : α → α) (h : i ≠ j) : (upd v i f)[j] = v[j] := by
  have : (i : Nat) ≠ j := fun e => h (Fin.ext e)
  simp [upd, this]

theorem upd_get {α : Type} {n : Nat} (v : Vector α n) (i j : Fin n) (f : α → α) :
    (upd v i f)[j] = if i = j then f v[j] else v[j] := by
  split
  · next h => subst h; exact upd_get_self v i f
  · next h => exact upd_get_ne v f h

/-- An update that keeps a projection of the entry keeps it of every entry. -/
theorem upd_proj {α β : Type} {n : Nat} (p : α → β) (v : Vector α n) (i j : Fin n) (f : α → α) (h : p (f v[i]) = p v[i]) :
    p (upd v i f)[j] = p v[j] := by
  rw [upd_get]
  split
  · next e => subst e; exact h
  · rfl

/-! ### `State.onFloor` and `setLines` -/

@[simp] theorem onFloor_pending (s : State) (op : Env → Floor → Floor) : (s.onFloor op).pending = s.pending := rfl

@[simp] theorem onFloor_due (s : State) (op : Env → Floor → Floor) : (s.onFloor op).due = s.due := rfl

@[simp] theorem onFloor_inReset (s : State) (op : Env → Floor → Floor) : (s.onFloor op).inReset = s.inReset := rfl

@[simp] theorem onFloor_pins (s : State) (op : Env → Floor → Floor) : (s.onFloor op).pins = s.pins := rfl

@[simp] theorem onFloor_outPort (s : State) (op : Env → Floor → Floor) : (s.onFloor op).outPort = s.outPort := rfl

@[simp] theorem onFloor_loop (s : State) (op : Env → Floor → Floor) : (s.onFloor op).loop = s.loop := rfl

@[simp] theorem onFloor_capture (s : State) (op : Env → Floor → Floor) : (s.onFloor op).capture = s.capture := rfl

@[simp] theorem onFloor_second (s : State) (op : Env → Floor → Floor) : (s.onFloor op).second = s.second := rfl

@[simp] theorem onFloor_time (s : State) (op : Env → Floor → Floor) : (s.onFloor op).time = s.time := rfl

@[simp] theorem onFloor_timeUnset (s : State) (op : Env → Floor → Floor) : (s.onFloor op).timeUnset = s.timeUnset := rfl

@[simp] theorem onFloor_points (s : State) (op : Env → Floor → Floor) : (s.onFloor op).points = s.points := rfl

@[simp] theorem onFloor_polls (s : State) (op : Env → Floor → Floor) : (s.onFloor op).polls = s.polls := rfl

@[simp] theorem onFloor_retries (s : State) (op : Env → Floor → Floor) : (s.onFloor op).retries = s.retries := rfl

@[simp] theorem onFloor_tables (s : State) (op : Env → Floor → Floor) : (s.onFloor op).tables = s.tables := rfl

@[simp] theorem onFloor_floor (s : State) (op : Env → Floor → Floor) : (s.onFloor op).floor = op s.env s.floor := rfl

@[simp] theorem onFloor_env (s : State) (op : Env → Floor → Floor) : (s.onFloor op).env = s.env := rfl

@[simp] theorem setLines_pending (s : State) : (setLines s).pending = s.pending := rfl

@[simp] theorem setLines_due (s : State) : (setLines s).due = s.due := rfl

@[simp] theorem setLines_inReset (s : State) : (setLines s).inReset = s.inReset := rfl

@[simp] theorem setLines_outPort (s : State) : (setLines s).outPort = s.outPort := rfl

@[simp] theorem setLines_loop (s : State) : (setLines s).loop = s.loop := rfl

@[simp] theorem setLines_capture (s : State) : (setLines s).capture = s.capture := rfl

@[simp] theorem setLines_second (s : State) : (setLines s).second = s.second := rfl

@[simp] theorem setLines_time (s : State) : (setLines s).time = s.time := rfl

@[simp] theorem setLines_timeUnset (s : State) : (setLines s).timeUnset = s.timeUnset := rfl

@[simp] theorem setLines_points (s : State) : (setLines s).points = s.points := rfl

@[simp] theorem setLines_polls (s : State) : (setLines s).polls = s.polls := rfl

@[simp] theorem setLines_retries (s : State) : (setLines s).retries = s.retries := rfl

@[simp] theorem setLines_tables (s : State) : (setLines s).tables = s.tables := rfl

@[simp] theorem setLines_floor (s : State) : (setLines s).floor = s.floor := rfl

@[simp] theorem setLines_pins (s : State) : (setLines s).pins = s.lines := rfl

@[simp] theorem setLines_env (s : State) : (setLines s).env = s.env := rfl

/-! ### The reading of the state -/

@[simp] theorem env_bank (s : State) : s.env.bank = s.tables.active := rfl

@[simp] theorem env_operating (s : State) : s.env.operating = s.tables.present := rfl

@[simp] theorem env_points (s : State) : s.env.points = s.points := rfl

@[simp] theorem env_second (s : State) : s.env.second = s.second := rfl

@[simp] theorem env_time (s : State) : s.env.time = s.time := rfl

@[simp] theorem env_timeUnset (s : State) : s.env.timeUnset = s.timeUnset := rfl

@[simp] theorem env_loopUp (s : State) : s.env.loopUp = s.loop.up := rfl

/-! ### The updates of the floor -/

@[simp] theorem vessel_queue (f : Floor) (v : Fin 6) (g : Vessel → Vessel) : (f.vessel v g).queue = f.queue := rfl

@[simp] theorem vessel_eventSeq (f : Floor) (v : Fin 6) (g : Vessel → Vessel) : (f.vessel v g).eventSeq = f.eventSeq := rfl

@[simp] theorem vessel_vessels (f : Floor) (v : Fin 6) (g : Vessel → Vessel) : (f.vessel v g).vessels = upd f.vessels v g := rfl

@[simp] theorem vessel_channels (f : Floor) (v : Fin 6) (g : Vessel → Vessel) : (f.vessel v g).channels = f.channels := rfl

@[simp] theorem vessel_boxes (f : Floor) (v : Fin 6) (g : Vessel → Vessel) : (f.vessel v g).boxes = f.boxes := rfl

@[simp] theorem vessel_arbiter (f : Floor) (v : Fin 6) (g : Vessel → Vessel) : (f.vessel v g).arbiter = f.arbiter := rfl

@[simp] theorem vessel_kilns (f : Floor) (v : Fin 6) (g : Vessel → Vessel) : (f.vessel v g).kilns = f.kilns := rfl

@[simp] theorem vessel_batches (f : Floor) (v : Fin 6) (g : Vessel → Vessel) : (f.vessel v g).batches = f.batches := rfl

@[simp] theorem vessel_register (f : Floor) (v : Fin 6) (g : Vessel → Vessel) : (f.vessel v g).register = f.register := rfl

@[simp] theorem vessel_acceptCount (f : Floor) (v : Fin 6) (g : Vessel → Vessel) : (f.vessel v g).acceptCount = f.acceptCount := rfl

@[simp] theorem vessel_freeCount (f : Floor) (v : Fin 6) (g : Vessel → Vessel) : (f.vessel v g).freeCount = f.freeCount := rfl

@[simp] theorem box_queue (f : Floor) (b : Fin 12) (g : Box → Box) : (f.box b g).queue = f.queue := rfl

@[simp] theorem box_eventSeq (f : Floor) (b : Fin 12) (g : Box → Box) : (f.box b g).eventSeq = f.eventSeq := rfl

@[simp] theorem box_vessels (f : Floor) (b : Fin 12) (g : Box → Box) : (f.box b g).vessels = f.vessels := rfl

@[simp] theorem box_channels (f : Floor) (b : Fin 12) (g : Box → Box) : (f.box b g).channels = f.channels := rfl

@[simp] theorem box_boxes (f : Floor) (b : Fin 12) (g : Box → Box) : (f.box b g).boxes = upd f.boxes b g := rfl

@[simp] theorem box_arbiter (f : Floor) (b : Fin 12) (g : Box → Box) : (f.box b g).arbiter = f.arbiter := rfl

@[simp] theorem box_kilns (f : Floor) (b : Fin 12) (g : Box → Box) : (f.box b g).kilns = f.kilns := rfl

@[simp] theorem box_batches (f : Floor) (b : Fin 12) (g : Box → Box) : (f.box b g).batches = f.batches := rfl

@[simp] theorem box_register (f : Floor) (b : Fin 12) (g : Box → Box) : (f.box b g).register = f.register := rfl

@[simp] theorem box_acceptCount (f : Floor) (b : Fin 12) (g : Box → Box) : (f.box b g).acceptCount = f.acceptCount := rfl

@[simp] theorem box_freeCount (f : Floor) (b : Fin 12) (g : Box → Box) : (f.box b g).freeCount = f.freeCount := rfl

@[simp] theorem kiln_queue (f : Floor) (k : Fin 2) (g : Kiln → Kiln) : (f.kiln k g).queue = f.queue := rfl

@[simp] theorem kiln_eventSeq (f : Floor) (k : Fin 2) (g : Kiln → Kiln) : (f.kiln k g).eventSeq = f.eventSeq := rfl

@[simp] theorem kiln_vessels (f : Floor) (k : Fin 2) (g : Kiln → Kiln) : (f.kiln k g).vessels = f.vessels := rfl

@[simp] theorem kiln_channels (f : Floor) (k : Fin 2) (g : Kiln → Kiln) : (f.kiln k g).channels = f.channels := rfl

@[simp] theorem kiln_boxes (f : Floor) (k : Fin 2) (g : Kiln → Kiln) : (f.kiln k g).boxes = f.boxes := rfl

@[simp] theorem kiln_arbiter (f : Floor) (k : Fin 2) (g : Kiln → Kiln) : (f.kiln k g).arbiter = f.arbiter := rfl

@[simp] theorem kiln_kilns (f : Floor) (k : Fin 2) (g : Kiln → Kiln) : (f.kiln k g).kilns = upd f.kilns k g := rfl

@[simp] theorem kiln_batches (f : Floor) (k : Fin 2) (g : Kiln → Kiln) : (f.kiln k g).batches = f.batches := rfl

@[simp] theorem kiln_register (f : Floor) (k : Fin 2) (g : Kiln → Kiln) : (f.kiln k g).register = f.register := rfl

@[simp] theorem kiln_acceptCount (f : Floor) (k : Fin 2) (g : Kiln → Kiln) : (f.kiln k g).acceptCount = f.acceptCount := rfl

@[simp] theorem kiln_freeCount (f : Floor) (k : Fin 2) (g : Kiln → Kiln) : (f.kiln k g).freeCount = f.freeCount := rfl

@[simp] theorem channel_queue (f : Floor) (c : Fin 12) (g : Channel → Channel) : (f.channel c g).queue = f.queue := rfl

@[simp] theorem channel_eventSeq (f : Floor) (c : Fin 12) (g : Channel → Channel) : (f.channel c g).eventSeq = f.eventSeq := rfl

@[simp] theorem channel_vessels (f : Floor) (c : Fin 12) (g : Channel → Channel) : (f.channel c g).vessels = f.vessels := rfl

@[simp] theorem channel_channels (f : Floor) (c : Fin 12) (g : Channel → Channel) : (f.channel c g).channels = upd f.channels c g := rfl

@[simp] theorem channel_boxes (f : Floor) (c : Fin 12) (g : Channel → Channel) : (f.channel c g).boxes = f.boxes := rfl

@[simp] theorem channel_arbiter (f : Floor) (c : Fin 12) (g : Channel → Channel) : (f.channel c g).arbiter = f.arbiter := rfl

@[simp] theorem channel_kilns (f : Floor) (c : Fin 12) (g : Channel → Channel) : (f.channel c g).kilns = f.kilns := rfl

@[simp] theorem channel_batches (f : Floor) (c : Fin 12) (g : Channel → Channel) : (f.channel c g).batches = f.batches := rfl

@[simp] theorem channel_register (f : Floor) (c : Fin 12) (g : Channel → Channel) : (f.channel c g).register = f.register := rfl

@[simp] theorem channel_acceptCount (f : Floor) (c : Fin 12) (g : Channel → Channel) : (f.channel c g).acceptCount = f.acceptCount := rfl

@[simp] theorem channel_freeCount (f : Floor) (c : Fin 12) (g : Channel → Channel) : (f.channel c g).freeCount = f.freeCount := rfl

@[simp] theorem arb_queue (f : Floor) (g : Arbiter → Arbiter) : (f.arb g).queue = f.queue := rfl

@[simp] theorem arb_eventSeq (f : Floor) (g : Arbiter → Arbiter) : (f.arb g).eventSeq = f.eventSeq := rfl

@[simp] theorem arb_vessels (f : Floor) (g : Arbiter → Arbiter) : (f.arb g).vessels = f.vessels := rfl

@[simp] theorem arb_channels (f : Floor) (g : Arbiter → Arbiter) : (f.arb g).channels = f.channels := rfl

@[simp] theorem arb_boxes (f : Floor) (g : Arbiter → Arbiter) : (f.arb g).boxes = f.boxes := rfl

@[simp] theorem arb_arbiter (f : Floor) (g : Arbiter → Arbiter) : (f.arb g).arbiter = g f.arbiter := rfl

@[simp] theorem arb_kilns (f : Floor) (g : Arbiter → Arbiter) : (f.arb g).kilns = f.kilns := rfl

@[simp] theorem arb_batches (f : Floor) (g : Arbiter → Arbiter) : (f.arb g).batches = f.batches := rfl

@[simp] theorem arb_register (f : Floor) (g : Arbiter → Arbiter) : (f.arb g).register = f.register := rfl

@[simp] theorem arb_acceptCount (f : Floor) (g : Arbiter → Arbiter) : (f.arb g).acceptCount = f.acceptCount := rfl

@[simp] theorem arb_freeCount (f : Floor) (g : Arbiter → Arbiter) : (f.arb g).freeCount = f.freeCount := rfl

@[simp] theorem reg_queue (f : Floor) (g : Register → Register) : (f.reg g).queue = f.queue := rfl

@[simp] theorem reg_eventSeq (f : Floor) (g : Register → Register) : (f.reg g).eventSeq = f.eventSeq := rfl

@[simp] theorem reg_vessels (f : Floor) (g : Register → Register) : (f.reg g).vessels = f.vessels := rfl

@[simp] theorem reg_channels (f : Floor) (g : Register → Register) : (f.reg g).channels = f.channels := rfl

@[simp] theorem reg_boxes (f : Floor) (g : Register → Register) : (f.reg g).boxes = f.boxes := rfl

@[simp] theorem reg_arbiter (f : Floor) (g : Register → Register) : (f.reg g).arbiter = f.arbiter := rfl

@[simp] theorem reg_kilns (f : Floor) (g : Register → Register) : (f.reg g).kilns = f.kilns := rfl

@[simp] theorem reg_batches (f : Floor) (g : Register → Register) : (f.reg g).batches = f.batches := rfl

@[simp] theorem reg_register (f : Floor) (g : Register → Register) : (f.reg g).register = g f.register := rfl

@[simp] theorem reg_acceptCount (f : Floor) (g : Register → Register) : (f.reg g).acceptCount = f.acceptCount := rfl

@[simp] theorem reg_freeCount (f : Floor) (g : Register → Register) : (f.reg g).freeCount = f.freeCount := rfl

@[simp] theorem batch_queue (f : Floor) (b : Fin 20) (g : Batch → Batch) : (f.batch b g).queue = f.queue := rfl

@[simp] theorem batch_eventSeq (f : Floor) (b : Fin 20) (g : Batch → Batch) : (f.batch b g).eventSeq = f.eventSeq := rfl

@[simp] theorem batch_vessels (f : Floor) (b : Fin 20) (g : Batch → Batch) : (f.batch b g).vessels = f.vessels := rfl

@[simp] theorem batch_channels (f : Floor) (b : Fin 20) (g : Batch → Batch) : (f.batch b g).channels = f.channels := rfl

@[simp] theorem batch_boxes (f : Floor) (b : Fin 20) (g : Batch → Batch) : (f.batch b g).boxes = f.boxes := rfl

@[simp] theorem batch_arbiter (f : Floor) (b : Fin 20) (g : Batch → Batch) : (f.batch b g).arbiter = f.arbiter := rfl

@[simp] theorem batch_kilns (f : Floor) (b : Fin 20) (g : Batch → Batch) : (f.batch b g).kilns = f.kilns := rfl

@[simp] theorem batch_batches (f : Floor) (b : Fin 20) (g : Batch → Batch) : (f.batch b g).batches = upd f.batches b fun x => x.map g := rfl

@[simp] theorem batch_register (f : Floor) (b : Fin 20) (g : Batch → Batch) : (f.batch b g).register = f.register := rfl

@[simp] theorem batch_acceptCount (f : Floor) (b : Fin 20) (g : Batch → Batch) : (f.batch b g).acceptCount = f.acceptCount := rfl

@[simp] theorem batch_freeCount (f : Floor) (b : Fin 20) (g : Batch → Batch) : (f.batch b g).freeCount = f.freeCount := rfl

@[simp] theorem output_queue (f : Floor) (v : Fin 6) (o : Fin 5) (g : Output → Output) : (f.output v o g).queue = f.queue := rfl

@[simp] theorem output_eventSeq (f : Floor) (v : Fin 6) (o : Fin 5) (g : Output → Output) : (f.output v o g).eventSeq = f.eventSeq := rfl

@[simp] theorem output_vessels (f : Floor) (v : Fin 6) (o : Fin 5) (g : Output → Output) : (f.output v o g).vessels = upd f.vessels v fun x => { x with outs := upd x.outs o g } := rfl

@[simp] theorem output_channels (f : Floor) (v : Fin 6) (o : Fin 5) (g : Output → Output) : (f.output v o g).channels = f.channels := rfl

@[simp] theorem output_boxes (f : Floor) (v : Fin 6) (o : Fin 5) (g : Output → Output) : (f.output v o g).boxes = f.boxes := rfl

@[simp] theorem output_arbiter (f : Floor) (v : Fin 6) (o : Fin 5) (g : Output → Output) : (f.output v o g).arbiter = f.arbiter := rfl

@[simp] theorem output_kilns (f : Floor) (v : Fin 6) (o : Fin 5) (g : Output → Output) : (f.output v o g).kilns = f.kilns := rfl

@[simp] theorem output_batches (f : Floor) (v : Fin 6) (o : Fin 5) (g : Output → Output) : (f.output v o g).batches = f.batches := rfl

@[simp] theorem output_register (f : Floor) (v : Fin 6) (o : Fin 5) (g : Output → Output) : (f.output v o g).register = f.register := rfl

@[simp] theorem output_acceptCount (f : Floor) (v : Fin 6) (o : Fin 5) (g : Output → Output) : (f.output v o g).acceptCount = f.acceptCount := rfl

@[simp] theorem output_freeCount (f : Floor) (v : Fin 6) (o : Fin 5) (g : Output → Output) : (f.output v o g).freeCount = f.freeCount := rfl

@[simp] theorem transfer_queue (f : Floor) (b : Fin 20) (g : Transfer → Transfer) : (f.transfer b g).queue = f.queue := rfl

@[simp] theorem transfer_eventSeq (f : Floor) (b : Fin 20) (g : Transfer → Transfer) : (f.transfer b g).eventSeq = f.eventSeq := rfl

@[simp] theorem transfer_vessels (f : Floor) (b : Fin 20) (g : Transfer → Transfer) : (f.transfer b g).vessels = f.vessels := rfl

@[simp] theorem transfer_channels (f : Floor) (b : Fin 20) (g : Transfer → Transfer) : (f.transfer b g).channels = f.channels := rfl

@[simp] theorem transfer_boxes (f : Floor) (b : Fin 20) (g : Transfer → Transfer) : (f.transfer b g).boxes = f.boxes := rfl

@[simp] theorem transfer_arbiter (f : Floor) (b : Fin 20) (g : Transfer → Transfer) : (f.transfer b g).arbiter = f.arbiter := rfl

@[simp] theorem transfer_kilns (f : Floor) (b : Fin 20) (g : Transfer → Transfer) : (f.transfer b g).kilns = f.kilns := rfl

@[simp] theorem transfer_batches (f : Floor) (b : Fin 20) (g : Transfer → Transfer) : (f.transfer b g).batches = upd f.batches b fun x => x.map fun x => { x with transfer := x.transfer.map g } := rfl

@[simp] theorem transfer_register (f : Floor) (b : Fin 20) (g : Transfer → Transfer) : (f.transfer b g).register = f.register := rfl

@[simp] theorem transfer_acceptCount (f : Floor) (b : Fin 20) (g : Transfer → Transfer) : (f.transfer b g).acceptCount = f.acceptCount := rfl

@[simp] theorem transfer_freeCount (f : Floor) (b : Fin 20) (g : Transfer → Transfer) : (f.transfer b g).freeCount = f.freeCount := rfl

@[simp] theorem updCtx_queue (f : Floor) (u : PlantUnit) (g : Ctx → Ctx) : (f.updCtx u g).queue = f.queue := by
  cases u <;> rfl

@[simp] theorem updCtx_eventSeq (f : Floor) (u : PlantUnit) (g : Ctx → Ctx) : (f.updCtx u g).eventSeq = f.eventSeq := by
  cases u <;> rfl

@[simp] theorem updCtx_channels (f : Floor) (u : PlantUnit) (g : Ctx → Ctx) : (f.updCtx u g).channels = f.channels := by
  cases u <;> rfl

@[simp] theorem updCtx_arbiter (f : Floor) (u : PlantUnit) (g : Ctx → Ctx) : (f.updCtx u g).arbiter = f.arbiter := by
  cases u <;> rfl

@[simp] theorem updCtx_batches (f : Floor) (u : PlantUnit) (g : Ctx → Ctx) : (f.updCtx u g).batches = f.batches := by
  cases u <;> rfl

@[simp] theorem updCtx_register (f : Floor) (u : PlantUnit) (g : Ctx → Ctx) : (f.updCtx u g).register = f.register := by
  cases u <;> rfl

@[simp] theorem updCtx_acceptCount (f : Floor) (u : PlantUnit) (g : Ctx → Ctx) : (f.updCtx u g).acceptCount = f.acceptCount := by
  cases u <;> rfl

@[simp] theorem updCtx_freeCount (f : Floor) (u : PlantUnit) (g : Ctx → Ctx) : (f.updCtx u g).freeCount = f.freeCount := by
  cases u <;> rfl

@[simp] theorem updCtx_vessel (f : Floor) (v : Fin 6) (g : Ctx → Ctx) :
    f.updCtx (.vessel v) g = f.vessel v fun x => { x with ctx := g x.ctx } := rfl

@[simp] theorem updCtx_box (f : Floor) (b : Fin 12) (g : Ctx → Ctx) :
    f.updCtx (.box b) g = f.box b fun x => { x with ctx := g x.ctx } := rfl

@[simp] theorem updCtx_kiln (f : Floor) (k : Fin 2) (g : Ctx → Ctx) :
    f.updCtx (.kiln k) g = f.kiln k fun x => { x with ctx := g x.ctx } := rfl

/-! ### Lists of operations -/

/-- A fold of operations that each keep a reading of the state keeps it. -/
theorem foldl_keeps {σ α β : Type} (p : σ → β) (op : σ → α → σ) (h : ∀ s a, p (op s a) = p s) (l : List α) (s : σ) :
    p (l.foldl op s) = p s := by
  induction l generalizing s with
  | nil => rfl
  | cons a r ih => rw [List.foldl_cons, ih, h]

/-- A fold of operations that each keep a property keeps it. -/
theorem foldl_inv {σ α : Type} (P : σ → Prop) (op : σ → α → σ) (h : ∀ s a, P s → P (op s a)) (l : List α) (s : σ) (hs : P s) :
    P (l.foldl op s) := by
  induction l generalizing s with
  | nil => exact hs
  | cons a r ih => exact ih _ (h s a hs)

end Sys2Proof.Machine
end

