-- ==== Sys2Proof/Laws/TurnFrames.lean ====
section
/-! SUPPORT. What each operation on the queue, the dosing channels, the boxes and the Turner Arbiter leaves as it was. -/

namespace Sys2Proof.Machine

/-! ### The insertion queue and events -/

@[simp] theorem offerCommand_frame (c : QCell) (f : Floor) :
    ((offerCommand c f).1).eventSeq = f.eventSeq ∧
      ((offerCommand c f).1).vessels = f.vessels ∧
      ((offerCommand c f).1).channels = f.channels ∧
      ((offerCommand c f).1).boxes = f.boxes ∧
      ((offerCommand c f).1).arbiter = f.arbiter ∧
      ((offerCommand c f).1).kilns = f.kilns ∧
      ((offerCommand c f).1).batches = f.batches ∧
      ((offerCommand c f).1).register = f.register ∧
      ((offerCommand c f).1).acceptCount = f.acceptCount ∧
      ((offerCommand c f).1).freeCount = f.freeCount := by simp [offerCommand]

@[simp] theorem offerTrip_frame (c : QCell) (f : Floor) :
    (offerTrip c f).eventSeq = f.eventSeq ∧
      (offerTrip c f).vessels = f.vessels ∧
      (offerTrip c f).channels = f.channels ∧
      (offerTrip c f).boxes = f.boxes ∧
      (offerTrip c f).arbiter = f.arbiter ∧
      (offerTrip c f).kilns = f.kilns ∧
      (offerTrip c f).batches = f.batches ∧
      (offerTrip c f).register = f.register ∧
      (offerTrip c f).acceptCount = f.acceptCount ∧
      (offerTrip c f).freeCount = f.freeCount := by simp [offerTrip]

@[simp] theorem offerReply_frame (e : Env) (dest func tag : Byte) (value : Int) (qual : Nat) (f : Floor) :
    (offerReply e dest func tag value qual f).eventSeq = f.eventSeq ∧
      (offerReply e dest func tag value qual f).vessels = f.vessels ∧
      (offerReply e dest func tag value qual f).channels = f.channels ∧
      (offerReply e dest func tag value qual f).boxes = f.boxes ∧
      (offerReply e dest func tag value qual f).arbiter = f.arbiter ∧
      (offerReply e dest func tag value qual f).kilns = f.kilns ∧
      (offerReply e dest func tag value qual f).batches = f.batches ∧
      (offerReply e dest func tag value qual f).register = f.register ∧
      (offerReply e dest func tag value qual f).acceptCount = f.acceptCount ∧
      (offerReply e dest func tag value qual f).freeCount = f.freeCount := by simp [offerReply]

@[simp] theorem raiseEvent_frame (e : Env) (code index : Nat) (param : Int) (f : Floor) :
    (raiseEvent e code index param f).vessels = f.vessels ∧
      (raiseEvent e code index param f).channels = f.channels ∧
      (raiseEvent e code index param f).boxes = f.boxes ∧
      (raiseEvent e code index param f).arbiter = f.arbiter ∧
      (raiseEvent e code index param f).kilns = f.kilns ∧
      (raiseEvent e code index param f).batches = f.batches ∧
      (raiseEvent e code index param f).register = f.register ∧
      (raiseEvent e code index param f).acceptCount = f.acceptCount ∧
      (raiseEvent e code index param f).freeCount = f.freeCount := by
  simp only [raiseEvent]
  (repeat' split) <;> simp

@[simp] theorem enterHeld_frame (e : Env) (u : PlantUnit) (r : HoldReason) (back : ResumeState) (f : Floor) :
    (enterHeld e u r back f).channels = f.channels ∧
      (enterHeld e u r back f).arbiter = f.arbiter ∧
      (enterHeld e u r back f).batches = f.batches ∧
      (enterHeld e u r back f).register = f.register ∧
      (enterHeld e u r back f).acceptCount = f.acceptCount ∧
      (enterHeld e u r back f).freeCount = f.freeCount := by simp [enterHeld]

@[simp] theorem enterGone_frame (e : Env) (u : PlantUnit) (item : Nat) (f : Floor) :
    (enterGone e u item f).channels = f.channels ∧
      (enterGone e u item f).arbiter = f.arbiter ∧
      (enterGone e u item f).batches = f.batches ∧
      (enterGone e u item f).register = f.register ∧
      (enterGone e u item f).acceptCount = f.acceptCount ∧
      (enterGone e u item f).freeCount = f.freeCount := by simp [enterGone]

/-- A hold changes the context of one unit only. -/
@[simp] theorem enterHeld_vessel (e : Env) (v : Fin 6) (r : HoldReason) (back : ResumeState) (f : Floor) :
    (enterHeld e (.vessel v) r back f).boxes = f.boxes ∧ (enterHeld e (.vessel v) r back f).kilns = f.kilns ∧
      (enterHeld e (.vessel v) r back f).vessels = upd f.vessels v fun x => { x with ctx := x.ctx.enterHeld r back } := by
  simp [enterHeld]

@[simp] theorem enterHeld_box (e : Env) (b : Fin 12) (r : HoldReason) (back : ResumeState) (f : Floor) :
    (enterHeld e (.box b) r back f).vessels = f.vessels ∧ (enterHeld e (.box b) r back f).kilns = f.kilns ∧
      (enterHeld e (.box b) r back f).boxes = upd f.boxes b fun x => { x with ctx := x.ctx.enterHeld r back } := by
  simp [enterHeld]

@[simp] theorem enterHeld_kiln (e : Env) (k : Fin 2) (r : HoldReason) (back : ResumeState) (f : Floor) :
    (enterHeld e (.kiln k) r back f).vessels = f.vessels ∧ (enterHeld e (.kiln k) r back f).boxes = f.boxes ∧
      (enterHeld e (.kiln k) r back f).kilns = upd f.kilns k fun x => { x with ctx := x.ctx.enterHeld r back } := by
  simp [enterHeld]

@[simp] theorem enterGone_units (e : Env) (i : Nat) (f : Floor) :
    (∀ v, (enterGone e (.vessel v) i f).boxes = f.boxes ∧ (enterGone e (.vessel v) i f).kilns = f.kilns) ∧
      (∀ b, (enterGone e (.box b) i f).vessels = f.vessels ∧ (enterGone e (.box b) i f).kilns = f.kilns) ∧
      ∀ k, (enterGone e (.kiln k) i f).vessels = f.vessels ∧ (enterGone e (.kiln k) i f).boxes = f.boxes := by
  simp [enterGone]

/-! ### Dosing channels -/

@[simp] theorem offerValve_frame (e : Env) (c : Fin 12) (f : Floor) :
    (offerValve e c f).eventSeq = f.eventSeq ∧
      (offerValve e c f).vessels = f.vessels ∧
      (offerValve e c f).boxes = f.boxes ∧
      (offerValve e c f).arbiter = f.arbiter ∧
      (offerValve e c f).kilns = f.kilns ∧
      (offerValve e c f).batches = f.batches ∧
      (offerValve e c f).register = f.register ∧
      (offerValve e c f).acceptCount = f.acceptCount ∧
      (offerValve e c f).freeCount = f.freeCount := by
  simp only [offerValve]
  (repeat' split) <;> simp

@[simp] theorem setValve_frame (e : Env) (c : Fin 12) (w : ValveDecision) (f : Floor) :
    (setValve e c w f).eventSeq = f.eventSeq ∧
      (setValve e c w f).vessels = f.vessels ∧
      (setValve e c w f).boxes = f.boxes ∧
      (setValve e c w f).arbiter = f.arbiter ∧
      (setValve e c w f).kilns = f.kilns ∧
      (setValve e c w f).batches = f.batches ∧
      (setValve e c w f).register = f.register ∧
      (setValve e c w f).acceptCount = f.acceptCount ∧
      (setValve e c w f).freeCount = f.freeCount := by
  simp only [setValve]
  (repeat' split) <;> simp

@[simp] theorem enterChannel_frame (e : Env) (c : Fin 12) (st : ChannelState) (f : Floor) :
    (enterChannel e c st f).eventSeq = f.eventSeq ∧
      (enterChannel e c st f).vessels = f.vessels ∧
      (enterChannel e c st f).boxes = f.boxes ∧
      (enterChannel e c st f).arbiter = f.arbiter ∧
      (enterChannel e c st f).kilns = f.kilns ∧
      (enterChannel e c st f).batches = f.batches ∧
      (enterChannel e c st f).register = f.register ∧
      (enterChannel e c st f).acceptCount = f.acceptCount ∧
      (enterChannel e c st f).freeCount = f.freeCount := by
  simp only [enterChannel]
  (repeat' split) <;> simp

@[simp] theorem tellDemand_frame (e : Env) (c : Fin 12) (d : Bool) (f : Floor) :
    (tellDemand e c d f).eventSeq = f.eventSeq ∧
      (tellDemand e c d f).vessels = f.vessels ∧
      (tellDemand e c d f).boxes = f.boxes ∧
      (tellDemand e c d f).arbiter = f.arbiter ∧
      (tellDemand e c d f).kilns = f.kilns ∧
      (tellDemand e c d f).batches = f.batches ∧
      (tellDemand e c d f).register = f.register ∧
      (tellDemand e c d f).acceptCount = f.acceptCount ∧
      (tellDemand e c d f).freeCount = f.freeCount := by
  simp only [tellDemand]
  (repeat' split) <;> simp

@[simp] theorem maskRule_frame (e : Env) (c : Fin 12) (f : Floor) :
    ((maskRule e c f).1).queue = f.queue ∧
      ((maskRule e c f).1).eventSeq = f.eventSeq ∧
      ((maskRule e c f).1).vessels = f.vessels ∧
      ((maskRule e c f).1).boxes = f.boxes ∧
      ((maskRule e c f).1).arbiter = f.arbiter ∧
      ((maskRule e c f).1).kilns = f.kilns ∧
      ((maskRule e c f).1).batches = f.batches ∧
      ((maskRule e c f).1).register = f.register ∧
      ((maskRule e c f).1).acceptCount = f.acceptCount ∧
      ((maskRule e c f).1).freeCount = f.freeCount := by
  simp only [maskRule]
  (repeat' split) <;> simp

@[simp] theorem openChannel_frame (e : Env) (c : Fin 12) (f : Floor) :
    (openChannel e c f).eventSeq = f.eventSeq ∧
      (openChannel e c f).vessels = f.vessels ∧
      (openChannel e c f).boxes = f.boxes ∧
      (openChannel e c f).arbiter = f.arbiter ∧
      (openChannel e c f).kilns = f.kilns ∧
      (openChannel e c f).batches = f.batches ∧
      (openChannel e c f).register = f.register ∧
      (openChannel e c f).acceptCount = f.acceptCount ∧
      (openChannel e c f).freeCount = f.freeCount := by
  simp only [openChannel]
  (repeat' split) <;> simp

@[simp] theorem beginDose_frame (e : Env) (c : Fin 12) (base : Nat) (f : Floor) :
    ((beginDose e c base f).1).eventSeq = f.eventSeq ∧
      ((beginDose e c base f).1).vessels = f.vessels ∧
      ((beginDose e c base f).1).boxes = f.boxes ∧
      ((beginDose e c base f).1).arbiter = f.arbiter ∧
      ((beginDose e c base f).1).kilns = f.kilns ∧
      ((beginDose e c base f).1).batches = f.batches ∧
      ((beginDose e c base f).1).register = f.register ∧
      ((beginDose e c base f).1).acceptCount = f.acceptCount ∧
      ((beginDose e c base f).1).freeCount = f.freeCount := by
  simp only [beginDose]
  (repeat' split) <;> simp

@[simp] theorem startChannel_frame (e : Env) (u : PlantUnit) (c : Fin 12) (q : Int) (f : Floor) :
    ((startChannel e u c q f).1).eventSeq = f.eventSeq ∧
      ((startChannel e u c q f).1).vessels = f.vessels ∧
      ((startChannel e u c q f).1).boxes = f.boxes ∧
      ((startChannel e u c q f).1).arbiter = f.arbiter ∧
      ((startChannel e u c q f).1).kilns = f.kilns ∧
      ((startChannel e u c q f).1).batches = f.batches ∧
      ((startChannel e u c q f).1).register = f.register ∧
      ((startChannel e u c q f).1).acceptCount = f.acceptCount ∧
      ((startChannel e u c q f).1).freeCount = f.freeCount := by
  simp only [startChannel]
  (repeat' split) <;> simp

@[simp] theorem continueChannel_frame (e : Env) (u : PlantUnit) (c : Fin 12) (f : Floor) :
    ((continueChannel e u c f).1).eventSeq = f.eventSeq ∧
      ((continueChannel e u c f).1).vessels = f.vessels ∧
      ((continueChannel e u c f).1).boxes = f.boxes ∧
      ((continueChannel e u c f).1).arbiter = f.arbiter ∧
      ((continueChannel e u c f).1).kilns = f.kilns ∧
      ((continueChannel e u c f).1).batches = f.batches ∧
      ((continueChannel e u c f).1).register = f.register ∧
      ((continueChannel e u c f).1).acceptCount = f.acceptCount ∧
      ((continueChannel e u c f).1).freeCount = f.freeCount := by
  simp only [continueChannel]
  (repeat' split) <;> simp

@[simp] theorem stopChannel_frame (e : Env) (c : Fin 12) (f : Floor) :
    (stopChannel e c f).eventSeq = f.eventSeq ∧
      (stopChannel e c f).vessels = f.vessels ∧
      (stopChannel e c f).boxes = f.boxes ∧
      (stopChannel e c f).arbiter = f.arbiter ∧
      (stopChannel e c f).kilns = f.kilns ∧
      (stopChannel e c f).batches = f.batches ∧
      (stopChannel e c f).register = f.register ∧
      (stopChannel e c f).acceptCount = f.acceptCount ∧
      (stopChannel e c f).freeCount = f.freeCount := by
  simp only [stopChannel]
  (repeat' split) <;> simp

@[simp] theorem stopUnitChannel_frame (e : Env) (u : PlantUnit) (f : Floor) :
    (stopUnitChannel e u f).eventSeq = f.eventSeq ∧
      (stopUnitChannel e u f).vessels = f.vessels ∧
      (stopUnitChannel e u f).boxes = f.boxes ∧
      (stopUnitChannel e u f).arbiter = f.arbiter ∧
      (stopUnitChannel e u f).kilns = f.kilns ∧
      (stopUnitChannel e u f).batches = f.batches ∧
      (stopUnitChannel e u f).register = f.register ∧
      (stopUnitChannel e u f).acceptCount = f.acceptCount ∧
      (stopUnitChannel e u f).freeCount = f.freeCount := by
  simp only [stopUnitChannel]
  (repeat' split) <;> simp

@[simp] theorem stopChannelsOf_frame (e : Env) (u : PlantUnit) (f : Floor) :
    (stopChannelsOf e u f).eventSeq = f.eventSeq ∧
      (stopChannelsOf e u f).vessels = f.vessels ∧
      (stopChannelsOf e u f).boxes = f.boxes ∧
      (stopChannelsOf e u f).arbiter = f.arbiter ∧
      (stopChannelsOf e u f).kilns = f.kilns ∧
      (stopChannelsOf e u f).batches = f.batches ∧
      (stopChannelsOf e u f).register = f.register ∧
      (stopChannelsOf e u f).acceptCount = f.acceptCount ∧
      (stopChannelsOf e u f).freeCount = f.freeCount := by
  refine ⟨?_, ?_, ?_, ?_, ?_, ?_, ?_, ?_, ?_⟩ <;> exact foldl_keeps _ _ (by simp) _ f

@[simp] theorem endDemandOf_frame (e : Env) (u : PlantUnit) (f : Floor) :
    (endDemandOf e u f).eventSeq = f.eventSeq ∧
      (endDemandOf e u f).vessels = f.vessels ∧
      (endDemandOf e u f).boxes = f.boxes ∧
      (endDemandOf e u f).arbiter = f.arbiter ∧
      (endDemandOf e u f).kilns = f.kilns ∧
      (endDemandOf e u f).batches = f.batches ∧
      (endDemandOf e u f).register = f.register ∧
      (endDemandOf e u f).acceptCount = f.acceptCount ∧
      (endDemandOf e u f).freeCount = f.freeCount := by
  refine ⟨?_, ?_, ?_, ?_, ?_, ?_, ?_, ?_, ?_⟩ <;> exact foldl_keeps _ _ (by simp) _ f

@[simp] theorem stopSpray_frame (e : Env) (b : Fin 12) (f : Floor) :
    (stopSpray e b f).eventSeq = f.eventSeq ∧
      (stopSpray e b f).vessels = f.vessels ∧
      (stopSpray e b f).boxes = f.boxes ∧
      (stopSpray e b f).arbiter = f.arbiter ∧
      (stopSpray e b f).kilns = f.kilns ∧
      (stopSpray e b f).batches = f.batches ∧
      (stopSpray e b f).register = f.register ∧
      (stopSpray e b f).acceptCount = f.acceptCount ∧
      (stopSpray e b f).freeCount = f.freeCount := by simp [stopSpray]

@[simp] theorem countFlow.uncommanded_frame (e : Env) (c : Fin 12) (d : Nat) (f : Floor) :
    (countFlow.uncommanded e c d f).vessels = f.vessels ∧
      (countFlow.uncommanded e c d f).boxes = f.boxes ∧
      (countFlow.uncommanded e c d f).arbiter = f.arbiter ∧
      (countFlow.uncommanded e c d f).kilns = f.kilns ∧
      (countFlow.uncommanded e c d f).batches = f.batches ∧
      (countFlow.uncommanded e c d f).register = f.register ∧
      (countFlow.uncommanded e c d f).acceptCount = f.acceptCount ∧
      (countFlow.uncommanded e c d f).freeCount = f.freeCount := by
  simp only [countFlow.uncommanded]
  (repeat' split) <;> simp

@[simp] theorem countFlow_frame (e : Env) (c : Fin 12) (d : Nat) (f : Floor) :
    ((countFlow e c d f).1).vessels = f.vessels ∧
      ((countFlow e c d f).1).boxes = f.boxes ∧
      ((countFlow e c d f).1).arbiter = f.arbiter ∧
      ((countFlow e c d f).1).kilns = f.kilns ∧
      ((countFlow e c d f).1).batches = f.batches ∧
      ((countFlow e c d f).1).register = f.register ∧
      ((countFlow e c d f).1).acceptCount = f.acceptCount ∧
      ((countFlow e c d f).1).freeCount = f.freeCount := by
  simp only [countFlow]
  (repeat' split) <;> simp

@[simp] theorem meterChannel_frame (e : Env) (c : Fin 12) (r : Nat) (f : Floor) :
    ((meterChannel e c r f).1).vessels = f.vessels ∧
      ((meterChannel e c r f).1).boxes = f.boxes ∧
      ((meterChannel e c r f).1).arbiter = f.arbiter ∧
      ((meterChannel e c r f).1).kilns = f.kilns ∧
      ((meterChannel e c r f).1).batches = f.batches ∧
      ((meterChannel e c r f).1).register = f.register ∧
      ((meterChannel e c r f).1).acceptCount = f.acceptCount ∧
      ((meterChannel e c r f).1).freeCount = f.freeCount := by
  simp only [meterChannel]
  (repeat' split) <;> simp

/-! ### Fans of the boxes -/

@[simp] theorem offerFan_frame (e : Env) (b : Fin 12) (f : Floor) :
    (offerFan e b f).eventSeq = f.eventSeq ∧
      (offerFan e b f).vessels = f.vessels ∧
      (offerFan e b f).channels = f.channels ∧
      (offerFan e b f).arbiter = f.arbiter ∧
      (offerFan e b f).kilns = f.kilns ∧
      (offerFan e b f).batches = f.batches ∧
      (offerFan e b f).register = f.register ∧
      (offerFan e b f).acceptCount = f.acceptCount ∧
      (offerFan e b f).freeCount = f.freeCount := by
  simp only [offerFan]
  (repeat' split) <;> simp

@[simp] theorem decideFan_frame (e : Env) (b : Fin 12) (v : Int) (f : Floor) :
    (decideFan e b v f).eventSeq = f.eventSeq ∧
      (decideFan e b v f).vessels = f.vessels ∧
      (decideFan e b v f).channels = f.channels ∧
      (decideFan e b v f).arbiter = f.arbiter ∧
      (decideFan e b v f).kilns = f.kilns ∧
      (decideFan e b v f).batches = f.batches ∧
      (decideFan e b v f).register = f.register ∧
      (decideFan e b v f).acceptCount = f.acceptCount ∧
      (decideFan e b v f).freeCount = f.freeCount := by
  simp only [decideFan]
  (repeat' split) <;> simp

@[simp] theorem boxRound_frame (e : Env) (b : Fin 12) (f : Floor) :
    (boxRound e b f).eventSeq = f.eventSeq ∧
      (boxRound e b f).vessels = f.vessels ∧
      (boxRound e b f).channels = f.channels ∧
      (boxRound e b f).arbiter = f.arbiter ∧
      (boxRound e b f).kilns = f.kilns ∧
      (boxRound e b f).batches = f.batches ∧
      (boxRound e b f).register = f.register ∧
      (boxRound e b f).acceptCount = f.acceptCount := by
  simp only [boxRound]
  (repeat' split) <;> simp

@[simp] theorem reofferFan_frame (e : Env) (b : Fin 12) (f : Floor) :
    (reofferFan e b f).eventSeq = f.eventSeq ∧
      (reofferFan e b f).vessels = f.vessels ∧
      (reofferFan e b f).channels = f.channels ∧
      (reofferFan e b f).arbiter = f.arbiter ∧
      (reofferFan e b f).kilns = f.kilns ∧
      (reofferFan e b f).batches = f.batches ∧
      (reofferFan e b f).register = f.register ∧
      (reofferFan e b f).acceptCount = f.acceptCount ∧
      (reofferFan e b f).freeCount = f.freeCount := by
  simp only [reofferFan]
  (repeat' split) <;> simp

/-! ### The Turner Arbiter -/

@[simp] theorem dropRequest_frame (b : Fin 12) (f : Floor) :
    (dropRequest b f).queue = f.queue ∧
      (dropRequest b f).eventSeq = f.eventSeq ∧
      (dropRequest b f).vessels = f.vessels ∧
      (dropRequest b f).channels = f.channels ∧
      (dropRequest b f).boxes = f.boxes ∧
      (dropRequest b f).kilns = f.kilns ∧
      (dropRequest b f).batches = f.batches ∧
      (dropRequest b f).register = f.register ∧
      (dropRequest b f).acceptCount = f.acceptCount ∧
      (dropRequest b f).freeCount = f.freeCount := by
  simp only [dropRequest]
  (repeat' split) <;> simp

@[simp] theorem offerTurner_frame (e : Env) (cs : List TurnerCommand) (f : Floor) :
    (offerTurner e cs f).eventSeq = f.eventSeq ∧
      (offerTurner e cs f).vessels = f.vessels ∧
      (offerTurner e cs f).channels = f.channels ∧
      (offerTurner e cs f).boxes = f.boxes ∧
      (offerTurner e cs f).kilns = f.kilns ∧
      (offerTurner e cs f).batches = f.batches ∧
      (offerTurner e cs f).register = f.register ∧
      (offerTurner e cs f).acceptCount = f.acceptCount ∧
      (offerTurner e cs f).freeCount = f.freeCount := by
  induction cs generalizing f with
  | nil => simp [offerTurner]
  | cons c r ih =>
    simp only [offerTurner]
    split
    · simp [ih]
    · simp

@[simp] theorem turnerStep_frame (e : Env) (cs : List TurnerCommand) (f : Floor) :
    (turnerStep e cs f).eventSeq = f.eventSeq ∧
      (turnerStep e cs f).vessels = f.vessels ∧
      (turnerStep e cs f).channels = f.channels ∧
      (turnerStep e cs f).boxes = f.boxes ∧
      (turnerStep e cs f).kilns = f.kilns ∧
      (turnerStep e cs f).batches = f.batches ∧
      (turnerStep e cs f).register = f.register ∧
      (turnerStep e cs f).acceptCount = f.acceptCount ∧
      (turnerStep e cs f).freeCount = f.freeCount := by
  simp only [turnerStep]
  (repeat' split) <;> simp

@[simp] theorem turnerNext_frame (e : Env) (c : TurnerCommand) (f : Floor) :
    (turnerNext e c f).eventSeq = f.eventSeq ∧
      (turnerNext e c f).vessels = f.vessels ∧
      (turnerNext e c f).channels = f.channels ∧
      (turnerNext e c f).boxes = f.boxes ∧
      (turnerNext e c f).kilns = f.kilns ∧
      (turnerNext e c f).batches = f.batches ∧
      (turnerNext e c f).register = f.register ∧
      (turnerNext e c f).acceptCount = f.acceptCount ∧
      (turnerNext e c f).freeCount = f.freeCount := by
  simp only [turnerNext]
  (repeat' split) <;> simp

@[simp] theorem turnerStop_frame (e : Env)  (f : Floor) :
    (turnerStop e f).eventSeq = f.eventSeq ∧
      (turnerStop e f).vessels = f.vessels ∧
      (turnerStop e f).channels = f.channels ∧
      (turnerStop e f).boxes = f.boxes ∧
      (turnerStop e f).kilns = f.kilns ∧
      (turnerStop e f).batches = f.batches ∧
      (turnerStop e f).register = f.register ∧
      (turnerStop e f).acceptCount = f.acceptCount ∧
      (turnerStop e f).freeCount = f.freeCount := by simp [turnerStop]

@[simp] theorem reofferTurner_frame (e : Env)  (f : Floor) :
    (reofferTurner e f).eventSeq = f.eventSeq ∧
      (reofferTurner e f).vessels = f.vessels ∧
      (reofferTurner e f).channels = f.channels ∧
      (reofferTurner e f).boxes = f.boxes ∧
      (reofferTurner e f).kilns = f.kilns ∧
      (reofferTurner e f).batches = f.batches ∧
      (reofferTurner e f).register = f.register ∧
      (reofferTurner e f).acceptCount = f.acceptCount ∧
      (reofferTurner e f).freeCount = f.freeCount := by
  simp only [reofferTurner]
  (repeat' split) <;> simp

@[simp] theorem enterDispatched_frame (e : Env) (b : Fin 12) (f : Floor) :
    (enterDispatched e b f).eventSeq = f.eventSeq ∧
      (enterDispatched e b f).vessels = f.vessels ∧
      (enterDispatched e b f).channels = f.channels ∧
      (enterDispatched e b f).boxes = f.boxes ∧
      (enterDispatched e b f).kilns = f.kilns ∧
      (enterDispatched e b f).batches = f.batches ∧
      (enterDispatched e b f).register = f.register ∧
      (enterDispatched e b f).acceptCount = f.acceptCount ∧
      (enterDispatched e b f).freeCount = f.freeCount := by simp [enterDispatched]

@[simp] theorem fanTest_frame (e : Env)  (f : Floor) :
    (fanTest e f).eventSeq = f.eventSeq ∧
      (fanTest e f).vessels = f.vessels ∧
      (fanTest e f).channels = f.channels ∧
      (fanTest e f).boxes = f.boxes ∧
      (fanTest e f).kilns = f.kilns ∧
      (fanTest e f).batches = f.batches ∧
      (fanTest e f).register = f.register ∧
      (fanTest e f).acceptCount = f.acceptCount ∧
      (fanTest e f).freeCount = f.freeCount := by
  simp only [fanTest]
  (repeat' split) <;> simp

@[simp] theorem enterPreparing_frame (e : Env) (b : Fin 12) (f : Floor) :
    (enterPreparing e b f).eventSeq = f.eventSeq ∧
      (enterPreparing e b f).vessels = f.vessels ∧
      (enterPreparing e b f).channels = f.channels ∧
      (enterPreparing e b f).kilns = f.kilns ∧
      (enterPreparing e b f).batches = f.batches ∧
      (enterPreparing e b f).register = f.register ∧
      (enterPreparing e b f).acceptCount = f.acceptCount := by simp [enterPreparing]

@[simp] theorem grantDecision_frame (e : Env)  (f : Floor) :
    (grantDecision e f).eventSeq = f.eventSeq ∧
      (grantDecision e f).vessels = f.vessels ∧
      (grantDecision e f).channels = f.channels ∧
      (grantDecision e f).kilns = f.kilns ∧
      (grantDecision e f).batches = f.batches ∧
      (grantDecision e f).register = f.register ∧
      (grantDecision e f).acceptCount = f.acceptCount := by
  simp only [grantDecision]
  (repeat' split) <;> simp

@[simp] theorem enterIdle_frame (e : Env)  (f : Floor) :
    (enterIdle e f).eventSeq = f.eventSeq ∧
      (enterIdle e f).vessels = f.vessels ∧
      (enterIdle e f).channels = f.channels ∧
      (enterIdle e f).kilns = f.kilns ∧
      (enterIdle e f).batches = f.batches ∧
      (enterIdle e f).register = f.register ∧
      (enterIdle e f).acceptCount = f.acceptCount := by simp [enterIdle]

@[simp] theorem withdraw_frame (e : Env) (b : Fin 12) (f : Floor) :
    (withdraw e b f).eventSeq = f.eventSeq ∧
      (withdraw e b f).vessels = f.vessels ∧
      (withdraw e b f).boxes = f.boxes ∧
      (withdraw e b f).kilns = f.kilns ∧
      (withdraw e b f).batches = f.batches ∧
      (withdraw e b f).register = f.register ∧
      (withdraw e b f).acceptCount = f.acceptCount ∧
      (withdraw e b f).freeCount = f.freeCount := by
  simp only [withdraw]
  (repeat' split) <;> simp

@[simp] theorem afterFault_frame (e : Env)  (f : Floor) :
    (afterFault e f).vessels = f.vessels ∧
      (afterFault e f).channels = f.channels ∧
      (afterFault e f).kilns = f.kilns ∧
      (afterFault e f).batches = f.batches ∧
      (afterFault e f).register = f.register ∧
      (afterFault e f).acceptCount = f.acceptCount := by
  simp only [afterFault]
  (repeat' split) <;> simp

@[simp] theorem releaseTurn_frame (e : Env)  (f : Floor) :
    (releaseTurn e f).vessels = f.vessels ∧
      (releaseTurn e f).kilns = f.kilns ∧
      (releaseTurn e f).batches = f.batches ∧
      (releaseTurn e f).register = f.register ∧
      (releaseTurn e f).acceptCount = f.acceptCount := by
  simp only [releaseTurn]
  (repeat' split) <;> simp

@[simp] theorem trailExpired_frame (e : Env) (b c : Fin 12) (f : Floor) :
    (trailExpired e b c f).vessels = f.vessels ∧
      (trailExpired e b c f).kilns = f.kilns ∧
      (trailExpired e b c f).batches = f.batches ∧
      (trailExpired e b c f).register = f.register ∧
      (trailExpired e b c f).acceptCount = f.acceptCount := by simp [trailExpired]

@[simp] theorem enterReleasing_frame (e : Env) (r : TurnResult) (f : Floor) :
    (enterReleasing e r f).vessels = f.vessels ∧
      (enterReleasing e r f).kilns = f.kilns ∧
      (enterReleasing e r f).batches = f.batches ∧
      (enterReleasing e r f).register = f.register ∧
      (enterReleasing e r f).acceptCount = f.acceptCount := by
  simp only [enterReleasing]
  (repeat' split) <;> simp

@[simp] theorem enterTurning_frame (e : Env) (b : Fin 12) (f : Floor) :
    (enterTurning e b f).vessels = f.vessels ∧
      (enterTurning e b f).boxes = f.boxes ∧
      (enterTurning e b f).kilns = f.kilns ∧
      (enterTurning e b f).batches = f.batches ∧
      (enterTurning e b f).register = f.register ∧
      (enterTurning e b f).acceptCount = f.acceptCount ∧
      (enterTurning e b f).freeCount = f.freeCount := by
  simp only [enterTurning]
  (repeat' split) <;> simp

@[simp] theorem turningTest_frame (e : Env)  (f : Floor) :
    (turningTest e f).vessels = f.vessels ∧
      (turningTest e f).boxes = f.boxes ∧
      (turningTest e f).kilns = f.kilns ∧
      (turningTest e f).batches = f.batches ∧
      (turningTest e f).register = f.register ∧
      (turningTest e f).acceptCount = f.acceptCount ∧
      (turningTest e f).freeCount = f.freeCount := by
  simp only [turningTest]
  (repeat' split) <;> simp

@[simp] theorem finishTest_frame (e : Env)  (f : Floor) :
    (finishTest e f).vessels = f.vessels ∧
      (finishTest e f).kilns = f.kilns ∧
      (finishTest e f).batches = f.batches ∧
      (finishTest e f).register = f.register ∧
      (finishTest e f).acceptCount = f.acceptCount := by
  simp only [finishTest]
  (repeat' split) <;> simp

@[simp] theorem releaseTest_frame (e : Env)  (f : Floor) :
    (releaseTest e f).vessels = f.vessels ∧
      (releaseTest e f).kilns = f.kilns ∧
      (releaseTest e f).batches = f.batches ∧
      (releaseTest e f).register = f.register ∧
      (releaseTest e f).acceptCount = f.acceptCount := by
  simp only [releaseTest]
  (repeat' split) <;> simp

@[simp] theorem sprayReport_frame (e : Env) (b : Fin 12) (f : Floor) :
    (sprayReport e b f).vessels = f.vessels ∧
      (sprayReport e b f).kilns = f.kilns ∧
      (sprayReport e b f).batches = f.batches ∧
      (sprayReport e b f).register = f.register ∧
      (sprayReport e b f).acceptCount = f.acceptCount := by
  simp only [sprayReport]
  (repeat' split) <;> simp

@[simp] theorem prepTimeout_frame (e : Env)  (f : Floor) :
    (prepTimeout e f).vessels = f.vessels ∧
      (prepTimeout e f).kilns = f.kilns ∧
      (prepTimeout e f).batches = f.batches ∧
      (prepTimeout e f).register = f.register ∧
      (prepTimeout e f).acceptCount = f.acceptCount := by
  simp only [prepTimeout]
  (repeat' split) <;> simp

@[simp] theorem startTimeout_frame (e : Env)  (f : Floor) :
    (startTimeout e f).vessels = f.vessels ∧
      (startTimeout e f).kilns = f.kilns ∧
      (startTimeout e f).batches = f.batches ∧
      (startTimeout e f).register = f.register ∧
      (startTimeout e f).acceptCount = f.acceptCount := by
  simp only [startTimeout]
  (repeat' split) <;> simp

@[simp] theorem turnOverrun_frame (e : Env)  (f : Floor) :
    (turnOverrun e f).vessels = f.vessels ∧
      (turnOverrun e f).kilns = f.kilns ∧
      (turnOverrun e f).batches = f.batches ∧
      (turnOverrun e f).register = f.register ∧
      (turnOverrun e f).acceptCount = f.acceptCount := by
  simp only [turnOverrun]
  (repeat' split) <;> simp

@[simp] theorem sprayTrailExpiry_frame (e : Env)  (f : Floor) :
    (sprayTrailExpiry e f).vessels = f.vessels ∧
      (sprayTrailExpiry e f).kilns = f.kilns ∧
      (sprayTrailExpiry e f).batches = f.batches ∧
      (sprayTrailExpiry e f).register = f.register ∧
      (sprayTrailExpiry e f).acceptCount = f.acceptCount := by
  simp only [sprayTrailExpiry]
  (repeat' split) <;> simp

@[simp] theorem turnerFault_frame (e : Env) (v : Int) (f : Floor) :
    (turnerFault e v f).vessels = f.vessels ∧
      (turnerFault e v f).kilns = f.kilns ∧
      (turnerFault e v f).batches = f.batches ∧
      (turnerFault e v f).register = f.register ∧
      (turnerFault e v f).acceptCount = f.acceptCount := by
  simp only [turnerFault]
  (repeat' split) <;> simp

@[simp] theorem boxLeaves_frame (e : Env) (b : Fin 12) (f : Floor) :
    (boxLeaves e b f).vessels = f.vessels ∧
      (boxLeaves e b f).kilns = f.kilns ∧
      (boxLeaves e b f).batches = f.batches ∧
      (boxLeaves e b f).register = f.register ∧
      (boxLeaves e b f).acceptCount = f.acceptCount := by
  simp only [boxLeaves]
  (repeat' split) <;> simp

@[simp] theorem turnerEnable_frame (e : Env)  (f : Floor) :
    (turnerEnable e f).eventSeq = f.eventSeq ∧
      (turnerEnable e f).vessels = f.vessels ∧
      (turnerEnable e f).channels = f.channels ∧
      (turnerEnable e f).kilns = f.kilns ∧
      (turnerEnable e f).batches = f.batches ∧
      (turnerEnable e f).register = f.register ∧
      (turnerEnable e f).acceptCount = f.acceptCount := by
  simp only [turnerEnable]
  (repeat' split) <;> simp

@[simp] theorem parkingTest_frame (e : Env)  (f : Floor) :
    (parkingTest e f).eventSeq = f.eventSeq ∧
      (parkingTest e f).vessels = f.vessels ∧
      (parkingTest e f).channels = f.channels ∧
      (parkingTest e f).kilns = f.kilns ∧
      (parkingTest e f).batches = f.batches ∧
      (parkingTest e f).register = f.register ∧
      (parkingTest e f).acceptCount = f.acceptCount := by
  simp only [parkingTest]
  (repeat' split) <;> simp

@[simp] theorem parkingSecond_frame (e : Env)  (f : Floor) :
    (parkingSecond e f).queue = f.queue ∧
      (parkingSecond e f).eventSeq = f.eventSeq ∧
      (parkingSecond e f).vessels = f.vessels ∧
      (parkingSecond e f).channels = f.channels ∧
      (parkingSecond e f).boxes = f.boxes ∧
      (parkingSecond e f).kilns = f.kilns ∧
      (parkingSecond e f).batches = f.batches ∧
      (parkingSecond e f).register = f.register ∧
      (parkingSecond e f).acceptCount = f.acceptCount ∧
      (parkingSecond e f).freeCount = f.freeCount := by
  simp only [parkingSecond]
  (repeat' split) <;> simp

@[simp] theorem parkDelayExpiry_frame (e : Env)  (f : Floor) :
    (parkDelayExpiry e f).eventSeq = f.eventSeq ∧
      (parkDelayExpiry e f).vessels = f.vessels ∧
      (parkDelayExpiry e f).channels = f.channels ∧
      (parkDelayExpiry e f).boxes = f.boxes ∧
      (parkDelayExpiry e f).kilns = f.kilns ∧
      (parkDelayExpiry e f).batches = f.batches ∧
      (parkDelayExpiry e f).register = f.register ∧
      (parkDelayExpiry e f).acceptCount = f.acceptCount ∧
      (parkDelayExpiry e f).freeCount = f.freeCount := by
  simp only [parkDelayExpiry]
  (repeat' split) <;> simp

@[simp] theorem arbiterSample_frame (e : Env) (p : Nat) (f : Floor) :
    (arbiterSample e p f).vessels = f.vessels ∧
      (arbiterSample e p f).kilns = f.kilns ∧
      (arbiterSample e p f).batches = f.batches ∧
      (arbiterSample e p f).register = f.register ∧
      (arbiterSample e p f).acceptCount = f.acceptCount := by
  simp only [arbiterSample]
  (repeat' split) <;> simp

@[simp] theorem arbiterQuality_frame (e : Env) (p : Nat) (st : Bool) (f : Floor) :
    (arbiterQuality e p st f).vessels = f.vessels ∧
      (arbiterQuality e p st f).kilns = f.kilns ∧
      (arbiterQuality e p st f).batches = f.batches ∧
      (arbiterQuality e p st f).register = f.register ∧
      (arbiterQuality e p st f).acceptCount = f.acceptCount := by
  simp only [arbiterQuality]
  (repeat' split) <;> simp

@[simp] theorem restartArbiter_frame (e : Env)  (f : Floor) :
    (restartArbiter e f).eventSeq = f.eventSeq ∧
      (restartArbiter e f).vessels = f.vessels ∧
      (restartArbiter e f).boxes = f.boxes ∧
      (restartArbiter e f).kilns = f.kilns ∧
      (restartArbiter e f).batches = f.batches ∧
      (restartArbiter e f).register = f.register ∧
      (restartArbiter e f).acceptCount = f.acceptCount ∧
      (restartArbiter e f).freeCount = f.freeCount := by
  simp only [restartArbiter]
  (repeat' split) <;> simp

/-! ### Germination boxes -/

@[simp] theorem holdBox_frame (e : Env) (b : Fin 12) (r : HoldReason) (f : Floor) :
    (holdBox e b r f).vessels = f.vessels ∧
      (holdBox e b r f).kilns = f.kilns ∧
      (holdBox e b r f).batches = f.batches ∧
      (holdBox e b r f).register = f.register ∧
      (holdBox e b r f).acceptCount = f.acceptCount := by simp [holdBox]

@[simp] theorem bedLost_frame (e : Env) (b : Fin 12) (f : Floor) :
    (bedLost e b f).vessels = f.vessels ∧
      (bedLost e b f).kilns = f.kilns ∧
      (bedLost e b f).batches = f.batches ∧
      (bedLost e b f).register = f.register ∧
      (bedLost e b f).acceptCount = f.acceptCount := by
  simp only [bedLost]
  (repeat' split) <;> simp

@[simp] theorem boxQuality_frame (e : Env) (p : Nat) (b : Fin 12) (f : Floor) :
    (boxQuality e p b f).vessels = f.vessels ∧
      (boxQuality e p b f).kilns = f.kilns ∧
      (boxQuality e p b f).batches = f.batches ∧
      (boxQuality e p b f).register = f.register ∧
      (boxQuality e p b f).acceptCount = f.acceptCount := by
  simp only [boxQuality]
  (repeat' split) <;> simp

@[simp] theorem urgentTest_frame (e : Env) (b : Fin 12) (f : Floor) :
    (urgentTest e b f).eventSeq = f.eventSeq ∧
      (urgentTest e b f).vessels = f.vessels ∧
      (urgentTest e b f).channels = f.channels ∧
      (urgentTest e b f).kilns = f.kilns ∧
      (urgentTest e b f).batches = f.batches ∧
      (urgentTest e b f).register = f.register ∧
      (urgentTest e b f).acceptCount = f.acceptCount := by
  simp only [urgentTest]
  (repeat' split) <;> simp

@[simp] theorem turnIntervalReached_frame (e : Env) (b : Fin 12) (f : Floor) :
    (turnIntervalReached e b f).eventSeq = f.eventSeq ∧
      (turnIntervalReached e b f).vessels = f.vessels ∧
      (turnIntervalReached e b f).channels = f.channels ∧
      (turnIntervalReached e b f).kilns = f.kilns ∧
      (turnIntervalReached e b f).batches = f.batches ∧
      (turnIntervalReached e b f).register = f.register ∧
      (turnIntervalReached e b f).acceptCount = f.acceptCount := by
  simp only [turnIntervalReached]
  (repeat' split) <;> simp

@[simp] theorem boxEvaluate_frame (e : Env) (b : Fin 12) (f : Floor) :
    (boxEvaluate e b f).vessels = f.vessels ∧
      (boxEvaluate e b f).kilns = f.kilns ∧
      (boxEvaluate e b f).batches = f.batches ∧
      (boxEvaluate e b f).register = f.register ∧
      (boxEvaluate e b f).acceptCount = f.acceptCount := by
  simp only [boxEvaluate]
  (repeat' split) <;> simp

@[simp] theorem enterDay_frame (e : Env) (b : Fin 12) (p : Position) (f : Floor) :
    (enterDay e b p f).eventSeq = f.eventSeq ∧
      (enterDay e b p f).vessels = f.vessels ∧
      (enterDay e b p f).channels = f.channels ∧
      (enterDay e b p f).kilns = f.kilns ∧
      (enterDay e b p f).batches = f.batches ∧
      (enterDay e b p f).register = f.register ∧
      (enterDay e b p f).acceptCount = f.acceptCount := by
  simp only [enterDay]
  (repeat' split) <;> simp

@[simp] theorem dayEnded_frame (e : Env) (b : Fin 12) (f : Floor) :
    (dayEnded e b f).vessels = f.vessels ∧
      (dayEnded e b f).kilns = f.kilns ∧
      (dayEnded e b f).batches = f.batches ∧
      (dayEnded e b f).register = f.register ∧
      (dayEnded e b f).acceptCount = f.acceptCount := by
  simp only [dayEnded]
  (repeat' split) <;> simp

@[simp] theorem startBox_frame (e : Env) (b : Fin 12) (p : Nat) (f : Floor) :
    (startBox e b p f).eventSeq = f.eventSeq ∧
      (startBox e b p f).vessels = f.vessels ∧
      (startBox e b p f).channels = f.channels ∧
      (startBox e b p f).arbiter = f.arbiter ∧
      (startBox e b p f).kilns = f.kilns ∧
      (startBox e b p f).batches = f.batches ∧
      (startBox e b p f).register = f.register ∧
      (startBox e b p f).acceptCount = f.acceptCount := by simp [startBox]

@[simp] theorem boxRunsAgain_frame (e : Env) (b : Fin 12) (f : Floor) :
    (boxRunsAgain e b f).eventSeq = f.eventSeq ∧
      (boxRunsAgain e b f).vessels = f.vessels ∧
      (boxRunsAgain e b f).channels = f.channels ∧
      (boxRunsAgain e b f).kilns = f.kilns ∧
      (boxRunsAgain e b f).batches = f.batches ∧
      (boxRunsAgain e b f).register = f.register ∧
      (boxRunsAgain e b f).acceptCount = f.acceptCount := by
  simp only [boxRunsAgain]
  (repeat' split) <;> simp

@[simp] theorem boxFetches_frame (e : Env) (b : Fin 12) (p : Position) (f : Floor) :
    (boxFetches e b p f).eventSeq = f.eventSeq ∧
      (boxFetches e b p f).vessels = f.vessels ∧
      (boxFetches e b p f).channels = f.channels ∧
      (boxFetches e b p f).kilns = f.kilns ∧
      (boxFetches e b p f).batches = f.batches ∧
      (boxFetches e b p f).register = f.register ∧
      (boxFetches e b p f).acceptCount = f.acceptCount := by
  simp only [boxFetches]
  (repeat' split) <;> simp

@[simp] theorem boxManual_frame (e : Env) (b : Fin 12) (f : Floor) :
    (boxManual e b f).vessels = f.vessels ∧
      (boxManual e b f).kilns = f.kilns ∧
      (boxManual e b f).batches = f.batches ∧
      (boxManual e b f).register = f.register ∧
      (boxManual e b f).acceptCount = f.acceptCount := by simp [boxManual]

@[simp] theorem boxStopped_frame (e : Env) (b : Fin 12) (d : Option (List Int)) (f : Floor) :
    (boxStopped e b d f).vessels = f.vessels ∧
      (boxStopped e b d f).kilns = f.kilns ∧
      (boxStopped e b d f).batches = f.batches ∧
      (boxStopped e b d f).register = f.register ∧
      (boxStopped e b d f).acceptCount = f.acceptCount := by
  simp only [boxStopped]
  (repeat' split) <;> simp

@[simp] theorem boxEmptied_frame (e : Env) (b : Fin 12) (f : Floor) :
    (boxEmptied e b f).eventSeq = f.eventSeq ∧
      (boxEmptied e b f).vessels = f.vessels ∧
      (boxEmptied e b f).channels = f.channels ∧
      (boxEmptied e b f).kilns = f.kilns ∧
      (boxEmptied e b f).batches = f.batches ∧
      (boxEmptied e b f).register = f.register ∧
      (boxEmptied e b f).acceptCount = f.acceptCount ∧
      (boxEmptied e b f).freeCount = f.freeCount := by simp [boxEmptied]

end Sys2Proof.Machine
end

