-- ==== Sys2Proof/Laws/UnitFrames.lean ====
section
/-! SUPPORT. What each operation on the kilns and the steep vessels leaves as it was. -/

namespace Sys2Proof.Machine

/-! ### Kilns -/

@[simp] theorem offerKiln_frame (e : Env) (k : Fin 2) (o : KilnOutput) (f : Floor) :
    (offerKiln e k o f).eventSeq = f.eventSeq ∧
      (offerKiln e k o f).vessels = f.vessels ∧
      (offerKiln e k o f).channels = f.channels ∧
      (offerKiln e k o f).boxes = f.boxes ∧
      (offerKiln e k o f).arbiter = f.arbiter ∧
      (offerKiln e k o f).batches = f.batches ∧
      (offerKiln e k o f).register = f.register ∧
      (offerKiln e k o f).acceptCount = f.acceptCount ∧
      (offerKiln e k o f).freeCount = f.freeCount := by
  simp only [offerKiln]
  (repeat' split) <;> simp

@[simp] theorem sendKiln_frame (e : Env) (k : Fin 2) (o : KilnOutput) (v : Int) (f : Floor) :
    (sendKiln e k o v f).eventSeq = f.eventSeq ∧
      (sendKiln e k o v f).vessels = f.vessels ∧
      (sendKiln e k o v f).channels = f.channels ∧
      (sendKiln e k o v f).boxes = f.boxes ∧
      (sendKiln e k o v f).arbiter = f.arbiter ∧
      (sendKiln e k o v f).batches = f.batches ∧
      (sendKiln e k o v f).register = f.register ∧
      (sendKiln e k o v f).acceptCount = f.acceptCount ∧
      (sendKiln e k o v f).freeCount = f.freeCount := by simp [sendKiln]

@[simp] theorem decideKiln_frame (e : Env) (k : Fin 2) (o : KilnOutput) (v : Int) (f : Floor) :
    (decideKiln e k o v f).eventSeq = f.eventSeq ∧
      (decideKiln e k o v f).vessels = f.vessels ∧
      (decideKiln e k o v f).channels = f.channels ∧
      (decideKiln e k o v f).boxes = f.boxes ∧
      (decideKiln e k o v f).arbiter = f.arbiter ∧
      (decideKiln e k o v f).batches = f.batches ∧
      (decideKiln e k o v f).register = f.register ∧
      (decideKiln e k o v f).acceptCount = f.acceptCount ∧
      (decideKiln e k o v f).freeCount = f.freeCount := by
  simp only [decideKiln]
  (repeat' split) <;> simp

@[simp] theorem decideBoth_frame (e : Env) (k : Fin 2) (s n : Int) (f : Floor) :
    (decideBoth e k s n f).eventSeq = f.eventSeq ∧
      (decideBoth e k s n f).vessels = f.vessels ∧
      (decideBoth e k s n f).channels = f.channels ∧
      (decideBoth e k s n f).boxes = f.boxes ∧
      (decideBoth e k s n f).arbiter = f.arbiter ∧
      (decideBoth e k s n f).batches = f.batches ∧
      (decideBoth e k s n f).register = f.register ∧
      (decideBoth e k s n f).acceptCount = f.acceptCount ∧
      (decideBoth e k s n f).freeCount = f.freeCount := by simp [decideBoth]

@[simp] theorem reofferRecord_frame (e : Env) (k : Fin 2) (o : KilnOutput) (f : Floor) :
    (reofferRecord e k o f).eventSeq = f.eventSeq ∧
      (reofferRecord e k o f).vessels = f.vessels ∧
      (reofferRecord e k o f).channels = f.channels ∧
      (reofferRecord e k o f).boxes = f.boxes ∧
      (reofferRecord e k o f).arbiter = f.arbiter ∧
      (reofferRecord e k o f).batches = f.batches ∧
      (reofferRecord e k o f).register = f.register ∧
      (reofferRecord e k o f).acceptCount = f.acceptCount ∧
      (reofferRecord e k o f).freeCount = f.freeCount := by
  simp only [reofferRecord]
  (repeat' split) <;> simp

@[simp] theorem reofferKiln_frame (e : Env) (k : Fin 2) (f : Floor) :
    (reofferKiln e k f).eventSeq = f.eventSeq ∧
      (reofferKiln e k f).vessels = f.vessels ∧
      (reofferKiln e k f).channels = f.channels ∧
      (reofferKiln e k f).boxes = f.boxes ∧
      (reofferKiln e k f).arbiter = f.arbiter ∧
      (reofferKiln e k f).batches = f.batches ∧
      (reofferKiln e k f).register = f.register ∧
      (reofferKiln e k f).acceptCount = f.acceptCount ∧
      (reofferKiln e k f).freeCount = f.freeCount := by simp [reofferKiln]

@[simp] theorem decidePhase_frame (e : Env) (k : Fin 2) (f : Floor) :
    (decidePhase e k f).eventSeq = f.eventSeq ∧
      (decidePhase e k f).vessels = f.vessels ∧
      (decidePhase e k f).channels = f.channels ∧
      (decidePhase e k f).boxes = f.boxes ∧
      (decidePhase e k f).arbiter = f.arbiter ∧
      (decidePhase e k f).batches = f.batches ∧
      (decidePhase e k f).register = f.register ∧
      (decidePhase e k f).acceptCount = f.acceptCount ∧
      (decidePhase e k f).freeCount = f.freeCount := by simp [decidePhase]

@[simp] theorem tellKiln_frame (e : Env) (k : Fin 2) (f : Floor) :
    (tellKiln e k f).eventSeq = f.eventSeq ∧
      (tellKiln e k f).vessels = f.vessels ∧
      (tellKiln e k f).boxes = f.boxes ∧
      (tellKiln e k f).arbiter = f.arbiter ∧
      (tellKiln e k f).kilns = f.kilns ∧
      (tellKiln e k f).batches = f.batches ∧
      (tellKiln e k f).register = f.register ∧
      (tellKiln e k f).acceptCount = f.acceptCount ∧
      (tellKiln e k f).freeCount = f.freeCount := by
  simp only [tellKiln]
  (repeat' split) <;> simp

@[simp] theorem kilnTerminal_frame (k : Fin 2) (d : Nat) (f : Floor) :
    (kilnTerminal k d f).queue = f.queue ∧
      (kilnTerminal k d f).eventSeq = f.eventSeq ∧
      (kilnTerminal k d f).vessels = f.vessels ∧
      (kilnTerminal k d f).channels = f.channels ∧
      (kilnTerminal k d f).boxes = f.boxes ∧
      (kilnTerminal k d f).arbiter = f.arbiter ∧
      (kilnTerminal k d f).batches = f.batches ∧
      (kilnTerminal k d f).register = f.register ∧
      (kilnTerminal k d f).acceptCount = f.acceptCount ∧
      (kilnTerminal k d f).freeCount = f.freeCount := by simp [kilnTerminal]

@[simp] theorem kilnStopped_frame (e : Env) (k : Fin 2) (f : Floor) :
    (kilnStopped e k f).vessels = f.vessels ∧
      (kilnStopped e k f).channels = f.channels ∧
      (kilnStopped e k f).boxes = f.boxes ∧
      (kilnStopped e k f).arbiter = f.arbiter ∧
      (kilnStopped e k f).batches = f.batches ∧
      (kilnStopped e k f).register = f.register ∧
      (kilnStopped e k f).acceptCount = f.acceptCount ∧
      (kilnStopped e k f).freeCount = f.freeCount := by
  simp only [kilnStopped]
  (repeat' split) <;> simp

@[simp] theorem endPeat_frame (e : Env) (k : Fin 2) (f : Floor) :
    (endPeat e k f).eventSeq = f.eventSeq ∧
      (endPeat e k f).vessels = f.vessels ∧
      (endPeat e k f).boxes = f.boxes ∧
      (endPeat e k f).arbiter = f.arbiter ∧
      (endPeat e k f).batches = f.batches ∧
      (endPeat e k f).register = f.register ∧
      (endPeat e k f).acceptCount = f.acceptCount ∧
      (endPeat e k f).freeCount = f.freeCount := by
  simp only [endPeat]
  (repeat' split) <;> simp

@[simp] theorem startPeat_frame (e : Env) (k : Fin 2) (c : Fin 12) (f : Floor) :
    ((startPeat e k c f).1).vessels = f.vessels ∧
      ((startPeat e k c f).1).boxes = f.boxes ∧
      ((startPeat e k c f).1).arbiter = f.arbiter ∧
      ((startPeat e k c f).1).batches = f.batches ∧
      ((startPeat e k c f).1).register = f.register ∧
      ((startPeat e k c f).1).acceptCount = f.acceptCount ∧
      ((startPeat e k c f).1).freeCount = f.freeCount := by
  simp only [startPeat, terminalCountWith]
  split <;> simp only [raiseEvent_frame, kilnTerminal_frame, setValve_frame, startChannel_frame, channel_vessels, channel_boxes, channel_arbiter,
    channel_batches, channel_register, channel_acceptCount, channel_freeCount, kiln_vessels, kiln_boxes, kiln_arbiter,
    kiln_batches, kiln_register, kiln_acceptCount, kiln_freeCount, and_self]

@[simp] theorem beginPeat_frame (e : Env) (k : Fin 2) (f : Floor) :
    (beginPeat e k f).vessels = f.vessels ∧
      (beginPeat e k f).boxes = f.boxes ∧
      (beginPeat e k f).arbiter = f.arbiter ∧
      (beginPeat e k f).batches = f.batches ∧
      (beginPeat e k f).register = f.register ∧
      (beginPeat e k f).acceptCount = f.acceptCount ∧
      (beginPeat e k f).freeCount = f.freeCount := by
  simp only [beginPeat]
  (repeat' split) <;> simp

@[simp] theorem resumePeat_frame (e : Env) (k : Fin 2) (f : Floor) :
    ((resumePeat e k f).1).vessels = f.vessels ∧
      ((resumePeat e k f).1).boxes = f.boxes ∧
      ((resumePeat e k f).1).arbiter = f.arbiter ∧
      ((resumePeat e k f).1).batches = f.batches ∧
      ((resumePeat e k f).1).register = f.register ∧
      ((resumePeat e k f).1).acceptCount = f.acceptCount ∧
      ((resumePeat e k f).1).freeCount = f.freeCount := by
  simp only [resumePeat]
  (repeat' split) <;> simp

@[simp] theorem enterPhase_frame (e : Env) (k : Fin 2) (a : Bool) (f : Floor) :
    (enterPhase e k a f).vessels = f.vessels ∧
      (enterPhase e k a f).boxes = f.boxes ∧
      (enterPhase e k a f).arbiter = f.arbiter ∧
      (enterPhase e k a f).batches = f.batches ∧
      (enterPhase e k a f).register = f.register ∧
      (enterPhase e k a f).acceptCount = f.acceptCount ∧
      (enterPhase e k a f).freeCount = f.freeCount := by
  simp only [enterPhase]
  (repeat' split) <;> simp

@[simp] theorem endPhase_frame (e : Env) (k : Fin 2) (c : Nat) (v : Int) (f : Floor) :
    (endPhase e k c v f).vessels = f.vessels ∧
      (endPhase e k c v f).boxes = f.boxes ∧
      (endPhase e k c v f).arbiter = f.arbiter ∧
      (endPhase e k c v f).batches = f.batches ∧
      (endPhase e k c v f).register = f.register ∧
      (endPhase e k c v f).acceptCount = f.acceptCount ∧
      (endPhase e k c v f).freeCount = f.freeCount := by
  simp only [endPhase]
  (repeat' split) <;> simp

@[simp] theorem phaseMaximum_frame (e : Env) (k : Fin 2) (f : Floor) :
    (phaseMaximum e k f).vessels = f.vessels ∧
      (phaseMaximum e k f).boxes = f.boxes ∧
      (phaseMaximum e k f).arbiter = f.arbiter ∧
      (phaseMaximum e k f).batches = f.batches ∧
      (phaseMaximum e k f).register = f.register ∧
      (phaseMaximum e k f).acceptCount = f.acceptCount ∧
      (phaseMaximum e k f).freeCount = f.freeCount := by
  simp only [phaseMaximum]
  (repeat' split) <;> simp

@[simp] theorem kilnStages_frame (e : Env) (k : Fin 2) (f : Floor) :
    (kilnStages e k f).vessels = f.vessels ∧
      (kilnStages e k f).boxes = f.boxes ∧
      (kilnStages e k f).arbiter = f.arbiter ∧
      (kilnStages e k f).batches = f.batches ∧
      (kilnStages e k f).register = f.register ∧
      (kilnStages e k f).acceptCount = f.acceptCount ∧
      (kilnStages e k f).freeCount = f.freeCount := by
  simp only [kilnStages]
  (repeat' split) <;> simp

@[simp] theorem kilnReofferAfter_frame (e : Env) (k : Fin 2) (f : Floor) :
    (kilnReofferAfter e k f).eventSeq = f.eventSeq ∧
      (kilnReofferAfter e k f).vessels = f.vessels ∧
      (kilnReofferAfter e k f).channels = f.channels ∧
      (kilnReofferAfter e k f).boxes = f.boxes ∧
      (kilnReofferAfter e k f).arbiter = f.arbiter ∧
      (kilnReofferAfter e k f).batches = f.batches ∧
      (kilnReofferAfter e k f).register = f.register ∧
      (kilnReofferAfter e k f).acceptCount = f.acceptCount ∧
      (kilnReofferAfter e k f).freeCount = f.freeCount := by
  simp only [kilnReofferAfter]
  (repeat' split) <;> simp

@[simp] theorem kilnEvaluate.evaluate_frame (e : Env) (k : Fin 2) (f : Floor) :
    (kilnEvaluate.evaluate e k f).vessels = f.vessels ∧
      (kilnEvaluate.evaluate e k f).boxes = f.boxes ∧
      (kilnEvaluate.evaluate e k f).arbiter = f.arbiter ∧
      (kilnEvaluate.evaluate e k f).batches = f.batches ∧
      (kilnEvaluate.evaluate e k f).register = f.register ∧
      (kilnEvaluate.evaluate e k f).acceptCount = f.acceptCount ∧
      (kilnEvaluate.evaluate e k f).freeCount = f.freeCount := by
  simp only [kilnEvaluate.evaluate]
  (repeat' split) <;> simp

@[simp] theorem kilnEvaluate_frame (e : Env) (k : Fin 2) (f : Floor) :
    (kilnEvaluate e k f).vessels = f.vessels ∧
      (kilnEvaluate e k f).boxes = f.boxes ∧
      (kilnEvaluate e k f).arbiter = f.arbiter ∧
      (kilnEvaluate e k f).batches = f.batches ∧
      (kilnEvaluate e k f).register = f.register ∧
      (kilnEvaluate e k f).acceptCount = f.acceptCount ∧
      (kilnEvaluate e k f).freeCount = f.freeCount := by
  simp only [kilnEvaluate]
  (repeat' split) <;> simp

@[simp] theorem offerTripCell_frame (e : Env) (k : Fin 2) (o : KilnOutput) (v : Int) (f : Floor) :
    (offerTripCell e k o v f).eventSeq = f.eventSeq ∧
      (offerTripCell e k o v f).vessels = f.vessels ∧
      (offerTripCell e k o v f).channels = f.channels ∧
      (offerTripCell e k o v f).boxes = f.boxes ∧
      (offerTripCell e k o v f).arbiter = f.arbiter ∧
      (offerTripCell e k o v f).batches = f.batches ∧
      (offerTripCell e k o v f).register = f.register ∧
      (offerTripCell e k o v f).acceptCount = f.acceptCount ∧
      (offerTripCell e k o v f).freeCount = f.freeCount := by
  simp only [offerTripCell]
  (repeat' split) <;> simp

@[simp] theorem tripKiln_frame (e : Env) (k : Fin 2) (c : TripCause) (f : Floor) :
    (tripKiln e k c f).vessels = f.vessels ∧
      (tripKiln e k c f).boxes = f.boxes ∧
      (tripKiln e k c f).arbiter = f.arbiter ∧
      (tripKiln e k c f).batches = f.batches ∧
      (tripKiln e k c f).register = f.register ∧
      (tripKiln e k c f).acceptCount = f.acceptCount ∧
      (tripKiln e k c f).freeCount = f.freeCount := by
  simp only [tripKiln]
  (repeat' split) <;> simp

@[simp] theorem relightKiln_frame (e : Env) (k : Fin 2) (f : Floor) :
    (relightKiln e k f).vessels = f.vessels ∧
      (relightKiln e k f).boxes = f.boxes ∧
      (relightKiln e k f).arbiter = f.arbiter ∧
      (relightKiln e k f).batches = f.batches ∧
      (relightKiln e k f).register = f.register ∧
      (relightKiln e k f).acceptCount = f.acceptCount ∧
      (relightKiln e k f).freeCount = f.freeCount := by
  simp only [relightKiln]
  (repeat' split) <;> simp

@[simp] theorem kilnSecond_frame (e : Env) (k : Fin 2) (f : Floor) :
    (kilnSecond e k f).vessels = f.vessels ∧
      (kilnSecond e k f).boxes = f.boxes ∧
      (kilnSecond e k f).arbiter = f.arbiter ∧
      (kilnSecond e k f).batches = f.batches ∧
      (kilnSecond e k f).register = f.register ∧
      (kilnSecond e k f).acceptCount = f.acceptCount ∧
      (kilnSecond e k f).freeCount = f.freeCount := by
  simp only [kilnSecond]
  (repeat' split) <;> simp

@[simp] theorem flameLost_frame (e : Env) (k : Fin 2) (f : Floor) :
    (flameLost e k f).vessels = f.vessels ∧
      (flameLost e k f).boxes = f.boxes ∧
      (flameLost e k f).arbiter = f.arbiter ∧
      (flameLost e k f).batches = f.batches ∧
      (flameLost e k f).register = f.register ∧
      (flameLost e k f).acceptCount = f.acceptCount ∧
      (flameLost e k f).freeCount = f.freeCount := by
  simp only [flameLost]
  (repeat' split) <;> simp

@[simp] theorem startFiring_frame (e : Env) (k : Fin 2) (p : Nat) (f : Floor) :
    (startFiring e k p f).vessels = f.vessels ∧
      (startFiring e k p f).boxes = f.boxes ∧
      (startFiring e k p f).arbiter = f.arbiter ∧
      (startFiring e k p f).batches = f.batches ∧
      (startFiring e k p f).register = f.register ∧
      (startFiring e k p f).acceptCount = f.acceptCount ∧
      (startFiring e k p f).freeCount = f.freeCount := by
  simp only [startFiring]
  (repeat' split) <;> simp

@[simp] theorem kilnRunsAgain_frame (e : Env) (k : Fin 2) (r : Bool) (f : Floor) :
    (kilnRunsAgain e k r f).eventSeq = f.eventSeq ∧
      (kilnRunsAgain e k r f).vessels = f.vessels ∧
      (kilnRunsAgain e k r f).channels = f.channels ∧
      (kilnRunsAgain e k r f).boxes = f.boxes ∧
      (kilnRunsAgain e k r f).arbiter = f.arbiter ∧
      (kilnRunsAgain e k r f).batches = f.batches ∧
      (kilnRunsAgain e k r f).register = f.register ∧
      (kilnRunsAgain e k r f).acceptCount = f.acceptCount ∧
      (kilnRunsAgain e k r f).freeCount = f.freeCount := by
  simp only [kilnRunsAgain]
  (repeat' split) <;> simp

@[simp] theorem kilnManual_frame (e : Env) (k : Fin 2) (f : Floor) :
    (kilnManual e k f).eventSeq = f.eventSeq ∧
      (kilnManual e k f).vessels = f.vessels ∧
      (kilnManual e k f).boxes = f.boxes ∧
      (kilnManual e k f).arbiter = f.arbiter ∧
      (kilnManual e k f).batches = f.batches ∧
      (kilnManual e k f).register = f.register ∧
      (kilnManual e k f).acceptCount = f.acceptCount ∧
      (kilnManual e k f).freeCount = f.freeCount := by simp [kilnManual]

@[simp] theorem kilnStopProgram_frame (e : Env) (k : Fin 2) (f : Floor) :
    (kilnStopProgram e k f).eventSeq = f.eventSeq ∧
      (kilnStopProgram e k f).vessels = f.vessels ∧
      (kilnStopProgram e k f).boxes = f.boxes ∧
      (kilnStopProgram e k f).arbiter = f.arbiter ∧
      (kilnStopProgram e k f).batches = f.batches ∧
      (kilnStopProgram e k f).register = f.register ∧
      (kilnStopProgram e k f).acceptCount = f.acceptCount ∧
      (kilnStopProgram e k f).freeCount = f.freeCount := by
  simp only [kilnStopProgram]
  (repeat' split) <;> simp

@[simp] theorem kilnEmptied_frame (e : Env) (k : Fin 2) (f : Floor) :
    (kilnEmptied e k f).eventSeq = f.eventSeq ∧
      (kilnEmptied e k f).vessels = f.vessels ∧
      (kilnEmptied e k f).channels = f.channels ∧
      (kilnEmptied e k f).boxes = f.boxes ∧
      (kilnEmptied e k f).arbiter = f.arbiter ∧
      (kilnEmptied e k f).batches = f.batches ∧
      (kilnEmptied e k f).register = f.register ∧
      (kilnEmptied e k f).acceptCount = f.acceptCount ∧
      (kilnEmptied e k f).freeCount = f.freeCount := by simp [kilnEmptied]

/-! ### Steep vessels -/

@[simp] theorem offerOutput_frame (e : Env) (v : Fin 6) (o : Fin 5) (f : Floor) :
    (offerOutput e v o f).eventSeq = f.eventSeq ∧
      (offerOutput e v o f).channels = f.channels ∧
      (offerOutput e v o f).boxes = f.boxes ∧
      (offerOutput e v o f).arbiter = f.arbiter ∧
      (offerOutput e v o f).kilns = f.kilns ∧
      (offerOutput e v o f).batches = f.batches ∧
      (offerOutput e v o f).register = f.register ∧
      (offerOutput e v o f).acceptCount = f.acceptCount ∧
      (offerOutput e v o f).freeCount = f.freeCount := by
  simp only [offerOutput]
  (repeat' split) <;> simp

@[simp] theorem decideOutput_frame (e : Env) (v : Fin 6) (o : Fin 5) (d : Decision) (f : Floor) :
    (decideOutput e v o d f).eventSeq = f.eventSeq ∧
      (decideOutput e v o d f).channels = f.channels ∧
      (decideOutput e v o d f).boxes = f.boxes ∧
      (decideOutput e v o d f).arbiter = f.arbiter ∧
      (decideOutput e v o d f).kilns = f.kilns ∧
      (decideOutput e v o d f).batches = f.batches ∧
      (decideOutput e v o d f).register = f.register ∧
      (decideOutput e v o d f).acceptCount = f.acceptCount ∧
      (decideOutput e v o d f).freeCount = f.freeCount := by
  simp only [decideOutput]
  (repeat' split) <;> simp

@[simp] theorem reofferOutput_frame (e : Env) (v : Fin 6) (f : Floor) (o : Fin 5) :
    (reofferOutput e v f o).eventSeq = f.eventSeq ∧
      (reofferOutput e v f o).channels = f.channels ∧
      (reofferOutput e v f o).boxes = f.boxes ∧
      (reofferOutput e v f o).arbiter = f.arbiter ∧
      (reofferOutput e v f o).kilns = f.kilns ∧
      (reofferOutput e v f o).batches = f.batches ∧
      (reofferOutput e v f o).register = f.register ∧
      (reofferOutput e v f o).acceptCount = f.acceptCount ∧
      (reofferOutput e v f o).freeCount = f.freeCount := by
  simp only [reofferOutput]
  (repeat' split) <;> simp

@[simp] theorem reofferVessel_frame (e : Env) (v : Fin 6) (f : Floor) :
    (reofferVessel e v f).eventSeq = f.eventSeq ∧
      (reofferVessel e v f).channels = f.channels ∧
      (reofferVessel e v f).boxes = f.boxes ∧
      (reofferVessel e v f).arbiter = f.arbiter ∧
      (reofferVessel e v f).kilns = f.kilns ∧
      (reofferVessel e v f).batches = f.batches ∧
      (reofferVessel e v f).register = f.register ∧
      (reofferVessel e v f).acceptCount = f.acceptCount ∧
      (reofferVessel e v f).freeCount = f.freeCount := by
  simp only [reofferVessel]
  refine ⟨foldl_keeps (fun f : Floor => f.eventSeq) _ (fun _ _ => by simp) _ _, foldl_keeps (fun f : Floor => f.channels) _ (fun _ _ => by simp) _ _, foldl_keeps (fun f : Floor => f.boxes) _ (fun _ _ => by simp) _ _, foldl_keeps (fun f : Floor => f.arbiter) _ (fun _ _ => by simp) _ _, foldl_keeps (fun f : Floor => f.kilns) _ (fun _ _ => by simp) _ _, foldl_keeps (fun f : Floor => f.batches) _ (fun _ _ => by simp) _ _, foldl_keeps (fun f : Floor => f.register) _ (fun _ _ => by simp) _ _, foldl_keeps (fun f : Floor => f.acceptCount) _ (fun _ _ => by simp) _ _, foldl_keeps (fun f : Floor => f.freeCount) _ (fun _ _ => by simp) _ _⟩

@[simp] theorem offerAllOutputs_frame (e : Env) (v : Fin 6) (f : Floor) :
    (offerAllOutputs e v f).eventSeq = f.eventSeq ∧
      (offerAllOutputs e v f).channels = f.channels ∧
      (offerAllOutputs e v f).boxes = f.boxes ∧
      (offerAllOutputs e v f).arbiter = f.arbiter ∧
      (offerAllOutputs e v f).kilns = f.kilns ∧
      (offerAllOutputs e v f).batches = f.batches ∧
      (offerAllOutputs e v f).register = f.register ∧
      (offerAllOutputs e v f).acceptCount = f.acceptCount ∧
      (offerAllOutputs e v f).freeCount = f.freeCount := by
  simp only [offerAllOutputs]
  refine ⟨foldl_keeps (fun f : Floor => f.eventSeq) _ (fun _ _ => by simp) _ _, foldl_keeps (fun f : Floor => f.channels) _ (fun _ _ => by simp) _ _, foldl_keeps (fun f : Floor => f.boxes) _ (fun _ _ => by simp) _ _, foldl_keeps (fun f : Floor => f.arbiter) _ (fun _ _ => by simp) _ _, foldl_keeps (fun f : Floor => f.kilns) _ (fun _ _ => by simp) _ _, foldl_keeps (fun f : Floor => f.batches) _ (fun _ _ => by simp) _ _, foldl_keeps (fun f : Floor => f.register) _ (fun _ _ => by simp) _ _, foldl_keeps (fun f : Floor => f.acceptCount) _ (fun _ _ => by simp) _ _, foldl_keeps (fun f : Floor => f.freeCount) _ (fun _ _ => by simp) _ _⟩

@[simp] theorem roundOutput_frame (e : Env) (v : Fin 6) (f : Floor) (o : Fin 5) :
    (roundOutput e v f o).eventSeq = f.eventSeq ∧
      (roundOutput e v f o).channels = f.channels ∧
      (roundOutput e v f o).boxes = f.boxes ∧
      (roundOutput e v f o).arbiter = f.arbiter ∧
      (roundOutput e v f o).kilns = f.kilns ∧
      (roundOutput e v f o).batches = f.batches ∧
      (roundOutput e v f o).register = f.register ∧
      (roundOutput e v f o).acceptCount = f.acceptCount ∧
      (roundOutput e v f o).freeCount = f.freeCount := by
  simp only [roundOutput]
  (repeat' split) <;> simp

@[simp] theorem vesselRound_frame (e : Env) (v : Fin 6) (f : Floor) :
    (vesselRound e v f).eventSeq = f.eventSeq ∧
      (vesselRound e v f).channels = f.channels ∧
      (vesselRound e v f).boxes = f.boxes ∧
      (vesselRound e v f).arbiter = f.arbiter ∧
      (vesselRound e v f).kilns = f.kilns ∧
      (vesselRound e v f).batches = f.batches ∧
      (vesselRound e v f).register = f.register ∧
      (vesselRound e v f).acceptCount = f.acceptCount ∧
      (vesselRound e v f).freeCount = f.freeCount := by
  simp only [vesselRound]
  refine ⟨foldl_keeps (fun f : Floor => f.eventSeq) _ (fun _ _ => by simp) _ _, foldl_keeps (fun f : Floor => f.channels) _ (fun _ _ => by simp) _ _, foldl_keeps (fun f : Floor => f.boxes) _ (fun _ _ => by simp) _ _, foldl_keeps (fun f : Floor => f.arbiter) _ (fun _ _ => by simp) _ _, foldl_keeps (fun f : Floor => f.kilns) _ (fun _ _ => by simp) _ _, foldl_keeps (fun f : Floor => f.batches) _ (fun _ _ => by simp) _ _, foldl_keeps (fun f : Floor => f.register) _ (fun _ _ => by simp) _ _, foldl_keeps (fun f : Floor => f.acceptCount) _ (fun _ _ => by simp) _ _, foldl_keeps (fun f : Floor => f.freeCount) _ (fun _ _ => by simp) _ _⟩

@[simp] theorem startFill_frame (e : Env) (v : Fin 6) (f : Floor) :
    ((startFill e v f).1).eventSeq = f.eventSeq ∧
      ((startFill e v f).1).boxes = f.boxes ∧
      ((startFill e v f).1).arbiter = f.arbiter ∧
      ((startFill e v f).1).kilns = f.kilns ∧
      ((startFill e v f).1).batches = f.batches ∧
      ((startFill e v f).1).register = f.register ∧
      ((startFill e v f).1).acceptCount = f.acceptCount ∧
      ((startFill e v f).1).freeCount = f.freeCount := by
  simp only [startFill]
  (repeat' split) <;> simp

@[simp] theorem stopFillForHold_frame (e : Env) (v : Fin 6) (f : Floor) :
    (stopFillForHold e v f).eventSeq = f.eventSeq ∧
      (stopFillForHold e v f).boxes = f.boxes ∧
      (stopFillForHold e v f).arbiter = f.arbiter ∧
      (stopFillForHold e v f).kilns = f.kilns ∧
      (stopFillForHold e v f).batches = f.batches ∧
      (stopFillForHold e v f).register = f.register ∧
      (stopFillForHold e v f).acceptCount = f.acceptCount ∧
      (stopFillForHold e v f).freeCount = f.freeCount := by
  simp only [stopFillForHold]
  (repeat' split) <;> simp

@[simp] theorem holdVessel_frame (e : Env) (v : Fin 6) (r : HoldReason) (f : Floor) :
    (holdVessel e v r f).boxes = f.boxes ∧
      (holdVessel e v r f).arbiter = f.arbiter ∧
      (holdVessel e v r f).kilns = f.kilns ∧
      (holdVessel e v r f).batches = f.batches ∧
      (holdVessel e v r f).register = f.register ∧
      (holdVessel e v r f).acceptCount = f.acceptCount ∧
      (holdVessel e v r f).freeCount = f.freeCount := by simp [holdVessel]

@[simp] theorem vesselStopped_frame (e : Env) (v : Fin 6) (f : Floor) :
    (vesselStopped e v f).boxes = f.boxes ∧
      (vesselStopped e v f).arbiter = f.arbiter ∧
      (vesselStopped e v f).kilns = f.kilns ∧
      (vesselStopped e v f).batches = f.batches ∧
      (vesselStopped e v f).register = f.register ∧
      (vesselStopped e v f).acceptCount = f.acceptCount ∧
      (vesselStopped e v f).freeCount = f.freeCount := by
  simp only [vesselStopped]
  (repeat' split) <;> simp

@[simp] theorem endStepWith_frame (n : Nat) (e : Env) (v : Fin 6) (c : Nat) (f : Floor) :
    (endStepWith n e v c f).boxes = f.boxes ∧
      (endStepWith n e v c f).arbiter = f.arbiter ∧
      (endStepWith n e v c f).kilns = f.kilns ∧
      (endStepWith n e v c f).batches = f.batches ∧
      (endStepWith n e v c f).register = f.register ∧
      (endStepWith n e v c f).acceptCount = f.acceptCount ∧
      (endStepWith n e v c f).freeCount = f.freeCount := by
  induction n generalizing c f with
  | zero => simp [endStepWith]
  | succ n ih =>
    simp only [endStepWith]
    split
    · simp only [enterStepWith]
      (repeat' split) <;> simp [ih]
    · simp
    · simp

@[simp] theorem endStep_frame (e : Env) (v : Fin 6) (c : Nat) (f : Floor) :
    (endStep e v c f).boxes = f.boxes ∧
      (endStep e v c f).arbiter = f.arbiter ∧
      (endStep e v c f).kilns = f.kilns ∧
      (endStep e v c f).batches = f.batches ∧
      (endStep e v c f).register = f.register ∧
      (endStep e v c f).acceptCount = f.acceptCount ∧
      (endStep e v c f).freeCount = f.freeCount := by simp [endStep]

@[simp] theorem enterStep_frame (e : Env) (v : Fin 6) (p : Position) (f : Floor) :
    (enterStep e v p f).boxes = f.boxes ∧
      (enterStep e v p f).arbiter = f.arbiter ∧
      (enterStep e v p f).kilns = f.kilns ∧
      (enterStep e v p f).batches = f.batches ∧
      (enterStep e v p f).register = f.register ∧
      (enterStep e v p f).acceptCount = f.acceptCount ∧
      (enterStep e v p f).freeCount = f.freeCount := by
  simp only [enterStep, enterStepWith]
  (repeat' split) <;> simp

@[simp] theorem vesselTerminal_frame (e : Env) (v : Fin 6) (f : Floor) :
    (vesselTerminal e v f).boxes = f.boxes ∧
      (vesselTerminal e v f).arbiter = f.arbiter ∧
      (vesselTerminal e v f).kilns = f.kilns ∧
      (vesselTerminal e v f).batches = f.batches ∧
      (vesselTerminal e v f).register = f.register ∧
      (vesselTerminal e v f).acceptCount = f.acceptCount ∧
      (vesselTerminal e v f).freeCount = f.freeCount := by
  simp only [vesselTerminal]
  (repeat' split) <;> simp

@[simp] theorem stepExit_frame (e : Env) (v : Fin 6) (f : Floor) :
    (stepExit e v f).boxes = f.boxes ∧
      (stepExit e v f).arbiter = f.arbiter ∧
      (stepExit e v f).kilns = f.kilns ∧
      (stepExit e v f).batches = f.batches ∧
      (stepExit e v f).register = f.register ∧
      (stepExit e v f).acceptCount = f.acceptCount ∧
      (stepExit e v f).freeCount = f.freeCount := by
  simp only [stepExit]
  (repeat' split) <;> simp

@[simp] theorem vesselEvaluate_frame (e : Env) (v : Fin 6) (f : Floor) :
    (vesselEvaluate e v f).boxes = f.boxes ∧
      (vesselEvaluate e v f).arbiter = f.arbiter ∧
      (vesselEvaluate e v f).kilns = f.kilns ∧
      (vesselEvaluate e v f).batches = f.batches ∧
      (vesselEvaluate e v f).register = f.register ∧
      (vesselEvaluate e v f).acceptCount = f.acceptCount ∧
      (vesselEvaluate e v f).freeCount = f.freeCount := by
  simp only [vesselEvaluate]
  (repeat' split) <;> simp

@[simp] theorem stepMaximum_frame (e : Env) (v : Fin 6) (f : Floor) :
    (stepMaximum e v f).boxes = f.boxes ∧
      (stepMaximum e v f).arbiter = f.arbiter ∧
      (stepMaximum e v f).kilns = f.kilns ∧
      (stepMaximum e v f).batches = f.batches ∧
      (stepMaximum e v f).register = f.register ∧
      (stepMaximum e v f).acceptCount = f.acceptCount ∧
      (stepMaximum e v f).freeCount = f.freeCount := by
  simp only [stepMaximum]
  (repeat' split) <;> simp

@[simp] theorem vesselSecond_frame (e : Env) (v : Fin 6) (f : Floor) :
    (vesselSecond e v f).channels = f.channels ∧
      (vesselSecond e v f).boxes = f.boxes ∧
      (vesselSecond e v f).arbiter = f.arbiter ∧
      (vesselSecond e v f).kilns = f.kilns ∧
      (vesselSecond e v f).batches = f.batches ∧
      (vesselSecond e v f).register = f.register ∧
      (vesselSecond e v f).acceptCount = f.acceptCount ∧
      (vesselSecond e v f).freeCount = f.freeCount := by
  simp only [vesselSecond]
  (repeat' split) <;> simp

@[simp] theorem startVessel_frame (e : Env) (v : Fin 6) (p : Nat) (f : Floor) :
    (startVessel e v p f).boxes = f.boxes ∧
      (startVessel e v p f).arbiter = f.arbiter ∧
      (startVessel e v p f).kilns = f.kilns ∧
      (startVessel e v p f).batches = f.batches ∧
      (startVessel e v p f).register = f.register ∧
      (startVessel e v p f).acceptCount = f.acceptCount ∧
      (startVessel e v p f).freeCount = f.freeCount := by simp [startVessel]

@[simp] theorem fillRequest_frame (e : Env) (v : Fin 6) (f : Floor) :
    ((fillRequest e v f).1).eventSeq = f.eventSeq ∧
      ((fillRequest e v f).1).boxes = f.boxes ∧
      ((fillRequest e v f).1).arbiter = f.arbiter ∧
      ((fillRequest e v f).1).kilns = f.kilns ∧
      ((fillRequest e v f).1).batches = f.batches ∧
      ((fillRequest e v f).1).register = f.register ∧
      ((fillRequest e v f).1).acceptCount = f.acceptCount ∧
      ((fillRequest e v f).1).freeCount = f.freeCount := by
  simp only [fillRequest]
  (repeat' split) <;> simp

@[simp] theorem resumeRound_frame (e : Env) (v : Fin 6) (r : Bool) (f : Floor) :
    (resumeRound e v r f).eventSeq = f.eventSeq ∧
      (resumeRound e v r f).channels = f.channels ∧
      (resumeRound e v r f).boxes = f.boxes ∧
      (resumeRound e v r f).arbiter = f.arbiter ∧
      (resumeRound e v r f).kilns = f.kilns ∧
      (resumeRound e v r f).batches = f.batches ∧
      (resumeRound e v r f).register = f.register ∧
      (resumeRound e v r f).acceptCount = f.acceptCount ∧
      (resumeRound e v r f).freeCount = f.freeCount := by
  simp only [resumeRound]
  (repeat' split) <;> simp

@[simp] theorem vesselTakesUp_frame (e : Env) (v : Fin 6) (r : Bool) (a : FillAnswer) (f : Floor) :
    (vesselTakesUp e v r a f).boxes = f.boxes ∧
      (vesselTakesUp e v r a f).arbiter = f.arbiter ∧
      (vesselTakesUp e v r a f).kilns = f.kilns ∧
      (vesselTakesUp e v r a f).batches = f.batches ∧
      (vesselTakesUp e v r a f).register = f.register ∧
      (vesselTakesUp e v r a f).acceptCount = f.acceptCount ∧
      (vesselTakesUp e v r a f).freeCount = f.freeCount := by
  simp only [vesselTakesUp]
  (repeat' split) <;> simp

@[simp] theorem resumeVessel_frame (e : Env) (v : Fin 6) (r : HoldReason) (f : Floor) :
    ((resumeVessel e v r f).1).boxes = f.boxes ∧
      ((resumeVessel e v r f).1).arbiter = f.arbiter ∧
      ((resumeVessel e v r f).1).kilns = f.kilns ∧
      ((resumeVessel e v r f).1).batches = f.batches ∧
      ((resumeVessel e v r f).1).register = f.register ∧
      ((resumeVessel e v r f).1).acceptCount = f.acceptCount ∧
      ((resumeVessel e v r f).1).freeCount = f.freeCount := by
  simp only [resumeVessel]
  (repeat' split) <;> simp

@[simp] theorem vesselFetches_frame (e : Env) (v : Fin 6) (p : Position) (f : Floor) :
    (vesselFetches e v p f).boxes = f.boxes ∧
      (vesselFetches e v p f).arbiter = f.arbiter ∧
      (vesselFetches e v p f).kilns = f.kilns ∧
      (vesselFetches e v p f).batches = f.batches ∧
      (vesselFetches e v p f).register = f.register ∧
      (vesselFetches e v p f).acceptCount = f.acceptCount ∧
      (vesselFetches e v p f).freeCount = f.freeCount := by simp [vesselFetches]

@[simp] theorem vesselManual_frame (e : Env) (v : Fin 6) (f : Floor) :
    (vesselManual e v f).eventSeq = f.eventSeq ∧
      (vesselManual e v f).boxes = f.boxes ∧
      (vesselManual e v f).arbiter = f.arbiter ∧
      (vesselManual e v f).kilns = f.kilns ∧
      (vesselManual e v f).batches = f.batches ∧
      (vesselManual e v f).register = f.register ∧
      (vesselManual e v f).acceptCount = f.acceptCount ∧
      (vesselManual e v f).freeCount = f.freeCount := by
  simp only [vesselManual]
  (repeat' split) <;> simp

@[simp] theorem vesselStopProgram_frame (e : Env) (v : Fin 6) (f : Floor) :
    (vesselStopProgram e v f).eventSeq = f.eventSeq ∧
      (vesselStopProgram e v f).boxes = f.boxes ∧
      (vesselStopProgram e v f).arbiter = f.arbiter ∧
      (vesselStopProgram e v f).kilns = f.kilns ∧
      (vesselStopProgram e v f).batches = f.batches ∧
      (vesselStopProgram e v f).register = f.register ∧
      (vesselStopProgram e v f).acceptCount = f.acceptCount ∧
      (vesselStopProgram e v f).freeCount = f.freeCount := by simp [vesselStopProgram]

@[simp] theorem restOutput_frame (e : Env) (v : Fin 6) (f : Floor) (o : Fin 5) :
    (restOutput e v f o).eventSeq = f.eventSeq ∧
      (restOutput e v f o).channels = f.channels ∧
      (restOutput e v f o).boxes = f.boxes ∧
      (restOutput e v f o).arbiter = f.arbiter ∧
      (restOutput e v f o).kilns = f.kilns ∧
      (restOutput e v f o).batches = f.batches ∧
      (restOutput e v f o).register = f.register ∧
      (restOutput e v f o).acceptCount = f.acceptCount ∧
      (restOutput e v f o).freeCount = f.freeCount := by
  simp only [restOutput]
  (repeat' split) <;> simp

@[simp] theorem vesselEmptied_frame (e : Env) (v : Fin 6) (f : Floor) :
    (vesselEmptied e v f).eventSeq = f.eventSeq ∧
      (vesselEmptied e v f).channels = f.channels ∧
      (vesselEmptied e v f).boxes = f.boxes ∧
      (vesselEmptied e v f).arbiter = f.arbiter ∧
      (vesselEmptied e v f).kilns = f.kilns ∧
      (vesselEmptied e v f).batches = f.batches ∧
      (vesselEmptied e v f).register = f.register ∧
      (vesselEmptied e v f).acceptCount = f.acceptCount ∧
      (vesselEmptied e v f).freeCount = f.freeCount := by
  simp only [vesselEmptied, vessel_eventSeq, vessel_channels, vessel_boxes, vessel_arbiter, vessel_kilns, vessel_batches,
    vessel_register, vessel_acceptCount, vessel_freeCount]
  refine ⟨foldl_keeps (fun f : Floor => f.eventSeq) _ (fun _ _ => by simp) _ _, foldl_keeps (fun f : Floor => f.channels) _ (fun _ _ => by simp) _ _, foldl_keeps (fun f : Floor => f.boxes) _ (fun _ _ => by simp) _ _, foldl_keeps (fun f : Floor => f.arbiter) _ (fun _ _ => by simp) _ _, foldl_keeps (fun f : Floor => f.kilns) _ (fun _ _ => by simp) _ _, foldl_keeps (fun f : Floor => f.batches) _ (fun _ _ => by simp) _ _, foldl_keeps (fun f : Floor => f.register) _ (fun _ _ => by simp) _ _, foldl_keeps (fun f : Floor => f.acceptCount) _ (fun _ _ => by simp) _ _, foldl_keeps (fun f : Floor => f.freeCount) _ (fun _ _ => by simp) _ _⟩

end Sys2Proof.Machine
end

