-- ==== Sys2Proof/Laws/ReportFrames.lean ====
section
/-! SUPPORT. What the reports of the channels, the unit commands and the end of an event leave as it was. -/

namespace Sys2Proof.Machine

/-! ### Reports of the channels -/

@[simp] theorem ownerTerminal_frame (e : Env) (c : Fin 12) (d : Nat) (f : Floor) :
    (ownerTerminal e c d f).batches = f.batches ∧
      (ownerTerminal e c d f).register = f.register ∧
      (ownerTerminal e c d f).acceptCount = f.acceptCount := by
  simp only [ownerTerminal]
  (repeat' split) <;> simp

@[simp] theorem ownerStopped_frame (e : Env) (c : Fin 12) (f : Floor) :
    (ownerStopped e c f).batches = f.batches ∧
      (ownerStopped e c f).register = f.register ∧
      (ownerStopped e c f).acceptCount = f.acceptCount := by
  simp only [ownerStopped]
  (repeat' split) <;> simp

@[simp] theorem terminalCount_frame (e : Env) (c : Fin 12) (f : Floor) :
    (terminalCount e c f).batches = f.batches ∧
      (terminalCount e c f).register = f.register ∧
      (terminalCount e c f).acceptCount = f.acceptCount := by
  simp only [terminalCount, terminalCountWith]
  simp

@[simp] theorem channelNotice_frame (e : Env) (p : Fin 192) (f : Floor) (c : Fin 12) :
    (channelNotice e p f c).batches = f.batches ∧
      (channelNotice e p f c).register = f.register ∧
      (channelNotice e p f c).acceptCount = f.acceptCount := by
  simp only [channelNotice]
  (repeat' split) <;> simp

@[simp] theorem kilnQuality_frame (e : Env) (p : Nat) (f : Floor) (k : Fin 2) :
    (kilnQuality e p f k).vessels = f.vessels ∧
      (kilnQuality e p f k).boxes = f.boxes ∧
      (kilnQuality e p f k).arbiter = f.arbiter ∧
      (kilnQuality e p f k).batches = f.batches ∧
      (kilnQuality e p f k).register = f.register ∧
      (kilnQuality e p f k).acceptCount = f.acceptCount ∧
      (kilnQuality e p f k).freeCount = f.freeCount := by
  simp only [kilnQuality]
  (repeat' split) <;> simp

@[simp] theorem maskChannel_frame (e : Env) (c : Fin 12) (p : Nat) (f : Floor) :
    (maskChannel (ownerStopped e c) e c p f).batches = f.batches ∧
      (maskChannel (ownerStopped e c) e c p f).register = f.register ∧
      (maskChannel (ownerStopped e c) e c p f).acceptCount = f.acceptCount := by
  simp only [maskChannel]
  (repeat' split) <;> simp

@[simp] theorem clearChannel_frame (e : Env)  (f : Floor) (c : Fin 12) :
    (clearChannel e f c).batches = f.batches ∧
      (clearChannel e f c).register = f.register ∧
      (clearChannel e f c).acceptCount = f.acceptCount := by
  simp only [clearChannel]
  (repeat' split) <;> simp

@[simp] theorem vesselSilent_frame (e : Env)  (f : Floor) (v : Fin 6) :
    (vesselSilent e f v).arbiter = f.arbiter ∧
      (vesselSilent e f v).batches = f.batches ∧
      (vesselSilent e f v).register = f.register ∧
      (vesselSilent e f v).acceptCount = f.acceptCount ∧
      (vesselSilent e f v).freeCount = f.freeCount := by
  simp only [vesselSilent]
  (repeat' split) <;> simp

@[simp] theorem boxSilent_frame (e : Env)  (f : Floor) (b : Fin 12) :
    (boxSilent e f b).vessels = f.vessels ∧
      (boxSilent e f b).kilns = f.kilns ∧
      (boxSilent e f b).batches = f.batches ∧
      (boxSilent e f b).register = f.register ∧
      (boxSilent e f b).acceptCount = f.acceptCount := by
  simp only [boxSilent]
  (repeat' split) <;> simp

/-! ### Unit commands -/

@[simp] theorem beginProgram_frame (e : Env) (u : PlantUnit) (p : Nat) (f : Floor) :
    (beginProgram e u p f).arbiter = f.arbiter ∧
      (beginProgram e u p f).batches = f.batches ∧
      (beginProgram e u p f).register = f.register ∧
      (beginProgram e u p f).acceptCount = f.acceptCount := by
  simp only [beginProgram]
  (repeat' split) <;> simp

@[simp] theorem startLoaded_frame (e : Env) (u : PlantUnit) (p i : Nat) (f : Floor) :
    ((startLoaded e u p i f).1).arbiter = f.arbiter ∧
      ((startLoaded e u p i f).1).batches = f.batches ∧
      ((startLoaded e u p i f).1).register = f.register ∧
      ((startLoaded e u p i f).1).acceptCount = f.acceptCount := by
  simp only [startLoaded]
  (repeat' split) <;> simp

@[simp] theorem holdUnit_frame (e : Env) (u : PlantUnit) (r : HoldReason) (f : Floor) :
    (holdUnit e u r f).batches = f.batches ∧
      (holdUnit e u r f).register = f.register ∧
      (holdUnit e u r f).acceptCount = f.acceptCount := by
  simp only [holdUnit]
  (repeat' split) <;> simp

@[simp] theorem serveHoldUnit_frame (e : Env) (u : PlantUnit) (f : Floor) :
    ((serveHoldUnit e u f).1).batches = f.batches ∧
      ((serveHoldUnit e u f).1).register = f.register ∧
      ((serveHoldUnit e u f).1).acceptCount = f.acceptCount := by
  simp only [serveHoldUnit]
  (repeat' split) <;> simp

@[simp] theorem enterFetched_frame (e : Env) (u : PlantUnit) (p : Position) (f : Floor) :
    (enterFetched e u p f).batches = f.batches ∧
      (enterFetched e u p f).register = f.register ∧
      (enterFetched e u p f).acceptCount = f.acceptCount := by
  simp only [enterFetched]
  (repeat' split) <;> simp

@[simp] theorem resumeGone_frame (e : Env) (u : PlantUnit) (f : Floor) :
    ((resumeGone e u f).1).batches = f.batches ∧
      ((resumeGone e u f).1).register = f.register ∧
      ((resumeGone e u f).1).acceptCount = f.acceptCount := by
  simp only [resumeGone]
  (repeat' split) <;> simp

@[simp] theorem resumeKiln_frame (e : Env) (k : Fin 2) (r : HoldReason) (f : Floor) :
    ((resumeKiln e k r f).1).arbiter = f.arbiter ∧
      ((resumeKiln e k r f).1).batches = f.batches ∧
      ((resumeKiln e k r f).1).register = f.register ∧
      ((resumeKiln e k r f).1).acceptCount = f.acceptCount ∧
      ((resumeKiln e k r f).1).freeCount = f.freeCount := by
  simp only [resumeKiln]
  (repeat' split) <;> simp

@[simp] theorem resumeRunning_frame (e : Env) (u : PlantUnit) (r : HoldReason) (f : Floor) :
    ((resumeRunning e u r f).1).batches = f.batches ∧
      ((resumeRunning e u r f).1).register = f.register ∧
      ((resumeRunning e u r f).1).acceptCount = f.acceptCount := by
  simp only [resumeRunning]
  (repeat' split) <;> simp

@[simp] theorem reofferUnit_frame (e : Env) (u : PlantUnit) (f : Floor) :
    (reofferUnit e u f).eventSeq = f.eventSeq ∧
      (reofferUnit e u f).channels = f.channels ∧
      (reofferUnit e u f).arbiter = f.arbiter ∧
      (reofferUnit e u f).batches = f.batches ∧
      (reofferUnit e u f).register = f.register ∧
      (reofferUnit e u f).acceptCount = f.acceptCount ∧
      (reofferUnit e u f).freeCount = f.freeCount := by
  simp only [reofferUnit]
  (repeat' split) <;> simp

@[simp] theorem resumeHeld_frame (e : Env) (u : PlantUnit) (f : Floor) :
    ((resumeHeld e u f).1).batches = f.batches ∧
      ((resumeHeld e u f).1).register = f.register ∧
      ((resumeHeld e u f).1).acceptCount = f.acceptCount := by
  simp only [resumeHeld]
  (repeat' split) <;> simp

@[simp] theorem serveResume_frame (e : Env) (u : PlantUnit) (f : Floor) :
    ((serveResume e u f).1).batches = f.batches ∧
      ((serveResume e u f).1).register = f.register ∧
      ((serveResume e u f).1).acceptCount = f.acceptCount := by
  simp only [serveResume]
  (repeat' split) <;> simp

@[simp] theorem unitManual_frame (e : Env) (u : PlantUnit) (f : Floor) :
    (unitManual e u f).batches = f.batches ∧
      (unitManual e u f).register = f.register ∧
      (unitManual e u f).acceptCount = f.acceptCount := by
  simp only [unitManual]
  (repeat' split) <;> simp

@[simp] theorem serveManual_frame (e : Env) (u : PlantUnit) (f : Floor) :
    ((serveManual e u f).1).batches = f.batches ∧
      ((serveManual e u f).1).register = f.register ∧
      ((serveManual e u f).1).acceptCount = f.acceptCount := by
  simp only [serveManual]
  (repeat' split) <;> simp

@[simp] theorem leaveManual_frame (e : Env) (u : PlantUnit) (f : Floor) :
    (leaveManual e u f).channels = f.channels ∧
      (leaveManual e u f).arbiter = f.arbiter ∧
      (leaveManual e u f).batches = f.batches ∧
      (leaveManual e u f).register = f.register ∧
      (leaveManual e u f).acceptCount = f.acceptCount ∧
      (leaveManual e u f).freeCount = f.freeCount := by
  simp only [leaveManual]
  (repeat' split) <;> simp

@[simp] theorem unitAuto_frame (e : Env) (u : PlantUnit) (f : Floor) :
    (unitAuto e u f).eventSeq = f.eventSeq ∧
      (unitAuto e u f).channels = f.channels ∧
      (unitAuto e u f).arbiter = f.arbiter ∧
      (unitAuto e u f).batches = f.batches ∧
      (unitAuto e u f).register = f.register ∧
      (unitAuto e u f).acceptCount = f.acceptCount := by
  simp only [unitAuto]
  (repeat' split) <;> simp

@[simp] theorem autoStops_frame (e : Env) (u : PlantUnit) (f : Floor) :
    (autoStops e u f).eventSeq = f.eventSeq ∧
      (autoStops e u f).vessels = f.vessels ∧
      (autoStops e u f).boxes = f.boxes ∧
      (autoStops e u f).arbiter = f.arbiter ∧
      (autoStops e u f).kilns = f.kilns ∧
      (autoStops e u f).batches = f.batches ∧
      (autoStops e u f).register = f.register ∧
      (autoStops e u f).acceptCount = f.acceptCount ∧
      (autoStops e u f).freeCount = f.freeCount := by
  simp only [autoStops]
  (repeat' split) <;> simp

@[simp] theorem serveAuto_frame (e : Env) (u : PlantUnit) (f : Floor) :
    ((serveAuto e u f).1).arbiter = f.arbiter ∧
      ((serveAuto e u f).1).batches = f.batches ∧
      ((serveAuto e u f).1).register = f.register ∧
      ((serveAuto e u f).1).acceptCount = f.acceptCount := by
  simp only [serveAuto]
  (repeat' split) <;> simp

@[simp] theorem stopProgram_frame (e : Env) (u : PlantUnit) (f : Floor) :
    (stopProgram e u f).batches = f.batches ∧
      (stopProgram e u f).register = f.register ∧
      (stopProgram e u f).acceptCount = f.acceptCount := by
  simp only [stopProgram]
  (repeat' split) <;> simp

@[simp] theorem serveStopProgram_frame (e : Env) (u : PlantUnit) (f : Floor) :
    ((serveStopProgram e u f).1).batches = f.batches ∧
      ((serveStopProgram e u f).1).register = f.register ∧
      ((serveStopProgram e u f).1).acceptCount = f.acceptCount := by
  simp only [serveStopProgram]
  (repeat' split) <;> simp

@[simp] theorem unitEmptied_frame (e : Env) (u : PlantUnit) (f : Floor) :
    (unitEmptied e u f).eventSeq = f.eventSeq ∧
      (unitEmptied e u f).channels = f.channels ∧
      (unitEmptied e u f).batches = f.batches ∧
      (unitEmptied e u f).register = f.register ∧
      (unitEmptied e u f).acceptCount = f.acceptCount ∧
      (unitEmptied e u f).freeCount = f.freeCount := by
  simp only [unitEmptied]
  (repeat' split) <;> simp

@[simp] theorem emptyUnit_frame (e : Env) (u : PlantUnit) (f : Floor) :
    (emptyUnit e u f).eventSeq = f.eventSeq ∧
      (emptyUnit e u f).channels = f.channels ∧
      (emptyUnit e u f).batches = f.batches ∧
      (emptyUnit e u f).register = f.register ∧
      (emptyUnit e u f).acceptCount = f.acceptCount ∧
      (emptyUnit e u f).freeCount = f.freeCount := by
  simp [emptyUnit]

/-! ### The end of an event -/

@[simp] theorem tellVessel_frame (b : Floor) (e : Env) (f : Floor) (v : Fin 6) :
    (tellVessel b e f v).eventSeq = f.eventSeq ∧
      (tellVessel b e f v).vessels = f.vessels ∧
      (tellVessel b e f v).boxes = f.boxes ∧
      (tellVessel b e f v).arbiter = f.arbiter ∧
      (tellVessel b e f v).kilns = f.kilns ∧
      (tellVessel b e f v).batches = f.batches ∧
      (tellVessel b e f v).register = f.register ∧
      (tellVessel b e f v).acceptCount = f.acceptCount ∧
      (tellVessel b e f v).freeCount = f.freeCount := by
  simp only [tellVessel]
  (repeat' split) <;> simp

@[simp] theorem tellChangedKiln_frame (e0 : Env) (b : Floor) (e : Env) (f : Floor) (k : Fin 2) :
    (tellChangedKiln e0 b e f k).eventSeq = f.eventSeq ∧
      (tellChangedKiln e0 b e f k).vessels = f.vessels ∧
      (tellChangedKiln e0 b e f k).boxes = f.boxes ∧
      (tellChangedKiln e0 b e f k).arbiter = f.arbiter ∧
      (tellChangedKiln e0 b e f k).kilns = f.kilns ∧
      (tellChangedKiln e0 b e f k).batches = f.batches ∧
      (tellChangedKiln e0 b e f k).register = f.register ∧
      (tellChangedKiln e0 b e f k).acceptCount = f.acceptCount ∧
      (tellChangedKiln e0 b e f k).freeCount = f.freeCount := by
  simp only [tellChangedKiln]
  (repeat' split) <;> simp

@[simp] theorem tellOwners_frame (e0 : Env) (b : Floor) (e : Env) (f : Floor) :
    (tellOwners e0 b e f).eventSeq = f.eventSeq ∧
      (tellOwners e0 b e f).vessels = f.vessels ∧
      (tellOwners e0 b e f).boxes = f.boxes ∧
      (tellOwners e0 b e f).arbiter = f.arbiter ∧
      (tellOwners e0 b e f).kilns = f.kilns ∧
      (tellOwners e0 b e f).batches = f.batches ∧
      (tellOwners e0 b e f).register = f.register ∧
      (tellOwners e0 b e f).acceptCount = f.acceptCount ∧
      (tellOwners e0 b e f).freeCount = f.freeCount := by
  simp only [tellOwners]
  refine ⟨(foldl_keeps (fun f : Floor => f.eventSeq) _ (fun _ _ => by simp) _ _).trans (foldl_keeps (fun f : Floor => f.eventSeq) _ (fun _ _ => by simp) _ _), (foldl_keeps (fun f : Floor => f.vessels) _ (fun _ _ => by simp) _ _).trans (foldl_keeps (fun f : Floor => f.vessels) _ (fun _ _ => by simp) _ _), (foldl_keeps (fun f : Floor => f.boxes) _ (fun _ _ => by simp) _ _).trans (foldl_keeps (fun f : Floor => f.boxes) _ (fun _ _ => by simp) _ _), (foldl_keeps (fun f : Floor => f.arbiter) _ (fun _ _ => by simp) _ _).trans (foldl_keeps (fun f : Floor => f.arbiter) _ (fun _ _ => by simp) _ _), (foldl_keeps (fun f : Floor => f.kilns) _ (fun _ _ => by simp) _ _).trans (foldl_keeps (fun f : Floor => f.kilns) _ (fun _ _ => by simp) _ _), (foldl_keeps (fun f : Floor => f.batches) _ (fun _ _ => by simp) _ _).trans (foldl_keeps (fun f : Floor => f.batches) _ (fun _ _ => by simp) _ _), (foldl_keeps (fun f : Floor => f.register) _ (fun _ _ => by simp) _ _).trans (foldl_keeps (fun f : Floor => f.register) _ (fun _ _ => by simp) _ _), (foldl_keeps (fun f : Floor => f.acceptCount) _ (fun _ _ => by simp) _ _).trans (foldl_keeps (fun f : Floor => f.acceptCount) _ (fun _ _ => by simp) _ _), (foldl_keeps (fun f : Floor => f.freeCount) _ (fun _ _ => by simp) _ _).trans (foldl_keeps (fun f : Floor => f.freeCount) _ (fun _ _ => by simp) _ _)⟩

@[simp] theorem floorSilent_frame (e : Env)  (f : Floor) :
    (floorSilent e f).batches = f.batches ∧
      (floorSilent e f).register = f.register ∧
      (floorSilent e f).acceptCount = f.acceptCount := by
  simp only [floorSilent, raiseEvent_frame]
  refine ⟨(foldl_keeps (fun f : Floor => f.batches) _ (fun _ _ => by simp) _ _).trans ((foldl_keeps (fun f : Floor => f.batches) _ (fun _ _ => by simp) _ _).trans (foldl_keeps (fun f : Floor => f.batches) _ (fun _ _ => by simp) _ _)), (foldl_keeps (fun f : Floor => f.register) _ (fun _ _ => by simp) _ _).trans ((foldl_keeps (fun f : Floor => f.register) _ (fun _ _ => by simp) _ _).trans (foldl_keeps (fun f : Floor => f.register) _ (fun _ _ => by simp) _ _)), (foldl_keeps (fun f : Floor => f.acceptCount) _ (fun _ _ => by simp) _ _).trans ((foldl_keeps (fun f : Floor => f.acceptCount) _ (fun _ _ => by simp) _ _).trans (foldl_keeps (fun f : Floor => f.acceptCount) _ (fun _ _ => by simp) _ _))⟩

end Sys2Proof.Machine
end

