-- ==== Sys2Proof/Laws/Arrivals.lean ====
section
/-! SUPPORT. What the arrival of a slot, a step of the second and the end of an event do, said once: a proof about one command
cites these and unfolds only that command's own work. -/

namespace Sys2Proof.Machine

/-! ### The end of an event -/

/-- An event that changes no vessel, no kiln and no permit tells the channels nothing. -/
theorem tellOwners_quiet (e0 : Env) (before : Floor) (e : Env) (f : Floor) (hv : f.vessels = before.vessels)
    (hk : f.kilns = before.kilns) (hp : ∀ k, permit e0 before k = permit e f k) : tellOwners e0 before e f = f := by
  have h1 : (List.finRange 6).foldl (tellVessel before e) f = f := by
    apply foldl_inv (fun g => g = f) _ _ _ _ rfl
    intro g v hg
    subst hg
    simp [tellVessel, vesselDemand, hv]
  have h2 : (List.finRange 2).foldl (tellChangedKiln e0 before e) f = f := by
    apply foldl_inv (fun g => g = f) _ _ _ _ rfl
    intro g k hg
    subst hg
    simp [tellChangedKiln, hk, hp]
  simp only [tellOwners, h1, h2]

/-- An event that changes no vessel, no kiln, no bank, no point and not the loop's state ends with the lines alone. -/
theorem finish_quiet (s0 s1 : State) (hv : s1.floor.vessels = s0.floor.vessels) (hk : s1.floor.kilns = s0.floor.kilns)
    (hb : s1.tables.active = s0.tables.active) (hp : s1.points = s0.points) (hl : s1.loop.up = s0.loop.up) :
    finish s0 s1 = setLines s1 := by
  have h : tellOwners s0.env s0.floor s1.env s1.floor = s1.floor := by
    apply tellOwners_quiet _ _ _ _ hv hk
    intro k
    simp [permit, Env.ton, Env.point, hk, hb, hp, hl]
  simp [finish, State.onFloor, h]

@[simp] theorem finish_floor (s0 s1 : State) : (finish s0 s1).floor = tellOwners s0.env s0.floor s1.env s1.floor := by
  simp [finish]

/-! ### The output lines -/

/-- The permit of a kiln is read from these parts alone. -/
theorem permit_congr (e e' : Env) (f f' : Floor) (k : Fin 2) (hb : e'.bank = e.bank) (hp : e'.points = e.points)
    (hl : e'.loopUp = e.loopUp) (hk : f'.kilns[k] = f.kilns[k]) : permit e' f' k = permit e f k := by
  simp only [permit, Env.ton, Env.point, hb, hp, hl, hk]

/-- The lines are read from these parts of the state alone. -/
theorem lines_congr (s t : State) (hr : t.inReset = s.inReset) (hb : t.tables.active = s.tables.active)
    (hp : t.points = s.points) (hl : t.loop.up = s.loop.up) (ha : t.loop.silenceAlert = s.loop.silenceAlert)
    (hk : t.floor.kilns = s.floor.kilns) (hq : t.floor.queue.congested = s.floor.queue.congested)
    (ho : t.floor.anyOverdue = s.floor.anyOverdue) (hd : t.floor.arbiter.state = s.floor.arbiter.state)
    (hg : t.floor.registerAlert = s.floor.registerAlert) : t.lines = s.lines := by
  have h1 : alertConditions t = alertConditions s := by
    have e1 : t.floor.anyTripped = s.floor.anyTripped := by rw [Floor.anyTripped, Floor.anyTripped, hk]
    rw [alertConditions, alertConditions, e1, ha, hq, ho, hd, hg]
  have h2 : ∀ k, permit t.env t.floor k = permit s.env s.floor k := fun k => permit_congr _ _ _ _ k hb hp hl (by rw [hk])
  simp only [State.lines, linesOf, hr, h1, h2]

theorem setLines_lines (s : State) : (setLines s).lines = s.lines :=
  lines_congr s (setLines s) rfl rfl rfl rfl rfl rfl rfl rfl rfl rfl

/-- The lines follow the state at the end of every event. -/
theorem setLines_follow (s : State) : (setLines s).LinesFollow := by
  rw [State.LinesFollow, setLines_pins, setLines_lines]

theorem finish_follow (s0 s1 : State) : (finish s0 s1).LinesFollow := setLines_follow _

/-- An event that leaves those parts as they were, in a state whose lines follow it, leaves the lines. -/
theorem setLines_same (s t : State) (h : s.LinesFollow) (hpins : t.pins = s.pins) (hl : t.lines = s.lines) :
    setLines t = t := by
  have : t.lines = t.pins := by rw [hpins, hl]; exact h.symm
  rw [setLines, this]

/-- An event that changes none of what the owners and the lines are read from ends as it stands. -/
theorem finish_same (s t : State) (h : s.LinesFollow) (hpins : t.pins = s.pins) (hr : t.inReset = s.inReset)
    (hb : t.tables.active = s.tables.active) (hp : t.points = s.points) (hl : t.loop.up = s.loop.up)
    (ha : t.loop.silenceAlert = s.loop.silenceAlert) (hv : t.floor.vessels = s.floor.vessels)
    (hk : t.floor.kilns = s.floor.kilns) (hq : t.floor.queue.congested = s.floor.queue.congested)
    (ho : t.floor.batches = s.floor.batches) (hd : t.floor.arbiter.state = s.floor.arbiter.state)
    (hg : t.floor.register = s.floor.register) : finish s t = t := by
  rw [finish_quiet s t hv hk hb hp hl]
  exact setLines_same s t h hpins (lines_congr s t hr hb hp hl ha hk hq (by rw [Floor.anyOverdue, Floor.anyOverdue, ho]) hd
    (by rw [Floor.registerAlert, Floor.registerAlert, hg]))

@[simp] theorem offerReply_congested (q : Queue) (c : QCell) : (q.offerReply c).congested = q.congested := by
  simp only [Queue.offerReply]
  split <;> rfl

@[simp] theorem offerEvent_congested (q : Queue) (c : QCell) : (q.offerEvent c).congested = q.congested := by
  simp only [Queue.offerEvent]
  split <;> rfl

@[simp] theorem offerCommand_congested (q : Queue) (c : QCell) : (q.offerCommand c).1.congested = q.congested := by
  simp only [Queue.offerCommand]
  (repeat' split) <;> rfl

@[simp] theorem offerTrip_congested (q : Queue) (c : QCell) : (q.offerTrip c).congested = q.congested := by
  simp only [Queue.offerTrip]
  split <;> rfl

theorem pop_congested (q : Queue) (c : QCell) (r : Queue) (h : q.pop = some (c, r)) : r.congested = q.congested := by
  simp only [Queue.pop] at h
  split at h <;> simp_all
  all_goals (obtain ⟨-, h⟩ := h; rw [← h])

/-! ### Steps of the second and steps that follow from an arrival -/

theorem settle_awake (s : State) (h : s.due = []) : settle s = s := by
  cases s
  simp only [settle] at *
  simp [h]

/-- A step that is due is taken. -/
theorem takeDue_taken (i : Instr) (op : State → State) (s : State) (hr : s.inReset = false) (hd : i ∈ s.due) :
    takeDue i op s = finish s (op { s with due := s.due.erase i }) := by
  simp [takeDue, hr, hd]

/-- A step that is not due changes nothing. -/
theorem takeDue_idle (i : Instr) (op : State → State) (s : State) (hd : i ∉ s.due) : takeDue i op s = s := by
  simp [takeDue, hd]

theorem takeNow_taken (op : State → State) (s : State) (hr : s.inReset = false) : takeNow op s = finish s (op s) := by
  simp [takeNow, hr]

theorem ownEvent_taken (op : State → State) (s : State) (h : s.Awake) : ownEvent op s = finish s (op s) := by
  simp [ownEvent, h.1, settle_awake s h.2]

/-- Two settings of the list of due steps do not meet. -/
theorem env_due (s : State) (l : List Instr) : State.env { s with due := l } = s.env := rfl

/-! ### Slots -/

theorem arrive_awake (slot : Slot) (ff : Bool) (s : State) (h : s.Awake) :
    arrive slot ff s = finish s (passSlot slot ff s) := by
  simp [arrive, h.1, settle_awake s h.2]

/-- R14, R15: a good slot or an EMPTY slot in a steady loop is counted, and no more. -/
theorem countSlot_steady (slot : Slot) (s : State) (hc : classify slot ≠ .bad) (h : s.GoodSteady) :
    countSlot slot s = s.counted false := by
  have hb : (classify slot == .bad) = false := by simp [hc]
  simp only [countSlot, hb, State.counted]
  have h1 : upDue (countRuns false s) = false := by
    rcases h with h | h
    · simp [upDue, countRuns, h]
    · simp [upDue, countRuns]
      intro _
      omega
  have h2 : (countRuns false s).loop.badRun = 0 := by simp [countRuns]
  simp [h1, h2]

/-- R14, R16: a bad cell in a steady loop is counted, and no more. -/
theorem countSlot_bad (slot : Slot) (s : State) (hc : classify slot = .bad) (h : s.BadSteady) :
    countSlot slot s = s.counted true := by
  simp only [countSlot, hc, State.counted]
  have h1 : upDue (countRuns true s) = false := by simp [upDue, countRuns]
  have h2 : ((countRuns true s).loop.up && (countRuns true s).loop.badRun == 16) = false := by
    rcases h with h | h
    · simp [countRuns, h]
    · simp [countRuns]
      intro _
      omega
  simp [h1, h2]

theorem fillSlot_fields (slot : Slot) (s : State) :
    (fillSlot slot s).1 = { s with floor := { s.floor with queue := (fillSlot slot s).1.floor.queue } } := by
  simp only [fillSlot]
  split <;> rfl

theorem fillSlot_awake (slot : Slot) (s : State) :
    (fillSlot slot s).1.inReset = s.inReset ∧ (fillSlot slot s).1.due = s.due ∧ (fillSlot slot s).1.loop = s.loop ∧
      (fillSlot slot s).1.tables = s.tables ∧ (fillSlot slot s).1.points = s.points ∧
      (fillSlot slot s).1.floor.vessels = s.floor.vessels ∧ (fillSlot slot s).1.floor.kilns = s.floor.kilns ∧
      (fillSlot slot s).1.pins = s.pins := by
  rw [fillSlot_fields]
  simp

/-- A good slot or an EMPTY slot in a steady loop that is taken off the loop for the work `op`. -/
theorem passSlot_takenOff (slot : Slot) (ff : Bool) (s : State) (hc : classify slot ≠ .bad) (hs : s.GoodSteady)
    (op : State → State)
    (h : ∀ t : State, t.tables = s.tables → t.loop.node = s.loop.node → t.capture = s.capture → t.time = s.time →
      t.retries = s.retries → t.second = s.second → t.points = s.points →
      t.floor = { s.floor with queue := t.floor.queue } → t.env = s.env → handleSlot slot t = (op t, none)) :
    passSlot slot ff s = s.takenOff slot ff op := by
  have hf := fillSlot_awake slot s
  have hst : (fillSlot slot s).1.GoodSteady := by simpa [State.GoodSteady, hf.2.2.1] using hs
  have h2 := fillSlot_fields slot s
  simp only [passSlot, State.takenOff, countSlot_steady _ s hc hs, countSlot_steady _ _ hc hst]
  rw [h (s.counted false) rfl rfl rfl rfl rfl rfl rfl rfl rfl]
  rw [h ((fillSlot slot s).1.counted false) (by rw [h2]; rfl) (by rw [h2]; rfl) (by rw [h2]; rfl) (by rw [h2]; rfl)
    (by rw [h2]; rfl) (by rw [h2]; rfl) (by rw [h2]; rfl) (by rw [h2]; rfl) (by rw [h2]; rfl)]

/-- A good slot in a steady loop that is passed on after the work `t`. -/
theorem passSlot_forward (slot : Slot) (ff : Bool) (s t : State) (hc : classify slot ≠ .bad) (hs : s.GoodSteady) (out : Slot)
    (h : handleSlot slot (s.counted false) = (t, some out)) : passSlot slot ff s = { t with outPort := some out } := by
  simp only [passSlot, countSlot_steady _ s hc hs, h]

/-- The work `op` touches nothing that the owners and the lines are read from. -/
structure QuietWork (op : State → State) : Prop where
  pins : ∀ t, (op t).pins = t.pins
  inReset : ∀ t, (op t).inReset = t.inReset
  bank : ∀ t, (op t).tables.active = t.tables.active
  points : ∀ t, (op t).points = t.points
  loop : ∀ t, (op t).loop = t.loop
  vessels : ∀ t, (op t).floor.vessels = t.floor.vessels
  kilns : ∀ t, (op t).floor.kilns = t.floor.kilns
  congested : ∀ t, (op t).floor.queue.congested = t.floor.queue.congested
  batches : ∀ t, (op t).floor.batches = t.floor.batches
  arbiter : ∀ t, (op t).floor.arbiter.state = t.floor.arbiter.state
  register : ∀ t, (op t).floor.register = t.floor.register

theorem fillSlot_congested (slot : Slot) (s : State) :
    (fillSlot slot s).1.floor.queue.congested = s.floor.queue.congested := by
  simp only [fillSlot]
  split
  · next h => exact pop_congested _ _ _ h
  · rfl

/-- A slot taken off the loop for a quiet work ends as it stands. -/
theorem finish_takenOff (s : State) (slot : Slot) (ff : Bool) (op : State → State) (hl : s.LinesFollow) (q : QuietWork op) :
    finish s (s.takenOff slot ff op) = s.takenOff slot ff op := by
  have hf := fillSlot_fields slot s
  have hc := fillSlot_congested slot s
  have hf2 := fillSlot_fields slot (op (s.counted false))
  have hc2 := fillSlot_congested slot (op (s.counted false))
  apply finish_same s _ hl
  all_goals
    simp only [State.takenOff]
    split
    · simp only [q.pins, q.inReset, q.bank, q.points, q.loop, q.vessels, q.kilns, q.congested, q.batches, q.arbiter,
        q.register, State.counted, countRuns]
      first
        | exact hc
        | (rw [hf])
    · first
        | (rw [hc2, q.congested]; rfl)
        | (rw [hf2]
           simp only [q.pins, q.inReset, q.bank, q.points, q.loop, q.vessels, q.kilns, q.batches, q.arbiter,
             q.register, State.counted, countRuns])

/-- A slot passed on ends as it stands. -/
theorem finish_passedOn (s : State) (out : Slot) (h : s.LinesFollow) : finish s (s.passedOn out) = s.passedOn out :=
  finish_same s _ h rfl rfl rfl rfl rfl rfl rfl rfl rfl rfl rfl rfl

theorem told_quiet (dest func tag : Byte) (v : Int) (qual : Nat) : QuietWork fun t => t.told dest func tag v qual := by
  constructor <;> intro t <;> simp [State.told]

/-- Two quiet works in turn. -/
theorem QuietWork.comp {f g : State → State} (hf : QuietWork f) (hg : QuietWork g) : QuietWork fun t => g (f t) := by
  constructor <;> intro t
  · rw [hg.pins, hf.pins]
  · rw [hg.inReset, hf.inReset]
  · rw [hg.bank, hf.bank]
  · rw [hg.points, hf.points]
  · rw [hg.loop, hf.loop]
  · rw [hg.vessels, hf.vessels]
  · rw [hg.kilns, hf.kilns]
  · rw [hg.congested, hf.congested]
  · rw [hg.batches, hf.batches]
  · rw [hg.arbiter, hf.arbiter]
  · rw [hg.register, hf.register]

theorem classify_mgmt (node code : Byte) (r : Req) (hn : node ≠ 0#8) (hs : goodSource r.source = true) :
    classify (mgmtSlot node code r) = .good := by
  simp only [goodSource, Bool.and_eq_true, bne_iff_ne, ne_eq] at hs
  simp [classify, mgmtSlot, Slot.fresh, codeFull, slotCheck, slotBody, hn, hs.1, hs.2]

/-- R6, R11: a request that reaches the part is served, in either mode, and its slot leaves EMPTY. -/
theorem handleSlot_request (code : Byte) (r : Req) (s : State) (hn : s.nodeValid = true) (hs : goodSource r.source = true)
    (ho : r.source ≠ s.loop.node) :
    handleSlot (mgmtSlot s.loop.node code r) s = (serveManagement code { r with fillFirst := false } s, none) := by
  have hv := hn
  simp only [State.nodeValid, Bool.and_eq_true, bne_iff_ne, ne_eq] at hv
  have hc := classify_mgmt s.loop.node code r hv.1 hs
  have hq : absorbRequest (mgmtSlot s.loop.node code r) s = serveManagement code { r with fillFirst := false } s := rfl
  simp only [handleSlot]
  split
  · rw [hc]
    simp only [handleGood, hq]
    simp [mgmtSlot, Slot.fresh, codeFull, codeMarked, ho]
  · simp only [handleTransparent, hq, hc]
    simp [mgmtSlot, Slot.fresh, codeFull, isRequest, hn]

/-- A request that reaches the part, whatever its function: the slot is counted and taken off the loop, the request is
served, and the event ends. -/
theorem arriveRequest_reaches (code : Byte) (r : Req) (s : State) (h : s.Reaches r) :
    arriveRequest code r s =
      finish s (s.takenOff (mgmtSlot s.loop.node code r) r.fillFirst
        (serveManagement code { r with fillFirst := false })) := by
  obtain ⟨ha, hsteady, hn, hs, ho, -⟩ := h
  have hv := hn
  simp only [State.nodeValid, Bool.and_eq_true, bne_iff_ne, ne_eq] at hv
  have hc := classify_mgmt s.loop.node code r hv.1 hs
  have hb : classify (mgmtSlot s.loop.node code r) ≠ .bad := by rw [hc]; decide
  rw [arriveRequest, arrive_awake _ _ _ ha]
  congr 1
  have h1 : handleSlot (mgmtSlot s.loop.node code r) (s.counted false) =
      (serveManagement code { r with fillFirst := false } (s.counted false), none) :=
    handleSlot_request code r (s.counted false) hn hs ho
  simp only [passSlot, State.takenOff, countSlot_steady _ s hb hsteady, h1]
  have hf := fillSlot_awake (mgmtSlot s.loop.node code r) s
  have hst : (fillSlot (mgmtSlot s.loop.node code r) s).1.GoodSteady := by
    simpa [State.GoodSteady, hf.2.2.1] using hsteady
  rw [countSlot_steady _ _ hb hst]
  have h2 : handleSlot (mgmtSlot s.loop.node code r) ((fillSlot (mgmtSlot s.loop.node code r) s).1.counted false) =
      (serveManagement code { r with fillFirst := false } ((fillSlot (mgmtSlot s.loop.node code r) s).1.counted false),
        none) := by
    have hl : ((fillSlot (mgmtSlot s.loop.node code r) s).1.counted false).loop.node = s.loop.node := by
      simp [State.counted, countRuns, hf.2.2.1]
    have := handleSlot_request code r ((fillSlot (mgmtSlot s.loop.node code r) s).1.counted false)
    rw [hl] at this
    exact this (by simpa [State.nodeValid, hl] using hn) hs ho
  rw [h2]

/-- Every command of a management function is the arrival of its cell. -/
theorem exec_command (fn : Function) (r : Req) (s : State) :
    exec (fn.command r) s = .next (arriveRequest fn.code r s) := by
  cases fn <;> rfl

theorem functionOf_code (fn : Function) : functionOf fn.code = some fn := by cases fn <;> rfl

/-- A request that reaches the part and whose source may call its function: the function is carried out by its block. -/
theorem exec_ready (fn : Function) (r : Req) (s : State) (h : s.Ready fn r) :
    exec (fn.command r) s = .next (finish s (s.afterRequest fn r (serveFunction fn { r with fillFirst := false }))) := by
  rw [exec_command, arriveRequest_reaches _ _ _ h.reaches]
  congr 2
  have hf := fillSlot_awake (mgmtSlot s.loop.node fn.code r) s
  have key : ∀ t : State, t.tables = s.tables →
      serveManagement fn.code { r with fillFirst := false } t = serveFunction fn { r with fillFirst := false } t := by
    intro t ht
    have hr := h.rights
    simp only [serveManagement, functionOf_code, serveKnown]
    have hm : mayCall t fn { r with fillFirst := false } = mayCall s fn r := by simp [mayCall, ht]
    rw [hm, ht]
    split <;> simp_all
  simp only [State.afterRequest, State.takenOff]
  rw [key ((fillSlot (mgmtSlot s.loop.node fn.code r) s).1.counted false)
    (by simp [State.counted, countRuns, hf.2.2.2.1]), key (s.counted false) rfl]

end Sys2Proof.Machine
end

