-- ==== Sys2Proof/Laws/Banks.lean ====
section
/-! SUPPORT. What a write to a bank does (R65, R71): the place written reads as the value written, every other place as
before, and the canonical form is kept. -/

namespace Sys2Proof.Machine

theorem Bank.wfFrom_mono (b : Bank) {lo hi : Nat} (h : lo ≤ hi) (w : Bank.wfFrom hi b = true) : Bank.wfFrom lo b = true := by
  cases b with
  | nil => rfl
  | cons x r =>
    simp only [Bank.wfFrom, Bool.and_eq_true, decide_eq_true_eq] at w ⊢
    exact ⟨⟨by omega, w.1.2⟩, w.2⟩

/-- A place below all that a canonical bank lists reads as 0. -/
theorem Bank.read_below (b : Bank) {lo a : Nat} (w : Bank.wfFrom lo b = true) (h : a < lo) : b.read a = 0#32 := by
  induction b generalizing lo with
  | nil => rfl
  | cons x r ih =>
    simp only [Bank.wfFrom, Bool.and_eq_true, decide_eq_true_eq] at w
    rw [Bank.read, if_neg (by omega)]
    exact ih w.2 (by omega)

theorem Bank.wfFrom_write (b : Bank) {lo a : Nat} (v : Word) (w : Bank.wfFrom lo b = true) (h : lo ≤ a) :
    Bank.wfFrom lo (b.write a v) = true := by
  induction b generalizing lo with
  | nil => simp only [Bank.write]; split <;> simp_all [Bank.wfFrom]
  | cons x r ih =>
    have w' := w
    simp only [Bank.wfFrom, Bool.and_eq_true, decide_eq_true_eq] at w'
    simp only [Bank.write]
    split_ifs with h1 h2 h3 h4
    · exact w
    · simp only [Bank.wfFrom, Bool.and_eq_true, decide_eq_true_eq]
      exact ⟨⟨h, by simpa using h2⟩, ⟨by omega, w'.1.2⟩, w'.2⟩
    · exact Bank.wfFrom_mono r (by omega) w'.2
    · simp only [Bank.wfFrom, Bool.and_eq_true, decide_eq_true_eq]
      exact ⟨⟨h, by simpa using h4⟩, by rw [h3]; exact w'.2⟩
    · simp only [Bank.wfFrom, Bool.and_eq_true, decide_eq_true_eq]
      exact ⟨w'.1, ih w'.2 (by omega)⟩

/-- A write keeps the canonical form. -/
theorem Bank.wf_write (b : Bank) (a : Nat) (v : Word) (w : b.wf = true) : (b.write a v).wf = true :=
  Bank.wfFrom_write b v w (Nat.zero_le a)

@[simp] theorem Bank.read_nil (c : Nat) : Bank.read [] c = 0#32 := rfl

theorem Bank.read_cons (k c : Nat) (v : Word) (r : Bank) : Bank.read ((k, v) :: r) c = if k = c then v else r.read c := rfl

theorem Bank.read_write_from (b : Bank) {lo : Nat} (a c : Nat) (v : Word) (w : Bank.wfFrom lo b = true) :
    (b.write a v).read c = if c = a then v else b.read c := by
  induction b generalizing lo with
  | nil =>
    by_cases hv : v = 0#32
    · simp [Bank.write, hv]
    · by_cases hc : c = a
      · simp [Bank.write, hv, Bank.read_cons, hc]
      · simp [Bank.write, hv, Bank.read_cons, hc, show a ≠ c from fun h => hc h.symm]
  | cons x r ih =>
    obtain ⟨k, y⟩ := x
    simp only [Bank.wfFrom, Bool.and_eq_true, decide_eq_true_eq] at w
    have low : ∀ d, d ≤ k → Bank.read r d = 0#32 := fun d h =>
      Bank.read_below r (lo := k + 1) w.2 (by omega)
    by_cases h1 : a < k
    · by_cases hc : c = a
      · subst hc
        by_cases hv : v = 0#32
        · simp [Bank.write, h1, hv, Bank.read_cons, low c (by omega), show k ≠ c by omega]
        · simp [Bank.write, h1, hv, Bank.read_cons]
      · by_cases hv : v = 0#32
        · simp [Bank.write, h1, hv, hc]
        · simp [Bank.write, h1, hv, hc, Bank.read_cons a, show a ≠ c from fun h => hc h.symm]
    · by_cases h2 : a = k
      · subst h2
        by_cases hc : c = a
        · subst hc
          by_cases hv : v = 0#32
          · simp [Bank.write, hv, low c (Nat.le_refl c)]
          · simp [Bank.write, hv, Bank.read_cons]
        · by_cases hv : v = 0#32
          · simp [Bank.write, hv, hc, Bank.read_cons, show a ≠ c from fun h => hc h.symm]
          · simp [Bank.write, hv, hc, Bank.read_cons, show a ≠ c from fun h => hc h.symm]
      · simp only [Bank.write, h1, h2, if_false, Bank.read_cons, ih w.2]
        by_cases hk : k = c
        · simp [hk, show c ≠ a by omega]
        · simp [hk]

/-- A write to a canonical bank changes the place written and no other. -/
theorem Bank.read_write (b : Bank) (a c : Nat) (v : Word) (w : b.wf = true) :
    (b.write a v).read c = if c = a then v else b.read c := Bank.read_write_from b a c v w

end Sys2Proof.Machine
end

