-- ==== Sys2Proof/Laws/PerInstr.lean ====
section
/-! SUPPORT. One lemma per command: a well-formed request comes from a node that a good cell can name as its source (R1). -/

namespace Sys2Proof.Laws

/-- The request that a command brings to the Station Dialogue (R211), where it brings one. -/
def Addressing.request : Instr → Option Req
  | .powerOnReset _ _ => none
  | .resetAssert _ => none
  | .emptySlot _ _ => none
  | .badCell _ _ => none
  | .sampleCell _ _ => none
  | .pollAnswered _ => none
  | .terminalCount _ => none
  | .commandCell _ _ => none
  | .timeCell _ _ => none
  | .forwardCell _ _ => none
  | .loopSilent _ => none
  | .loopUp => none
  | .pendingReoffer _ => none
  | .congested => none
  | .timeBaseSecond => none
  | .qualityHeld _ => none
  | .qualityStale _ => none
  | .pollDeadline _ => none
  | .badFunction _ r => some r
  | .cursor r => some r
  | .write r => some r
  | .read r => some r
  | .clearShadow r => some r
  | .copyActive r => some r
  | .activate r => some r
  | .endOfCheck => none
  | .start r => some r
  | .hold r => some r
  | .resume r => some r
  | .manual r => some r
  | .auto r => some r
  | .stopProgram r => some r
  | .discard r => some r
  | .transfer r => some r
  | .transferAttempt _ => none
  | .voteWaitExpiry _ => none
  | .transferDone r => some r
  | .transferAbort r => some r
  | .transferOverdue _ => none
  | .doseStart r => some r
  | .unmask r => some r
  | .doseClear r => some r
  | .turnerEnable r => some r
  | .refresh r => some r
  | .timeSet r => some r
  | .restart r => some r
  | .captureClear r => some r
  | .base r => some r
  | .take r => some r
  | .spot r => some r
  | .holdSet r => some r
  | .holdClear r => some r
  | .walkEnd => none
  | .vesselEvaluation _ => none
  | .stepMaximum _ => none
  | .boxEvaluation _ => none
  | .dayEnded _ => none
  | .turnIntervalReached _ => none
  | .grant => none
  | .fanFeedbackMet => none
  | .turnerAtBox => none
  | .turnerFinished => none
  | .release => none
  | .prepTimeout => none
  | .startTimeout => none
  | .turnOverrun => none
  | .sprayTrailExpiry => none
  | .parkDelayExpiry => none
  | .parkPositionReached => none
  | .kilnEvaluation _ => none
  | .phaseMaximum _ => none
  | .flameLost _ => none

/-- What the family says of a command. -/
def Addressing.Statement (i : Instr) : Prop :=
  i.wf = true → ∀ r, Addressing.request i = some r → goodSource r.source = true

theorem Addressing.powerOnReset : ∀ straps retentionHeld, Addressing.Statement (.powerOnReset straps retentionHeld) :=
  fun _ _ _ _ e => nomatch e

theorem Addressing.resetAssert : ∀ torn, Addressing.Statement (.resetAssert torn) :=
  fun _ _ _ e => nomatch e

theorem Addressing.emptySlot : ∀ slot fillFirst, Addressing.Statement (.emptySlot slot fillFirst) :=
  fun _ _ _ _ e => nomatch e

theorem Addressing.badCell : ∀ slot fillFirst, Addressing.Statement (.badCell slot fillFirst) :=
  fun _ _ _ _ e => nomatch e

theorem Addressing.sampleCell : ∀ slot fillFirst, Addressing.Statement (.sampleCell slot fillFirst) :=
  fun _ _ _ _ e => nomatch e

theorem Addressing.pollAnswered : ∀ p, Addressing.Statement (.pollAnswered p) :=
  fun _ _ _ e => nomatch e

theorem Addressing.terminalCount : ∀ c, Addressing.Statement (.terminalCount c) :=
  fun _ _ _ e => nomatch e

theorem Addressing.commandCell : ∀ slot fillFirst, Addressing.Statement (.commandCell slot fillFirst) :=
  fun _ _ _ _ e => nomatch e

theorem Addressing.timeCell : ∀ slot fillFirst, Addressing.Statement (.timeCell slot fillFirst) :=
  fun _ _ _ _ e => nomatch e

theorem Addressing.forwardCell : ∀ slot fillFirst, Addressing.Statement (.forwardCell slot fillFirst) :=
  fun _ _ _ _ e => nomatch e

theorem Addressing.loopSilent : ∀ elapsed, Addressing.Statement (.loopSilent elapsed) :=
  fun _ _ _ e => nomatch e

theorem Addressing.loopUp : Addressing.Statement .loopUp :=
  fun _ _ e => nomatch e

theorem Addressing.pendingReoffer : ∀ who, Addressing.Statement (.pendingReoffer who) :=
  fun _ _ _ e => nomatch e

theorem Addressing.congested : Addressing.Statement .congested :=
  fun _ _ e => nomatch e

theorem Addressing.timeBaseSecond : Addressing.Statement .timeBaseSecond :=
  fun _ _ e => nomatch e

theorem Addressing.qualityHeld : ∀ p, Addressing.Statement (.qualityHeld p) :=
  fun _ _ _ e => nomatch e

theorem Addressing.qualityStale : ∀ p, Addressing.Statement (.qualityStale p) :=
  fun _ _ _ e => nomatch e

theorem Addressing.pollDeadline : ∀ e, Addressing.Statement (.pollDeadline e) :=
  fun _ _ _ e => nomatch e

theorem Addressing.badFunction : ∀ code r, Addressing.Statement (.badFunction code r) :=
  fun _ _ h _ e => by
  cases e
  simp only [Instr.wf, Bool.and_eq_true] at h
  exact h.1

theorem Addressing.cursor : ∀ r, Addressing.Statement (.cursor r) :=
  fun _ h _ e => by cases e; exact h

theorem Addressing.write : ∀ r, Addressing.Statement (.write r) :=
  fun _ h _ e => by cases e; exact h

theorem Addressing.read : ∀ r, Addressing.Statement (.read r) :=
  fun _ h _ e => by cases e; exact h

theorem Addressing.clearShadow : ∀ r, Addressing.Statement (.clearShadow r) :=
  fun _ h _ e => by cases e; exact h

theorem Addressing.copyActive : ∀ r, Addressing.Statement (.copyActive r) :=
  fun _ h _ e => by cases e; exact h

theorem Addressing.activate : ∀ r, Addressing.Statement (.activate r) :=
  fun _ h _ e => by cases e; exact h

theorem Addressing.endOfCheck : Addressing.Statement .endOfCheck :=
  fun _ _ e => nomatch e

theorem Addressing.start : ∀ r, Addressing.Statement (.start r) :=
  fun _ h _ e => by cases e; exact h

theorem Addressing.hold : ∀ r, Addressing.Statement (.hold r) :=
  fun _ h _ e => by cases e; exact h

theorem Addressing.resume : ∀ r, Addressing.Statement (.resume r) :=
  fun _ h _ e => by cases e; exact h

theorem Addressing.manual : ∀ r, Addressing.Statement (.manual r) :=
  fun _ h _ e => by cases e; exact h

theorem Addressing.auto : ∀ r, Addressing.Statement (.auto r) :=
  fun _ h _ e => by cases e; exact h

theorem Addressing.stopProgram : ∀ r, Addressing.Statement (.stopProgram r) :=
  fun _ h _ e => by cases e; exact h

theorem Addressing.discard : ∀ r, Addressing.Statement (.discard r) :=
  fun _ h _ e => by cases e; exact h

theorem Addressing.transfer : ∀ r, Addressing.Statement (.transfer r) :=
  fun _ h _ e => by cases e; exact h

theorem Addressing.transferAttempt : ∀ b, Addressing.Statement (.transferAttempt b) :=
  fun _ _ _ e => nomatch e

theorem Addressing.voteWaitExpiry : ∀ b, Addressing.Statement (.voteWaitExpiry b) :=
  fun _ _ _ e => nomatch e

theorem Addressing.transferDone : ∀ r, Addressing.Statement (.transferDone r) :=
  fun _ h _ e => by cases e; exact h

theorem Addressing.transferAbort : ∀ r, Addressing.Statement (.transferAbort r) :=
  fun _ h _ e => by cases e; exact h

theorem Addressing.transferOverdue : ∀ b, Addressing.Statement (.transferOverdue b) :=
  fun _ _ _ e => nomatch e

theorem Addressing.doseStart : ∀ r, Addressing.Statement (.doseStart r) :=
  fun _ h _ e => by cases e; exact h

theorem Addressing.unmask : ∀ r, Addressing.Statement (.unmask r) :=
  fun _ h _ e => by cases e; exact h

theorem Addressing.doseClear : ∀ r, Addressing.Statement (.doseClear r) :=
  fun _ h _ e => by cases e; exact h

theorem Addressing.turnerEnable : ∀ r, Addressing.Statement (.turnerEnable r) :=
  fun _ h _ e => by cases e; exact h

theorem Addressing.refresh : ∀ r, Addressing.Statement (.refresh r) :=
  fun _ h _ e => by cases e; exact h

theorem Addressing.timeSet : ∀ r, Addressing.Statement (.timeSet r) :=
  fun _ h _ e => by cases e; exact h

theorem Addressing.restart : ∀ r, Addressing.Statement (.restart r) :=
  fun _ h _ e => by cases e; exact h

theorem Addressing.captureClear : ∀ r, Addressing.Statement (.captureClear r) :=
  fun _ h _ e => by cases e; exact h

theorem Addressing.base : ∀ r, Addressing.Statement (.base r) :=
  fun _ h _ e => by cases e; exact h

theorem Addressing.take : ∀ r, Addressing.Statement (.take r) :=
  fun _ h _ e => by cases e; exact h

theorem Addressing.spot : ∀ r, Addressing.Statement (.spot r) :=
  fun _ h _ e => by cases e; exact h

theorem Addressing.holdSet : ∀ r, Addressing.Statement (.holdSet r) :=
  fun _ h _ e => by cases e; exact h

theorem Addressing.holdClear : ∀ r, Addressing.Statement (.holdClear r) :=
  fun _ h _ e => by cases e; exact h

theorem Addressing.walkEnd : Addressing.Statement .walkEnd :=
  fun _ _ e => nomatch e

theorem Addressing.vesselEvaluation : ∀ v, Addressing.Statement (.vesselEvaluation v) :=
  fun _ _ _ e => nomatch e

theorem Addressing.stepMaximum : ∀ v, Addressing.Statement (.stepMaximum v) :=
  fun _ _ _ e => nomatch e

theorem Addressing.boxEvaluation : ∀ b, Addressing.Statement (.boxEvaluation b) :=
  fun _ _ _ e => nomatch e

theorem Addressing.dayEnded : ∀ b, Addressing.Statement (.dayEnded b) :=
  fun _ _ _ e => nomatch e

theorem Addressing.turnIntervalReached : ∀ b, Addressing.Statement (.turnIntervalReached b) :=
  fun _ _ _ e => nomatch e

theorem Addressing.grant : Addressing.Statement .grant :=
  fun _ _ e => nomatch e

theorem Addressing.fanFeedbackMet : Addressing.Statement .fanFeedbackMet :=
  fun _ _ e => nomatch e

theorem Addressing.turnerAtBox : Addressing.Statement .turnerAtBox :=
  fun _ _ e => nomatch e

theorem Addressing.turnerFinished : Addressing.Statement .turnerFinished :=
  fun _ _ e => nomatch e

theorem Addressing.release : Addressing.Statement .release :=
  fun _ _ e => nomatch e

theorem Addressing.prepTimeout : Addressing.Statement .prepTimeout :=
  fun _ _ e => nomatch e

theorem Addressing.startTimeout : Addressing.Statement .startTimeout :=
  fun _ _ e => nomatch e

theorem Addressing.turnOverrun : Addressing.Statement .turnOverrun :=
  fun _ _ e => nomatch e

theorem Addressing.sprayTrailExpiry : Addressing.Statement .sprayTrailExpiry :=
  fun _ _ e => nomatch e

theorem Addressing.parkDelayExpiry : Addressing.Statement .parkDelayExpiry :=
  fun _ _ e => nomatch e

theorem Addressing.parkPositionReached : Addressing.Statement .parkPositionReached :=
  fun _ _ e => nomatch e

theorem Addressing.kilnEvaluation : ∀ k, Addressing.Statement (.kilnEvaluation k) :=
  fun _ _ _ e => nomatch e

theorem Addressing.phaseMaximum : ∀ k, Addressing.Statement (.phaseMaximum k) :=
  fun _ _ _ e => nomatch e

theorem Addressing.flameLost : ∀ k, Addressing.Statement (.flameLost k) :=
  fun _ _ _ e => nomatch e

end Sys2Proof.Laws
end

