-- ==== Sys2Proof/Laws/Sprays.lean ====
section
/-! SUPPORT. What the requests to a unit's channels do to the states of the channels, and that a grant is withdrawn only once the
spray of its box is no longer open (R158). -/

namespace Sys2Proof.Machine

/-! ### The states of the channels -/

/-- The state of channel `d`, as a function of the floor. -/
def Floor.stateOf (f : Floor) (d : Fin 12) : ChannelState := f.channels[d].state

/-- Channel `d` is ACTIVE or PAUSED, as a function of the floor. -/
def Floor.openAt (f : Floor) (d : Fin 12) : Bool := f.channels[d].isOpen

theorem openAt_stateOf (f : Floor) (d : Fin 12) : f.openAt d = (f.stateOf d == .active || f.stateOf d == .paused) := rfl

/-- What leaves the channels as they were leaves each open as it was. -/
theorem openAt_of_channels {f g : Floor} (h : g.channels = f.channels) (d : Fin 12) : g.openAt d = f.openAt d := by
  rw [Floor.openAt, Floor.openAt, h]

/-- An update of a channel that keeps its state keeps the state of every channel. -/
theorem channel_stateOf (f : Floor) (c d : Fin 12) (g : Channel → Channel) (h : ∀ x, (g x).state = x.state) :
    (f.channel c g).stateOf d = f.stateOf d := upd_proj Channel.state _ _ _ _ (h _)

theorem offerValve_stateOf (e : Env) (c d : Fin 12) (f : Floor) : (offerValve e c f).stateOf d = f.stateOf d := by
  unfold offerValve
  split
  · rfl
  · exact channel_stateOf _ _ _ _ fun _ => rfl

theorem setValve_stateOf (e : Env) (c d : Fin 12) (w : ValveDecision) (f : Floor) :
    (setValve e c w f).stateOf d = f.stateOf d := by
  unfold setValve
  split
  · rfl
  · exact (offerValve_stateOf _ _ _ _).trans (channel_stateOf _ _ _ _ fun _ => rfl)

theorem enterChannel_stateOf (e : Env) (c d : Fin 12) (st : ChannelState) (f : Floor) :
    (enterChannel e c st f).stateOf d = if c = d then st else f.stateOf d := by
  rw [enterChannel, setValve_stateOf, Floor.stateOf, channel_channels, upd_get]
  split <;> rfl

/-- R135: STOP closes the channel, and every other is open as before. -/
theorem stopChannel_openAt (e : Env) (c d : Fin 12) (f : Floor) :
    (stopChannel e c f).openAt d = (f.openAt d && decide (c ≠ d)) := by
  unfold stopChannel
  split
  · rw [openAt_stateOf, openAt_stateOf, enterChannel_stateOf]
    split
    · next h => simp [h]
    · next h => simp [h]
  · next o =>
    by_cases h : c = d
    · subst h
      simpa using show f.openAt c = false from Bool.not_eq_true _ ▸ o
    · simp [h]

/-- R136: a telling moves a channel between ACTIVE and PAUSED at most. -/
theorem tellDemand_openAt (e : Env) (c d : Fin 12) (v : Bool) (f : Floor) : (tellDemand e c v f).openAt d = f.openAt d := by
  have told : ∀ x, (f.channel c fun y => { y with demand := v }).stateOf x = f.stateOf x :=
    fun x => channel_stateOf _ _ _ _ fun _ => rfl
  have enters : ∀ st, (st == .active || st == .paused) = f.openAt c →
      (enterChannel e c st (f.channel c fun y => { y with demand := v })).openAt d = f.openAt d := by
    intro st h
    rw [openAt_stateOf, enterChannel_stateOf, told]
    split
    · next e => rw [← e]; exact h
    · rfl
  have kept : (f.channel c fun y => { y with demand := v }).openAt d = f.openAt d := by
    rw [openAt_stateOf, openAt_stateOf, told]
  unfold tellDemand
  dsimp only
  split
  · split
    · next h => exact enters _ (by rw [openAt_stateOf, show f.stateOf c = .active from (told c).symm.trans h]; rfl)
    · next h => exact enters _ (by rw [openAt_stateOf, show f.stateOf c = .paused from (told c).symm.trans h]; rfl)
    · exact kept
  · exact kept

/-! ### The channels that a unit owns -/

@[simp] theorem mem_channelsOf (b : Bank) (u : PlantUnit) (c : Fin 12) : c ∈ b.channelsOf u ↔ b.channelOwner c = some u := by
  simp [Bank.channelsOf]

/-- No channel that unit `u` owns is open. -/
def ChannelsShut (b : Bank) (u : PlantUnit) (f : Floor) : Prop := ∀ c : Fin 12, b.channelOwner c = some u → f.openAt c = false

/-- What statements say of a spray, in the terms of this file. -/
theorem sprayShut_iff (s : State) (n : Fin 12) : s.SprayShut n ↔ ChannelsShut s.tables.active (.box n) s.floor := Iff.rfl

theorem openChannelOf_none (e : Env) (u : PlantUnit) (f : Floor) : openChannelOf e u f = none ↔ ChannelsShut e.bank u f := by
  simp [openChannelOf, ChannelsShut, Floor.openAt]

theorem openChannelOf_some {e : Env} {u : PlantUnit} {f : Floor} {c : Fin 12} (h : openChannelOf e u f = some c) :
    e.bank.channelOwner c = some u ∧ f.openAt c = true :=
  ⟨(mem_channelsOf _ _ _).mp (List.mem_of_find?_eq_some h), List.find?_some h⟩

/-- R135: STOP of a list of channels leaves open those that were open and are not in the list. -/
theorem stopAll_openAt (e : Env) (l : List (Fin 12)) (d : Fin 12) (f : Floor) :
    (l.foldl (fun f c => stopChannel e c f) f).openAt d = (f.openAt d && decide (d ∉ l)) := by
  induction l generalizing f with
  | nil => simp
  | cons c l ih =>
    rw [List.foldl_cons, ih, stopChannel_openAt]
    by_cases h : c = d
    · simp [h]
    · simp [h, Ne.symm h]

theorem stopChannelsOf_openAt (e : Env) (u : PlantUnit) (d : Fin 12) (f : Floor) :
    (stopChannelsOf e u f).openAt d = (f.openAt d && decide (e.bank.channelOwner d ≠ some u)) := by
  rw [stopChannelsOf, stopAll_openAt]
  simp

theorem endDemandOf_openAt (e : Env) (u : PlantUnit) (d : Fin 12) (f : Floor) : (endDemandOf e u f).openAt d = f.openAt d :=
  foldl_keeps (fun f => f.openAt d) _ (fun f c => tellDemand_openAt e c d false f) _ f

/-! ### The release (R158, R163) -/

theorem openSpray_none (e : Env) (b : Fin 12) (f : Floor) : openSpray e b f = none ↔ ChannelsShut e.bank (.box b) f :=
  openChannelOf_none e _ f

theorem stopSpray_shut (e : Env) (b : Fin 12) (f : Floor) : ChannelsShut e.bank (.box b) (stopSpray e b f) := fun c h => by
  simp [stopSpray, stopChannelsOf_openAt, h]

/-- The withdrawal of a grant opens and closes no channel. -/
theorem withdraw_openAt (e : Env) (b c : Fin 12) (f : Floor) : (withdraw e b f).openAt c = f.openAt c := by
  unfold withdraw
  dsimp only
  split
  · rw [endDemandOf_openAt]; rfl
  · rfl

/-- A release opens and closes no channel. -/
theorem releaseTurn_openAt (e : Env) (c : Fin 12) (f : Floor) : (releaseTurn e f).openAt c = f.openAt c := by
  unfold releaseTurn
  split
  · rfl
  · next b _ =>
    refine Eq.trans ?_ (withdraw_openAt e b c (f.arb (·.drop b)))
    apply openAt_of_channels
    dsimp only
    split <;> simp

/-- R158, R163: a trail that expires with a spray still open closes the channels of the box. -/
theorem trailExpired_openAt (e : Env) (b c d : Fin 12) (f : Floor) :
    (trailExpired e b c f).openAt d = (f.openAt d && decide (e.bank.channelOwner d ≠ some (.box b))) := by
  rw [trailExpired, releaseTurn_openAt, openAt_of_channels (raiseEvent_frame e _ _ _ _).2.1]
  exact stopChannelsOf_openAt e _ d f

theorem enterReleasing_openAt (e : Env) (r : TurnResult) (d : Fin 12) (f : Floor) (h : f.openAt d = false) :
    (enterReleasing e r f).openAt d = false := by
  unfold enterReleasing
  dsimp only
  split
  · exact h
  · split
    · exact (releaseTurn_openAt e d _).trans h
    · split
      · rw [trailExpired_openAt]
        exact Bool.and_eq_false_imp.mpr fun o => absurd (h.symm.trans o) (by decide)
      · exact h

/-- R158: where the expiry of the spray trail ends the turn of box `b`, no channel of the box is open. -/
theorem sprayTrailExpiry_shut (e : Env) (b : Fin 12) (f : Floor) (hs : f.arbiter.state = .releasing) (hg : f.arbiter.grant = some b)
    (ht : f.arbiter.expired e.second = true) : ChannelsShut e.bank (.box b) (sprayTrailExpiry e f) := by
  simp only [sprayTrailExpiry, hs, hg, ht, if_true]
  split
  · intro d o
    rw [trailExpired_openAt]
    simp [o]
  · next h => exact fun d o => (releaseTurn_openAt e d f).trans ((openSpray_none e b f).mp h d o)

/-- R158, R162: where the turn of box `b` overruns, no channel of the box is open. -/
theorem turnOverrun_shut (e : Env) (b : Fin 12) (f : Floor) (hs : f.arbiter.state = .turning) (hg : f.arbiter.grant = some b)
    (ht : f.arbiter.expired e.second = true) : ChannelsShut e.bank (.box b) (turnOverrun e f) := by
  simp only [turnOverrun, hs, hg, ht, if_true]
  intro d o
  exact enterReleasing_openAt e _ d _
    ((openAt_of_channels (raiseEvent_frame e _ _ _ _).2.1 d).trans (stopSpray_shut e b _ d o))

/-- R158, R166: where the granted box leaves RUNNING in its turn, no channel of the box is open. -/
theorem boxLeaves_shut (e : Env) (b : Fin 12) (f : Floor) (hs : f.arbiter.state = .turning) (hg : f.arbiter.grant = some b) :
    ChannelsShut e.bank (.box b) (boxLeaves e b f) := by
  simp only [boxLeaves, hs, hg, if_true]
  exact fun d o => enterReleasing_openAt e _ d _ (stopSpray_shut e b _ d o)

/-- R158, R165: where a turner fault ends the turn of box `b`, no channel of the box is open. -/
theorem turnerFault_shut (e : Env) (v : Int) (b : Fin 12) (f : Floor) (hg : f.arbiter.grant = some b) :
    ChannelsShut e.bank (.box b) (turnerFault e v f) := by
  simp only [turnerFault, hg]
  intro d o
  refine Eq.trans (openAt_of_channels ?_ d) ((withdraw_openAt e b d _).trans (stopSpray_shut e b (turnerStop e f) d o))
  simp

end Sys2Proof.Machine
end

