-- ==== Sys2Proof/Tests/Slice0.lean ====
section
/-! SUPPORT. The model's own tests: ill-formed commands that WellFormed refuses, worked examples of the spec, and for each
statement of Obligations.lean with hypotheses a concrete state and operands that meet them, each clause in turn. -/

namespace Sys2Proof.Tests

-- One theorem after another: many kernel evaluations waiting at once, each with a thread of its own, exhaust the memory.
set_option Elab.async false

open Sys2Proof Sys2Proof.Machine

/-! ### A small plant: station node 16, officer 32, actuators 64 to 127, the turner 56, probes 128 to 191; the part is node 5 -/

/-- Table 0 of the plant of the tests. -/
def bank0 : Bank :=
  [(3, 7#32), (5, 16#32), (6, 100#32), (7, 60#32), (8, 2#32), (9, 3#32), (10, 1#32), (11, 4#32), (13, 5#32),
    (14, 30#32)]

/-- Table 1 of the plant of the tests. -/
def bank1 : Bank :=
  [(15, 1#32), (16, 128#32), (17, 1#32), (20, 1#32), (21, 128#32), (22, 2#32), (23, 1#32), (24, 1#32)]

/-- Table 2 of the plant of the tests. -/
def bank2 : Bank :=
  [(1296, 512#32), (1297, 10#32), (1298, 4294966296#32), (1299, 1000#32), (1300, 60#32), (1301, 60#32), (1302, 1#32),
    (1303, 256#32), (1307, 60#32), (1308, 60#32)]

/-- Table 3 of the plant of the tests. -/
def bank3 : Bank :=
  [(2639, 10#32), (2640, 11#32), (2641, 12#32), (2642, 5#32), (2643, 13#32), (2644, 14#32), (2645, 15#32),
    (2646, 5#32)]

/-- Table 4 of the plant of the tests. -/
def bank4 : Bank :=
  [(2703, 1#32), (2704, 16#32), (2705, 16#32), (2706, 1#32), (2710, 1#32), (2711, 32#32), (2712, 16#32),
    (2713, 2#32), (2717, 1#32), (2718, 64#32), (2719, 64#32), (2720, 4#32), (2723, 2#32), (2724, 1#32),
    (2725, 56#32), (2726, 8#32), (2727, 5#32), (2731, 1#32), (2732, 128#32), (2733, 64#32), (2734, 3#32)]

/-- Table 5 of the plant of the tests. -/
def bank5 : Bank :=
  [(2759, 1#32), (2760, 64#32), (2761, 64#32), (2762, 256#32), (2767, 1#32), (2770, 1#32), (2771, 65#32),
    (2772, 65#32), (2773, 256#32), (2778, 2#32), (2781, 1#32), (2782, 66#32), (2783, 66#32), (2784, 256#32),
    (2789, 3#32), (2790, 20#32), (2791, 10#32), (2792, 1#32), (2793, 56#32), (2794, 63#32), (2795, 256#32),
    (2800, 2#32)]

/-- Table 6 of the plant of the tests. -/
def bank6 : Bank :=
  [(3463, 1#32), (3464, 20#32), (3465, 21#32), (3466, 22#32), (3468, 1#32), (3470, 16385#32), (3471, 16386#32),
    (3472, 16387#32), (3473, 16388#32), (3474, 16389#32), (3559, 1#32), (3560, 30#32), (3561, 16390#32),
    (3562, 31#32), (3563, 1#32), (3564, 1#32), (3566, 1#32), (3575, 1#32), (3576, 32#32), (3577, 16391#32),
    (3578, 33#32), (3579, 12#32), (3580, 1#32), (3582, 1#32), (3751, 1#32), (3752, 40#32), (3753, 41#32),
    (3754, 42#32), (3755, 43#32), (3756, 44#32), (3757, 16392#32), (3758, 16393#32), (3760, 1#32), (3761, 2#32),
    (3783, 1#32), (3784, 56#32), (3785, 1#32), (3786, 2#32), (3787, 3#32), (3788, 4#32), (3789, 50#32),
    (3790, 51#32)]

/-- Table 7 of the plant of the tests. -/
def bank7 : Bank :=
  [(3800, 100#32), (3801, 101#32), (3802, 64#32), (3803, 20#32), (3806, 30#32), (3807, 6#32), (3808, 102#32),
    (3809, 103#32), (3810, 64#32), (3811, 21#32), (3812, 2#32), (3814, 30#32), (3815, 18#32), (3816, 104#32),
    (3817, 105#32), (3818, 64#32), (3819, 22#32), (3820, 2#32), (3822, 30#32)]

/-- Table 8 of the plant of the tests. -/
def bank8 : Bank :=
  [(3897, 60#32), (3898, 140#32), (3899, 10#32), (3900, 300#32), (3901, 20#32), (3903, 500#32), (3906, 1#32),
    (3908, 60#32), (3909, 140#32), (3910, 10#32), (3911, 300#32), (3912, 20#32), (3913, 1#32), (4071, 1#32),
    (4073, 60#32), (4074, 140#32), (4075, 10#32), (4076, 300#32), (4077, 20#32), (4078, 1#32), (5303, 2#32),
    (5314, 1#32)]

/-- Table 9 of the plant of the tests. -/
def bank9 : Bank :=
  [(5391, 180#32), (5392, 10#32), (5393, 20#32), (5394, 80#32), (5395, 60#32), (5396, 50#32), (5397, 1440#32),
    (5399, 170#32), (5400, 10#32), (5401, 20#32), (5402, 80#32), (5403, 60#32), (5405, 1440#32), (5903, 2#32),
    (5904, 20#32), (5905, 5#32), (5906, 40#32), (5907, 60#32), (5908, 60#32), (5909, 30#32), (5910, 10#32)]

/-- Table 10 of the plant of the tests. -/
def bank10 : Bank :=
  [(5968, 600#32), (5969, 700#32), (5970, 5#32), (5971, 60#32), (5972, 600#32), (5978, 1#32), (5979, 700#32),
    (5980, 800#32), (5981, 5#32), (5982, 50#32), (5983, 600#32), (5984, 50#32), (6056, 600#32), (6057, 700#32),
    (6058, 5#32), (6059, 60#32), (6060, 600#32), (6062, 1000#32), (6063, 900#32), (6319, 2#32), (6320, 900#32),
    (6321, 50#32), (6322, 40#32), (6323, 100#32), (6324, 2#32), (6325, 4#32), (6326, 20#32), (6327, 120#32),
    (6328, 60#32), (6329, 700#32), (6330, 1#32), (6331, 900#32), (6332, 50#32), (6333, 40#32), (6334, 100#32),
    (6335, 2#32), (6336, 4#32), (6337, 20#32), (6338, 120#32), (6339, 60#32), (6340, 700#32)]

/-- The loaded tables of the plant of the tests. -/
def bank : Bank :=
  bank0 ++ bank1 ++ bank2 ++ bank3 ++ bank4 ++ bank5 ++ bank6 ++ bank7 ++ bank8 ++ bank9 ++ bank10

/-- The part in operating mode with the loop UP. -/
def plant : State :=
  { State.reset with
    loop := ⟨5#8, true, 16, 0, some 100, false⟩
    tables := ⟨bank, [], true, 0, 0, none⟩
    timeUnset := false
    second := 1000 }

/-- A point takes a FRESH value. -/
def withPoint (s : State) (p : Fin 192) (v : Int) : State := { s with points := s.points.set p ⟨v, .fresh, false, false, 0⟩ }

/-- The floor changes, and the lines follow. -/
def changed (s : State) (g : Floor → Floor) : State := setLines { s with floor := g s.floor }

/-- A step is due. -/
def dueNow (s : State) (i : Instr) : State := { s with due := [i] }

/-- A request of the station (node 16). -/
def ask (value : Int) (qual : Nat) : Req := ⟨16#8, 9#8, Word.ofValue value, BitVec.ofNat 8 qual, true⟩

/-- A request of the officer (node 32). -/
def officer (value : Int) (qual : Nat) : Req := ⟨32#8, 9#8, Word.ofValue value, BitVec.ofNat 8 qual, true⟩

/-- A good FULL cell. -/
def cell (dest source kind func : Nat) (value : Int) (qual : Nat) : Slot :=
  Slot.fresh ⟨0x5A#8, BitVec.ofNat 8 dest, BitVec.ofNat 8 source, BitVec.ofNat 8 kind, BitVec.ofNat 8 func, 7#8,
    Word.ofValue value, BitVec.ofNat 8 qual, 0#8⟩

/-- The hypotheses of `State.Reaches`, as a test. -/
def reachesCheck (s : State) (r : Req) : Bool :=
  !s.inReset && decide (s.due = []) && (s.loop.up || decide (s.loop.goodRun < 15)) && s.nodeValid && goodSource r.source &&
    r.source != s.loop.node && decide (s.pins = s.lines)

theorem reaches_of (s : State) (r : Req) (h : reachesCheck s r = true) : s.Reaches r := by
  simp only [reachesCheck, Bool.and_eq_true, Bool.not_eq_true', decide_eq_true_eq, Bool.or_eq_true, bne_iff_ne] at h
  obtain ⟨⟨⟨⟨⟨⟨h1, h2⟩, h3⟩, h4⟩, h5⟩, h6⟩, h7⟩ := h
  exact ⟨⟨h1, h2⟩, h3, h4, h5, h6, h7⟩

theorem ready_of (s : State) (fn : Function) (r : Req)
    (h : (reachesCheck s r && if s.tables.present then mayCall s fn r else fn.servedTransparent) = true) : s.Ready fn r := by
  simp only [Bool.and_eq_true] at h
  refine ⟨reaches_of s r h.1, ?_⟩
  have h2 := h.2
  split at h2 <;> simp_all

theorem test_ready : plant.Ready .start (ask 0 6) := ready_of _ _ _ (by decide +kernel)
theorem test_cell : classify (cell 255 128 1 1 5 0) = .good := by decide +kernel

/-! ### States of the plant -/

theorem steady_of (s : State) (h : (!s.inReset && decide (s.due = []) && (s.loop.up || decide (s.loop.goodRun < 15)) &&
    decide (s.pins = s.lines)) = true) : s.Awake ∧ s.GoodSteady ∧ s.LinesFollow := by
  simp only [Bool.and_eq_true, Bool.not_eq_true', decide_eq_true_eq, Bool.or_eq_true] at h
  exact ⟨⟨h.1.1.1, h.1.1.2⟩, h.1.2, h.2⟩

/-- A unit's context in a state, with batch 7. -/
def ctxIn (st : UnitState) (why : Option HoldReason) (back : Option ResumeState) (p : Option Position) : Ctx :=
  ⟨st, why, back, some 7, p, none⟩

/-- Batch 7, held by a unit. -/
def batch7 (u : PlantUnit) : Batch :=
  ⟨7, u, 1000, ⟨some 990, some 400⟩, ⟨some 980, some 450⟩, ⟨none, none⟩, [], false, false, false, none⟩

/-- A unit in a state of its own, with batch 7 in slot 0. -/
def unitIn (u : PlantUnit) (c : Ctx) (g : Floor → Floor) : State :=
  changed plant fun f => g ({ f with batches := f.batches.set 0 (some (batch7 u)) }.updCtx u fun _ => c)

/-- Item `i` of program `p` of a unit's kind. -/
def place (u : PlantUnit) (p i : Nat) : Option Position := some (bank.position u p i)

/-- The vessel 0 in a state. -/
def vessel0 (st : UnitState) (p i : Nat) (g : Floor → Floor) : State :=
  unitIn (.vessel 0) (ctxIn st none none (place (.vessel 0) p i)) g

/-- The box 0 in a state, in day `i` of program 0. -/
def box0 (st : UnitState) (i : Nat) (g : Floor → Floor) : State :=
  unitIn (.box 0) (ctxIn st none none (place (.box 0) 0 i)) g

/-- The kiln 0 in a state, in phase `i` of program 0, Ton FRESH at 60 degrees. -/
def kiln0 (st : UnitState) (i : Nat) (g : Floor → Floor) : State :=
  setLines (withPoint (unitIn (.kiln 0) (ctxIn st none none (place (.kiln 0) 0 i)) g) 40 600)

/-- A queued cell. -/
def cell1 : QCell := ⟨64#8, 2#8, 1#8, 0#8, 1#32, 0#8, 1000⟩

/-- The plant with one command queued. -/
def queued : State := changed plant fun f => { f with queue := { f.queue with command := [cell1] } }

/-- The part in TRANSPARENT mode. -/
def transparent : State := { plant with tables := ⟨[], bank, false, 0, 0, none⟩ }

/-- A bad cell. -/
def badSlot : Slot := ⟨0x11#8, 0#8, 0#8, 0#8, 0#8, 0#8, 0#32, 0#8, 0#8⟩

/-! ### Resets and slots -/

theorem witness_ResetSilencesThePart : plant.inReset = false ∧ ({ plant with inReset := true } : State).inReset = true ∧
    ∀ straps held, Instr.loopUp ≠ .powerOnReset straps held := ⟨rfl, rfl, by simp⟩

/-- A record. -/
def record0 : SampleRecord :=
  ⟨0, .spot, 7, 0, 0#32, false, 0, .missing, 0, .missing, none, none, none, none, 0#16⟩

theorem witness_PowerOnResetLeaves :
    plant.floor.register.retained.valid = true ∧ plant.floor.register.retained.based = false ∧
      plant.floor.register.retained.records = [] ∧
      (let s := changed plant (·.reg fun r => { r with retained := ⟨[record0], 1, 0#16, false, true⟩ });
        s.floor.register.retained.records ≠ [] ∧ s.floor.register.retained.based = false) ∧
      (changed plant (·.reg fun r => { r with retained := ⟨[], 0, 0#16, true, true⟩ })).floor.register.retained.based = true ∧
      (changed plant (·.reg fun r => { r with retained := ⟨[], 0, 0#16, true, false⟩ })).floor.register.retained.valid =
        false := by decide +kernel

theorem witness_EmptyAndBadSlotsAreFilled :
    (queued.Awake ∧ queued.GoodSteady ∧ queued.LinesFollow) ∧ (plant.Awake ∧ plant.GoodSteady ∧ plant.LinesFollow) ∧
      queued.BadSteady ∧ plant.BadSteady ∧ plant.tables.present = true ∧ classify emptySlotBytes = .empty ∧
      classify badSlot = .bad ∧ (∃ q, queued.floor.queue.pop = some (cell1, q)) ∧ plant.floor.queue.pop = none :=
  ⟨steady_of _ (by decide +kernel), steady_of _ (by decide +kernel), .inr (by decide +kernel), .inr (by decide +kernel),
    rfl, by decide, by decide +kernel, ⟨_, rfl⟩, rfl⟩

theorem witness_CellForwardedOrStripped :
    (plant.Awake ∧ plant.GoodSteady ∧ plant.LinesFollow) ∧
      (let t := cell 255 5 1 1 0 0; classify t = .good ∧ t.source = plant.loop.node) ∧
      (let t := Slot.fresh { cell 255 16 1 1 0 0 with code := 0xA5#8 };
        classify t = .good ∧ t.source ≠ plant.loop.node ∧ t.code = 0xA5#8) ∧
      (let t := cell 5 16 1 1 0 0;
        classify t = .good ∧ t.source ≠ plant.loop.node ∧ t.code = 0x5A#8 ∧ t.dest = plant.loop.node ∧ t.kind ≠ 5#8) ∧
      (let t := cell 6 16 3 1 0 0;
        classify t = .good ∧ t.source ≠ plant.loop.node ∧ t.code = 0x5A#8 ∧ t.dest ≠ plant.loop.node ∧ t.kind = 3#8) ∧
      (let t := cell 255 16 4 0 9 0;
        classify t = .good ∧ t.kind = 4#8 ∧ t.dest ≠ plant.loop.node ∧ bank.nodeClass t.source = .station) ∧
      (let t := cell 255 48 4 0 9 0;
        classify t = .good ∧ t.kind = 4#8 ∧ t.dest ≠ plant.loop.node ∧ bank.nodeClass t.source ≠ .station) :=
  ⟨steady_of _ (by decide +kernel), by decide +kernel⟩

theorem witness_TransparentSlotPassesUnchanged :
    (transparent.Awake ∧ transparent.GoodSteady ∧ transparent.LinesFollow) ∧ transparent.BadSteady ∧
      transparent.tables.present = false ∧ classify badSlot = .bad ∧ classify (cell 255 16 4 0 9 0) = .good ∧
      (cell 255 16 4 0 9 0).dest ≠ transparent.loop.node :=
  ⟨steady_of _ (by decide +kernel), .inr (by decide +kernel), by decide +kernel⟩

theorem meets_of (s : State) (slot : Slot) (kind : Byte) (h : (s.tables.present && classify slot == .good &&
    slot.code == 0x5A#8 && slot.kind == kind && slot.source != s.loop.node && slot.dest != s.loop.node) = true) :
    s.Meets slot kind := by
  simpa [State.Meets, and_assoc] using h

theorem noneWaiting_of (s : State) (h : (List.finRange 20).all (fun b => (waitingTransfer s.floor b).isNone) = true) :
    s.floor.NoneWaiting := by
  intro b
  have := List.all_eq_true.mp h b (List.mem_finRange b)
  simpa using this

theorem witness_SampleReachesItsPoint :
    (plant.Awake ∧ plant.GoodSteady ∧ plant.LinesFollow) ∧ plant.Meets (cell 255 128 1 1 200 0) 1#8 ∧
      bank.mapFind 128#8 1#8 = some 0 ∧ bank.field 1 0 3 = ((0 : Fin 192) : Nat) ∧ bank.field 1 0 4 = 0 ∧
      plant.Meets (cell 255 129 1 1 200 0) 1#8 ∧ bank.mapFind 129#8 1#8 = none ∧
      plant.Meets (cell 255 128 1 1 200 2) 1#8 ∧ (cell 255 128 1 1 200 2).qual ≠ 0#8 ∧
      (cell 255 128 1 1 200 2).qual ≠ 1#8 :=
  ⟨steady_of _ (by decide +kernel), meets_of _ _ _ (by decide +kernel), by decide +kernel, by decide +kernel,
    by decide +kernel, meets_of _ _ _ (by decide +kernel), by decide +kernel, meets_of _ _ _ (by decide +kernel),
    by decide +kernel⟩

/-- The plant with channel 1 metered by point 1, whose sample is forwarded, and that channel changed by `x`. -/
def meteredBy (x : Channel → Channel) : State :=
  changed { plant with
    tables := ⟨(bank.write (flatIndex 7 1 1) 1#32).write (flatIndex 1 1 4) 0#32, [], true, 0, 0, none⟩ } (·.channel 1 x)

/-- A channel whose dose is open, 40 outstanding, its last reading 10. -/
def pouring (x : Channel) : Channel :=
  { x with state := .active, masked := false, base := 100, current := 40, valve := .opened, lastReading := some 10 }

/-- A channel that is closed, its last reading 10. -/
def shut (closed : Option Nat) (x : Channel) : Channel :=
  { x with valve := .closed, lastReading := some 10, closeTime := closed }

theorem witness_SampleReachesItsPoint_metered :
    (∀ v ∈ [(10 : Int), 49, 50, 51, 2147483658, 2147483659],
      (meteredBy pouring).Meets (cell 255 128 1 2 v 0) 1#8 ∧ (meteredBy id).Meets (cell 255 128 1 2 v 0) 1#8) ∧
    ((meteredBy pouring).Awake ∧ (meteredBy pouring).GoodSteady ∧ (meteredBy pouring).LinesFollow) ∧
    (meteredBy pouring).floor.NoneWaiting ∧
    (let b := (meteredBy id).tables.active;
      b.mapFind 128#8 2#8 = some 1 ∧ b.field 1 1 3 = ((1 : Fin 192) : Nat) ∧ b.field 2 1 0 = 1 ∧ b.field 1 1 4 = 0 ∧
        b.meterPoint 1 = ((1 : Fin 192) : Nat) ∧ (∀ d : Fin 12, d ≠ 1 → b.meterPoint d ≠ ((1 : Fin 192) : Nat)) ∧
        b.isTurnerPoint 1 = false ∧ (∀ k : Fin 2, b.kilnBinding k 1 ≠ ((1 : Fin 192) : Nat)) ∧ b.overrunWindow 1 = 30) ∧
    ((meteredBy id).floor.channels[1].lastReading = none ∧ (meteredBy id).floor.arbiter.grant = none ∧
      (meteredBy id).points[1].quality ≠ .stale ∧ pollFor (meteredBy id) 1 = none ∧
      (meteredBy pouring).floor.channels[1].isOpen = true ∧
      (∀ v, reportedOwner (meteredBy pouring).env 1 ≠ some (.vessel v)) ∧
      (2147483658 : Nat) - 10 = 2 ^ 31 - 0 ∧ (meteredBy (shut (some 970))).second = 970 + 30 ∧
      (meteredBy (shut (some 970))).floor.channels[1].isOpen = false ∧
      (meteredBy (shut (some 969))).floor.channels[1].closeTime = some 969 ∧
      (meteredBy (shut none)).floor.channels[1].note = false) :=
  ⟨fun v h => ⟨meets_of _ _ _ (by revert v; decide +kernel), meets_of _ _ _ (by revert v; decide +kernel)⟩,
    steady_of _ (by decide +kernel), noneWaiting_of _ (by decide +kernel), by decide +kernel⟩

/-! ### Commands -/

theorem witness_CommandDeniedOrForwarded :
    (plant.Awake ∧ plant.GoodSteady ∧ plant.LinesFollow) ∧ plant.Meets (cell 64 48 2 1 5 0) 2#8 ∧
      bank.nodeClass 64#8 = .actuator ∧ bank.nodeClass 48#8 ≠ .station ∧ plant.Meets (cell 200 48 2 1 5 0) 2#8 ∧
      bank.nodeClass 200#8 = .none :=
  ⟨steady_of _ (by decide +kernel), meets_of _ _ _ (by decide +kernel), by decide +kernel, by decide +kernel,
    meets_of _ _ _ (by decide +kernel), by decide +kernel⟩

theorem witness_LowestRuleDecides :
    (bank.field 5 0 0 ≠ 0 ∧ bank.field 5 0 1 ≤ 64 ∧ (64 : Int) ≤ bank.field 5 0 2 ∧
        (bank.field 5 0 3 = 256 ∨ bank.field 5 0 3 = 1) ∧ ruleCondition plant.env plant.floor 0 = true) ∧
      (∀ r, r < 64 → bank.field 5 r 0 ≠ 0 ∧ bank.field 5 r 1 ≤ 100 ∧ (100 : Int) ≤ bank.field 5 r 2 ∧
        (bank.field 5 r 3 = 256 ∨ bank.field 5 r 3 = 1) → ruleCondition plant.env plant.floor r = false) := by
  decide +kernel

theorem witness_StationCommandVerdicts :
    (plant.Awake ∧ plant.GoodSteady ∧ plant.LinesFollow) ∧ plant.Meets (cell 100 16 2 1 5 0) 2#8 ∧
      plant.Meets (cell 64 16 2 1 5 0) 2#8 ∧ plant.Meets (cell 66 16 2 1 10 0) 2#8 ∧ plant.Meets (cell 66 16 2 1 21 0) 2#8 ∧
      (bank.nodeClass 64#8 = .actuator ∧ bank.nodeClass 66#8 = .actuator ∧ bank.nodeClass 100#8 = .actuator ∧
        bank.nodeClass 16#8 = .station) ∧
      judge plant.env plant.floor 100#8 1#8 = .pass ∧ judge plant.env plant.floor 64#8 1#8 = .refuse ∧
      judge plant.env plant.floor 66#8 1#8 = .clamp 10 20 ∧ clamp 10 20 10 = 10 ∧ clamp 10 20 21 ≠ 21 :=
  ⟨steady_of _ (by decide +kernel), meets_of _ _ _ (by decide +kernel), meets_of _ _ _ (by decide +kernel),
    meets_of _ _ _ (by decide +kernel), meets_of _ _ _ (by decide +kernel), by decide +kernel⟩

/-- A full retry list, entry `i` last tried at second 900 + i. -/
def fullRetries : State :=
  { plant with
    retries := #v[some ⟨17#8, 64#8, 1#8, 1, 900⟩, some ⟨17#8, 65#8, 1#8, 1, 901⟩, some ⟨17#8, 66#8, 1#8, 1, 902⟩,
      some ⟨17#8, 67#8, 1#8, 1, 903⟩, some ⟨17#8, 68#8, 1#8, 1, 904⟩, some ⟨17#8, 69#8, 1#8, 1, 905⟩,
      some ⟨17#8, 70#8, 1#8, 1, 906⟩, some ⟨17#8, 71#8, 1#8, 1, 907⟩] }

/-- The station's command to node 65 has been tried `n` times. -/
def tried (n : Nat) : State := { plant with retries := plant.retries.set 0 (some ⟨16#8, 65#8, 1#8, n, 900⟩) }

theorem witness_RetryVerdictCounts :
    (plant.Awake ∧ plant.GoodSteady ∧ plant.LinesFollow) ∧ plant.Meets (cell 65 16 2 1 5 0) 2#8 ∧
      plant.Meets (cell 56 16 2 1 5 0) 2#8 ∧ (fullRetries.Awake ∧ fullRetries.GoodSteady ∧ fullRetries.LinesFollow) ∧
      fullRetries.Meets (cell 65 16 2 1 5 0) 2#8 ∧ ((tried 1).Awake ∧ (tried 1).GoodSteady ∧ (tried 1).LinesFollow) ∧
      (tried 1).Meets (cell 65 16 2 1 5 0) 2#8 ∧ ((tried 2).Awake ∧ (tried 2).GoodSteady ∧ (tried 2).LinesFollow) ∧
      (judge plant.env plant.floor 65#8 1#8 = .retry ∧ judge plant.env plant.floor 56#8 1#8 = .retry ∧
        bank.nodeClass 56#8 = .turner ∧ bank.windowOf 65#8 = some 2 ∧ bank.windowOf 56#8 = some 3 ∧
        bank.retryLimit 3 = 0 ∧ bank.retryLimit 2 = 2) ∧
      (retryFind plant 16#8 65#8 1#8 = none ∧ firstIndex plant.retries (·.isNone) = some 0) ∧
      (retryFind fullRetries 16#8 65#8 1#8 = none ∧ firstIndex fullRetries.retries (·.isNone) = none ∧
        ∀ j : Fin 8, retryLast fullRetries 0 ≤ retryLast fullRetries j ∧
          (j < 0 → retryLast fullRetries 0 < retryLast fullRetries j)) ∧
      retryFind (tried 1) 16#8 65#8 1#8 = some 0 ∧ retryFind (tried 2) 16#8 65#8 1#8 = some 0 :=
  ⟨steady_of _ (by decide +kernel), meets_of _ _ _ (by decide +kernel), meets_of _ _ _ (by decide +kernel),
    steady_of _ (by decide +kernel), meets_of _ _ _ (by decide +kernel), steady_of _ (by decide +kernel),
    meets_of _ _ _ (by decide +kernel), steady_of _ (by decide +kernel), by decide +kernel⟩

/-! ### The loop's state -/

theorem witness_LoopSilenceHoldsAndTrips :
    (plant.Awake ∧ plant.GoodSteady ∧ plant.LinesFollow) ∧ plant.loop.up = true ∧ plant.loop.silence = some 100 ∧
      (∀ limit, plant.loop.silence = some limit → 99 < limit) ∧
      (let s := kiln0 .running 0 fun f => (f.updCtx (.vessel 0) fun _ => ctxIn .running none none none).updCtx (.box 0)
          fun _ => ctxIn .running none none none;
        s.inReset = false ∧ s.due = [] ∧ s.loop.up = true ∧ s.floor.kilns[0].ctx.state = .running ∧
          s.floor.vessels[0].ctx.state = .running ∧ s.floor.boxes[0].ctx.state = .running) :=
  ⟨steady_of _ (by decide +kernel), rfl, rfl, by intro l h; cases h; decide, by decide +kernel⟩

theorem witness_SlotsCountAndLoopComesUp :
    (plant.loop.goodRun ≤ 16 ∧ plant.loop.badRun ≤ 16) ∧
      (let s : State := { plant with loop := { plant.loop with up := false } };
        s.inReset = false ∧ s.loop.up = false ∧ s.loop.goodRun = 16) := by decide

/-- The loop in a state, the lines following. -/
def looped (s : State) (up : Bool) (good bad : Nat) : State :=
  setLines { s with loop := { s.loop with up := up, goodRun := good, badRun := bad } }

theorem witness_LoopSilenceHoldsAndTrips_badRun :
    (let s := looped (kiln0 .running 0 fun f => f.updCtx (.vessel 0) fun _ => ctxIn .running none none none) true 0 15;
      s.inReset = false ∧ s.due = [] ∧ s.loop.up = true ∧ s.loop.badRun = 15 ∧ classify badSlot = .bad ∧
        s.floor.kilns[0].ctx.state = .running ∧ s.floor.vessels[0].ctx.state = .running) ∧
    (let s := looped plant true 0 16; s.loop.badRun = 16) := by decide +kernel

theorem witness_SlotsCountAndLoopComesUp_arriving :
    (let s := looped queued false 15 0;
      s.inReset = false ∧ s.due = [] ∧ s.loop.up = false ∧ s.loop.goodRun = 15 ∧ classify emptySlotBytes = .empty ∧
        classify (cell 255 48 4 0 9 0) = .good ∧ s.tables.present = true ∧ s.floor.queue.pop.isSome = true ∧
        ∀ k : Fin 2, s.floor.kilns[k].ctx.state ≠ .running ∧ s.floor.kilns[k].ctx.state ≠ .held) ∧
    (let s := looped plant false 15 0; s.floor.queue.pop = none) ∧
    (plant.pins = plant.lines ∧ plant.loop.up = true) := by decide +kernel

/-! ### The management functions -/

theorem witness_RightsAndModeDecideService :
    plant.Reaches (officer 0 0) ∧ functionOf 99#8 = none ∧ mayCall plant .hold (officer 0 0) = false ∧
      transparent.Reaches (ask 0 0) ∧ Function.start.servedTransparent = false :=
  ⟨reaches_of _ _ (by decide +kernel), by decide +kernel, by decide +kernel, reaches_of _ _ (by decide +kernel), rfl⟩

theorem witness_CursorMovesAndWriteStores :
    plant.Ready .cursor (ask 255 1) ∧ 255 < cursorEntries 1 ∧ plant.Ready .cursor (ask 256 1) ∧
      ¬((256 : Int) < cursorEntries 1) ∧ plant.Ready .write (ask 5 14) ∧ plant.Ready .write (ask 5 15) ∧
      plant.tables.check = none ∧ 14 < tableFields 0 ∧ ¬15 < tableFields 0 ∧
      State.Ready { plant with tables := ⟨bank, [], true, 0, 0, some (16#8, 1#8)⟩ } .write (ask 5 0) :=
  ⟨ready_of _ _ _ (by decide +kernel), by decide, ready_of _ _ _ (by decide +kernel), by decide,
    ready_of _ _ _ (by decide +kernel), ready_of _ _ _ (by decide +kernel), rfl, by decide, by decide,
    ready_of _ _ _ (by decide +kernel)⟩

/-- The load cursor on an entry of a table or view. -/
def cursorOn (n i : Nat) : State := { plant with tables := ⟨bank, [], true, n, i, none⟩ }

theorem witness_ReadAnswersTheField :
    (cursorOn 1 0).Ready .read (ask 0 5) ∧ (cursorOn 1 0).Ready .read (ask 0 4) ∧ (cursorOn 1 0).Ready .read (ask 0 132) ∧
      transparent.Ready .read (ask 0 128) ∧ (cursorOn 32 0).Ready .read (ask 0 0) ∧ (cursorOn 35 11).Ready .read (ask 0 12) ∧
      (channelView (cursorOn 35 11).floor.channels[11])[12]? = some 0 ∧ (cursorOn 35 11).Ready .read (ask 0 13) ∧
      (channelView (cursorOn 35 11).floor.channels[11])[13]? = none ∧ tableFields 1 = 5 ∧
      (cursorOn 37 1).Ready .read (ask 0 43) ∧ (kilnView (cursorOn 37 1).floor.kilns[1])[43]? = some 0 ∧
      (cursorOn 37 1).Ready .read (ask 0 44) ∧ (kilnView (cursorOn 37 1).floor.kilns[1])[44]? = none :=
  ⟨ready_of _ _ _ (by decide +kernel), ready_of _ _ _ (by decide +kernel), ready_of _ _ _ (by decide +kernel),
    ready_of _ _ _ (by decide +kernel), ready_of _ _ _ (by decide +kernel), ready_of _ _ _ (by decide +kernel),
    by decide +kernel, ready_of _ _ _ (by decide +kernel), by decide +kernel, rfl, ready_of _ _ _ (by decide +kernel),
    by decide +kernel, ready_of _ _ _ (by decide +kernel), by decide +kernel⟩

/-- The plant while a check runs. -/
def checking : State := { plant with tables := ⟨bank, bank, true, 0, 0, some (16#8, 1#8)⟩ }

theorem witness_ShadowIsClearedCopiedAndChecked :
    plant.Ready .clearShadow (ask 0 0) ∧ checking.Ready .clearShadow (ask 0 0) ∧ plant.Ready .copyActive (ask 0 0) ∧
      checking.Ready .copyActive (ask 0 0) ∧ plant.Ready .activate (ask 0 0) ∧ checking.Ready .activate (ask 0 0) ∧
      plant.tables.check = none ∧ checking.tables.check ≠ none :=
  ⟨ready_of _ _ _ (by decide +kernel), ready_of _ _ _ (by decide +kernel), ready_of _ _ _ (by decide +kernel),
    ready_of _ _ _ (by decide +kernel), ready_of _ _ _ (by decide +kernel), ready_of _ _ _ (by decide +kernel), rfl,
    by decide⟩

/-- A bank that passes every test but that of its check code, which the word `w` decides. -/
def loaded (w : Word) : Bank :=
  [(0, 0x56414C47#32), (1, 0x52412037#32), (2, 0x31343020#32), (3, 8#32), (4, w), (5, 16#32)]

theorem loaded_read (w : Word) (a : Nat) (h : a ≠ 4) : (loaded w).read a = (loaded 0#32).read a := by
  simp only [loaded, Bank.read]
  have : ¬ 4 = a := fun e => h e.symm
  simp [this]

/-- R75: the check code leaves the CHECK field out. -/
theorem loaded_checkCode (w : Word) : (loaded w).checkCode = (loaded 0#32).checkCode := by
  have h1 : (loaded w).values 0 checkPlace = (loaded 0#32).values 0 checkPlace := rfl
  have h2 : ∀ n, (loaded w).values (checkPlace + 1) n = (loaded 0#32).values (checkPlace + 1) n := fun n =>
    List.map_congr_left fun i _ => loaded_read w _ (by simp only [checkPlace]; omega)
  generalize loaded w = x at *
  generalize loaded 0#32 = y at *
  simp only [Bank.checkCode, h1, h2]

theorem loaded_check (w : Word) : (loaded w).unsigned 0 0 4 = w.toNat := rfl

/-- The bank with its own check code. -/
def loadedBank : Bank := loaded ((loaded 0#32).checkCode.setWidth 32)

theorem loadedBank_check : checkGood loadedBank = true := by
  unfold checkGood loadedBank
  rw [loaded_check, loaded_checkCode ((loaded 0#32).checkCode.setWidth 32)]
  generalize (loaded 0#32).checkCode = c
  simp only [BitVec.toNat_setWidth, beq_iff_eq]
  omega

set_option maxRecDepth 20000 in
theorem loaded_passes (w : Word) : nameGood (loaded w) = true ∧
    oldGeneration ⟨bank, loaded w, true, 0, 0, some (16#8, 1#8)⟩ = false ∧ duplicateKey (loaded w) = none ∧
    windowFault (loaded w) 5#8 = none ∧ badReference (loaded w) = none ∧ unitBusy bank (loaded w) plant.floor = none :=
  ⟨rfl, rfl, rfl, rfl, rfl, rfl⟩

/-- A bank with the same table 0 and further entries after it. -/
def loadedWith (rest : Bank) (w : Word) : Bank :=
  (0, 0x56414C47#32) :: (1, 0x52412037#32) :: (2, 0x31343020#32) :: (3, 8#32) :: (4, w) :: (5, 16#32) :: rest

theorem loadedWith_read (rest : Bank) (w : Word) (a : Nat) (h : a ≠ 4) :
    (loadedWith rest w).read a = (loadedWith rest 0#32).read a := by
  simp only [loadedWith, Bank.read]
  have : ¬ 4 = a := fun e => h e.symm
  simp [this]

theorem loadedWith_checkCode (rest : Bank) (w : Word) : (loadedWith rest w).checkCode = (loadedWith rest 0#32).checkCode := by
  have h1 : (loadedWith rest w).values 0 checkPlace = (loadedWith rest 0#32).values 0 checkPlace := rfl
  have h2 : ∀ n, (loadedWith rest w).values (checkPlace + 1) n = (loadedWith rest 0#32).values (checkPlace + 1) n := fun n =>
    List.map_congr_left fun i _ => loadedWith_read rest w _ (by simp only [checkPlace]; omega)
  generalize loadedWith rest w = x at *
  generalize loadedWith rest 0#32 = y at *
  simp only [Bank.checkCode, h1, h2]

theorem loadedWith_check (rest : Bank) (w : Word) : (loadedWith rest w).unsigned 0 0 4 = w.toNat := rfl

/-- Such a bank with its own check code. -/
def codedBank (rest : Bank) : Bank := loadedWith rest ((loadedWith rest 0#32).checkCode.setWidth 32)

theorem codedBank_coded (rest : Bank) : (codedBank rest).unsigned 0 0 4 = (codedBank rest).checkCode.toNat := by
  unfold codedBank
  rw [loadedWith_check, loadedWith_checkCode rest ((loadedWith rest 0#32).checkCode.setWidth 32)]
  generalize (loadedWith rest 0#32).checkCode = c
  simp only [BitVec.toNat_setWidth]
  omega

/-- Its name is good, and its generation above 7. -/
theorem codedBank_named (rest : Bank) : (codedBank rest).read 0 = 0x56414C47#32 ∧ (codedBank rest).read 1 = 0x52412037#32 ∧
    (codedBank rest).read 2 = 0x31343020#32 ∧ (codedBank rest).unsigned 0 0 3 = 8 := ⟨rfl, rfl, rfl, rfl⟩

/-- A bank whose check code is wrong, and one whose generation is too old: the first two tests that can fail. -/
theorem witness_EndOfCheckSwapsOrAnswers_code (rest : Bank) :
    ((loadedWith rest 0xFFFFFFFF#32).read 0 = 0x56414C47#32 ∧
      (loadedWith rest 0xFFFFFFFF#32).unsigned 0 0 4 ≠ (loadedWith rest 0xFFFFFFFF#32).checkCode.toNat) ∧
    (codedBank rest).unsigned 0 0 3 ≤ (codedBank rest).unsigned 0 0 3 :=
  ⟨⟨rfl, by
    have h := (loadedWith rest 0xFFFFFFFF#32).checkCode.isLt
    have e : (loadedWith rest 0xFFFFFFFF#32).unsigned 0 0 4 = 4294967295 := rfl
    omega⟩, le_refl _⟩

/-- Entries 0 and 2 of the Channel Map with one key; a window of size 3; a Channel Map entry that names point 192. -/
def twice : Bank := [(15, 1#32), (16, 128#32), (17, 1#32), (25, 1#32), (26, 128#32), (27, 1#32)]
def oddWindow : Bank := [(2703, 1#32), (2704, 16#32), (2705, 3#32), (2706, 1#32)]
def strayPoint : Bank := [(15, 1#32), (16, 128#32), (17, 1#32), (18, 192#32)]

set_option maxRecDepth 20000 in
/-- Each of these fails in its own test and in none before it; an empty rest fails in none. -/
theorem witness_EndOfCheckSwapsOrAnswers_tables :
    (∀ rest ∈ [oddWindow, strayPoint, []], (List.range 256).all (fun j =>
      j == 0 || (codedBank rest).field 1 j 0 == 0) = true) ∧
    ((codedBank twice).field 1 0 0 ≠ 0 ∧ (codedBank twice).field 1 1 0 = 0 ∧ (codedBank twice).field 1 2 0 ≠ 0 ∧
      (codedBank twice).field 1 0 1 = (codedBank twice).field 1 2 1 ∧
      (codedBank twice).field 1 0 2 = (codedBank twice).field 1 2 2) ∧
    ((codedBank oddWindow).field 4 0 0 ≠ 0 ∧
      (codedBank oddWindow).field 4 0 2 ∉ [(1 : Int), 2, 4, 8, 16, 32, 64, 128]) ∧
    (∀ rest ∈ [strayPoint, []], (List.range 8).all (fun w => (codedBank rest).field 4 w 0 == 0) = true) ∧
    (entryGood (codedBank strayPoint) 1 0 = false ∧ entryGood (codedBank strayPoint) 0 0 = true) ∧
    (List.range 12).all (fun n => (List.range (tableEntries n)).all fun e => entryGood (codedBank []) n e) = true ∧
    ((box0 .loaded 0 id).floor.ctx (.box 0)).state ≠ .empty ∧ bank.field 6 6 0 ≠ (codedBank []).field 6 6 0 ∧
    (∀ u : PlantUnit, (plant.floor.ctx u).state = .empty) ∧ plant.floor.arbiter.state = .idle ∧
    (∀ c : Fin 12, plant.floor.channels[c].isOpen = false) := by
  refine ⟨?_, ⟨by decide, rfl, by decide, rfl, rfl⟩, ⟨by decide, by decide⟩, ?_, ⟨rfl, rfl⟩, rfl, by decide +kernel,
    by decide +kernel, ?_, rfl, by decide +kernel⟩
  · intro rest h; fin_cases h <;> rfl
  · intro rest h; fin_cases h <;> rfl
  · intro u; rcases u with v | b | k
    · revert v; decide +kernel
    · revert b; decide +kernel
    · revert k; decide +kernel

/-- The plant while the check of that bank runs. -/
def checked : State := { plant with tables := ⟨bank, loadedBank, true, 0, 0, some (16#8, 1#8)⟩ }

theorem witness_EndOfCheckSwapsOrAnswers :
    (checked.Awake ∧ checked.LinesFollow) ∧ checked.tables.check = some (16#8, 1#8) ∧
      checkGood checked.tables.shadow = true ∧
      (nameGood checked.tables.shadow = true ∧ oldGeneration checked.tables = false ∧
        duplicateKey checked.tables.shadow = none ∧ windowFault checked.tables.shadow 5#8 = none ∧
        badReference checked.tables.shadow = none ∧ unitBusy bank checked.tables.shadow plant.floor = none) ∧
      activationFailure 5#8 plant.floor ⟨bank, [], true, 0, 0, some (16#8, 1#8)⟩ = some (.badName, 0) :=
  ⟨⟨(steady_of plant (by decide +kernel)).1, (steady_of plant (by decide +kernel)).2.2⟩, rfl, loadedBank_check,
    loaded_passes _, by decide +kernel⟩

/-- A poll list entry for point 0 with one requester, and one for point 1 with four. -/
def polled : State :=
  { plant with
    polls := (plant.polls.set 0 (some ⟨0, 999, [(16#8, 1#8)], true⟩)).set 1
      (some ⟨1, 999, [(16#8, 1#8), (16#8, 2#8), (16#8, 3#8), (16#8, 4#8)], true⟩) }

/-- A full poll list. -/
def fullPolls : State := { plant with polls := .replicate 4 (some ⟨9, 999, [(16#8, 1#8)], true⟩) }

theorem witness_RefreshAnswersJoinsOrPolls :
    plant.Ready .refresh (ask 192 0) ∧ (withPoint plant 191 5).Ready .refresh (ask 191 0) ∧
      (withPoint plant 191 5).points[191].quality = .fresh ∧
      polled.Ready .refresh { ask 0 0 with tag := 1#8 } ∧ polled.Ready .refresh (ask 0 0) ∧ polled.Ready .refresh (ask 1 0) ∧
      (pollFor polled 0 = some 0 ∧ pollFor polled 1 = some 1 ∧ polled.points[0].quality ≠ .fresh) ∧
      plant.Ready .refresh (ask 5 0) ∧ (bank.mapOfPoint 5 = none ∧ pollFor plant 5 = none) ∧
      plant.Ready .refresh (ask 0 0) ∧ fullPolls.Ready .refresh (ask 0 0) ∧
      (bank.mapOfPoint 0 = some 0 ∧ pollFor plant 0 = none ∧ firstIndex plant.polls (·.isNone) = some 0 ∧
        pollFor fullPolls 0 = none ∧ firstIndex fullPolls.polls (·.isNone) = none) :=
  ⟨ready_of _ _ _ (by decide +kernel), ready_of _ _ _ (by decide +kernel), by decide +kernel,
    ready_of _ _ _ (by decide +kernel), ready_of _ _ _ (by decide +kernel), ready_of _ _ _ (by decide +kernel),
    by decide +kernel, ready_of _ _ _ (by decide +kernel), by decide +kernel, ready_of _ _ _ (by decide +kernel),
    ready_of _ _ _ (by decide +kernel), by decide +kernel⟩

theorem witness_ClockSetAndCaptureCleared : plant.Ready .timeSet (ask 5 0) ∧ plant.Ready .captureClear (ask 0 0) :=
  ⟨ready_of _ _ _ (by decide +kernel), ready_of _ _ _ (by decide +kernel)⟩

theorem witness_RestartHoldsUnitsAndKeepsRecords :
    (let s := vessel0 .running 0 1 fun f => f.updCtx (.box 0) fun _ => ctxIn .manual none (some .running) none;
      s.Ready .restart (ask 0 0) ∧ (s.floor.ctx (.vessel 0)).state = .running ∧
        (s.floor.ctx (.box 0)).state = .manual ∧ (s.floor.ctx (.box 0)).resume = some .running ∧
        (s.floor.ctx (.kiln 0)).state = .empty) :=
  ⟨ready_of _ _ _ (by decide +kernel), by decide +kernel⟩

/-- The units that RESTART holds. -/
def heldByRestart (s : State) : List PlantUnit :=
  allUnits.filter fun u => (s.floor.ctx u).state == .running || (s.floor.ctx u).state == .manual

/-- A plant with an event in its queue. -/
def eventQueued (s : State) : State :=
  { s with floor := { s.floor with queue := ⟨[], [cell1], [], [{ cell1 with kind := 7#8 }], false, false⟩ } }

theorem witness_RestartHoldsUnitsAndKeepsRecords_queue :
    (∀ ff, (eventQueued plant).Ready .restart { ask 0 0 with fillFirst := ff }) ∧ heldByRestart (eventQueued plant) = [] ∧
      (eventQueued plant).floor.arbiter.grant = none ∧ (eventQueued plant).tables.present = true ∧
      (let s := eventQueued (box0 .running 0 fun f => f.arb fun a => { a with state := .preparing, grant := some 0 });
        s.Ready .restart (ask 0 0) ∧ heldByRestart s = [.box 0] ∧ s.floor.arbiter.grant ≠ none) ∧
      (let s := eventQueued (changed plant fun f =>
          allUnits.foldl (fun f u => f.updCtx u fun _ => ctxIn .running none none (place u 0 0)) f);
        s.Ready .restart (ask 0 0) ∧ 8 < (heldByRestart s).length) ∧
      transparent.Ready .restart (ask 0 0) ∧ transparent.tables.present = false :=
  ⟨fun ff => ready_of _ _ _ (by revert ff; decide +kernel), by decide +kernel, rfl, rfl,
    ⟨ready_of _ _ _ (by decide +kernel), by decide +kernel⟩, ⟨ready_of _ _ _ (by decide +kernel), by decide +kernel⟩,
    ready_of _ _ _ (by decide +kernel), rfl⟩

/-! ### Unit commands -/

theorem witness_UnitCommandsTurnedAway :
    plant.Ready .hold (ask 0 20) ∧ unitOf 20 = none ∧ plant.Ready .hold (ask 0 19) ∧ unitOf 19 = some (.kiln 1) ∧
      (plant.floor.ctx (.kiln 1)).state = .empty ∧
      (box0 .receiving 0 id).Ready .auto (ask 0 6) ∧ ((box0 .receiving 0 id).floor.ctx (.box 0)).state = .receiving ∧
      plant.Ready .start (ask 0 6) ∧ (plant.floor.ctx (.box 0)).state = .empty :=
  ⟨ready_of _ _ _ (by decide +kernel), by decide, ready_of _ _ _ (by decide +kernel), by decide, by decide +kernel,
    ready_of _ _ _ (by decide +kernel), by decide +kernel, ready_of _ _ _ (by decide +kernel), by decide +kernel⟩

/-- The plant with the meter and feedback points of channels 0 to 2 FRESH. -/
def metered (s : State) : State :=
  withPoint (withPoint (withPoint (withPoint (withPoint (withPoint s 100 0) 101 0) 102 0) 103 0) 104 0) 105 0

/-- START of program `p`, with no batch named or with batch `id`. -/
def startOf (p id qual : Nat) : Req := ask ((65536 * p + id : Nat) : Int) qual

theorem witness_StartRunsVesselOrBox :
    (let s := vessel0 .loaded 0 0 id; let p := s.firstItem (.vessel 0) (startOf 1 7 0);
      s.Ready .start (startOf 1 7 0) ∧ s.StartNames (.vessel 0) (startOf 1 7 0) ∧
        s.floor.vessels[0].ctx.state = .loaded ∧ unitChannelOpen s.env (.vessel 0) s.floor = false ∧
        stepKind p.fields ≠ .fill) ∧
    (let s := metered (vessel0 .loaded 0 0 id); let p := s.firstItem (.vessel 0) (startOf 0 0 0);
      s.Ready .start (startOf 0 0 0) ∧ s.StartNames (.vessel 0) (startOf 0 0 0) ∧
        s.floor.vessels[0].ctx.state = .loaded ∧ unitChannelOpen s.env (.vessel 0) s.floor = false ∧
        stepKind p.fields = .fill ∧ stepFillVolume p.fields = 500 ∧ bank.unitChannel (.vessel 0) = some 0 ∧
        bank.channelOwner 0 = some (.vessel 0) ∧ pointsFresh s.env 0 = true) ∧
    (let s := vessel0 .loaded 0 0 id;
      s.Ready .start (startOf 0 0 0) ∧ s.floor.channels[0].masked = true ∧ pointsFresh s.env 0 = false) ∧
    (let s := withPoint (box0 .loaded 0 id) 30 200;
      s.Ready .start (startOf 0 7 6) ∧ s.StartNames (.box 0) (startOf 0 7 6) ∧ s.floor.boxes[0].ctx.state = .loaded ∧
        (s.env.bed 0).usable = true ∧ s.floor.arbiter.grant ≠ some 0) :=
  ⟨⟨ready_of _ _ _ (by decide +kernel), by unfold State.StartNames; decide +kernel, by decide +kernel⟩,
    ⟨ready_of _ _ _ (by decide +kernel), by unfold State.StartNames; decide +kernel, by decide +kernel⟩,
    ⟨ready_of _ _ _ (by decide +kernel), by decide +kernel⟩,
    ready_of _ _ _ (by decide +kernel), by unfold State.StartNames; decide +kernel, by decide +kernel⟩

theorem witness_StartBeginsFiring :
    (let s := kiln0 .loaded 0 id;
      s.Ready .start (startOf 0 7 18) ∧ s.StartNames (.kiln 0) (startOf 0 7 18) ∧
        s.floor.kilns[0].ctx.state = .loaded ∧ s.loop.up = true ∧ (s.env.ton 0).usable = true ∧
        unitChannelOpen s.env (.kiln 0) s.floor = false ∧
        (kilnInFigures s.floor s.floor.kilns[0].ctx.batch).mass = some 980 ∧
        (kilnInFigures s.floor s.floor.kilns[0].ctx.batch).moisture = some 450 ∧
        phasePeat (s.firstItem (.kiln 0) (startOf 0 7 18)).fields ≤ 0) ∧
    (let s := kiln0 .loaded 0 fun f => { f with batches := .replicate 20 none };
      s.Ready .start (startOf 0 0 18) ∧ (kilnInFigures s.floor s.floor.kilns[0].ctx.batch).mass = none) :=
  ⟨⟨ready_of _ _ _ (by decide +kernel), by unfold State.StartNames; decide +kernel, by decide +kernel⟩,
    ready_of _ _ _ (by decide +kernel), by decide +kernel⟩

/-- Points 10 to 12, the members of the mass group of vessel 0, FRESH and in agreement. -/
def weighed (s : State) : State := withPoint (withPoint (withPoint s 10 1000) 11 1001) 12 1002

/-- The plant with other tables. -/
def withTables (b : Bank) (s : State) : State := setLines { s with tables := ⟨b, [], true, 0, 0, none⟩ }

/-- The tables with no volume in the FILL step of vessel program 0. -/
def noVolume : Bank := bank.write (flatIndex 8 0 8) 0#32

theorem witness_StartRunsVesselOrBox_fill :
    (let s := changed { metered (vessel0 .loaded 0 0 id) with
          points := (metered plant).points.set 100 ⟨0, .held, false, false, 70⟩ } fun f =>
        f.channel 0 fun x => { x with masked := false };
      s.Ready .start (startOf 0 7 0) ∧ s.StartNames (.vessel 0) (startOf 0 7 0) ∧ pointsFresh s.env 0 = false ∧
        s.floor.channels[0].masked = false ∧ (s.env.point (bank.meterPoint 0)).quality = .held ∧
        (s.env.point (bank.feedbackPoint 0)).quality = .fresh ∧ bank.meterPoint 0 = ((100 : Fin 192) : Nat)) ∧
    (let s := withTables noVolume (vessel0 .loaded 0 0 id); let p := s.firstItem (.vessel 0) (startOf 0 7 0);
      s.Ready .start (startOf 0 7 0) ∧ s.StartNames (.vessel 0) (startOf 0 7 0) ∧ stepKind p.fields = .fill ∧
        stepFillVolume p.fields = 0 ∧ 1 < noVolume.programLength (.vessel 0) 0 ∧
        stepKind (noVolume.position (.vessel 0) p.program 1).fields ≠ .fill) ∧
    (let b := noVolume.write (flatIndex 8 128 0) 1#32; let s := withTables b (vessel0 .loaded 0 0 id);
      s.Ready .start (startOf 0 7 0) ∧ s.StartNames (.vessel 0) (startOf 0 7 0) ∧
        b.programLength (.vessel 0) 0 = 1) :=
  ⟨⟨ready_of _ _ _ (by decide +kernel), by unfold State.StartNames; decide +kernel, by decide +kernel⟩,
    ⟨ready_of _ _ _ (by decide +kernel), by unfold State.StartNames; decide +kernel, by decide +kernel⟩,
    ready_of _ _ _ (by decide +kernel), by unfold State.StartNames; decide +kernel, by decide +kernel⟩

theorem witness_StartBeginsFiring_peat :
    (let s := metered (kiln0 .loaded 0 id); let p := s.firstItem (.kiln 0) (startOf 1 7 18);
      s.Ready .start (startOf 1 7 18) ∧ s.StartNames (.kiln 0) (startOf 1 7 18) ∧ (s.env.ton 0).usable = true ∧
        unitChannelOpen s.env (.kiln 0) s.floor = false ∧ phaseKind p.fields = .freeDry ∧ phasePeat p.fields = 1000 ∧
        bank.unitChannel (.kiln 0) = some 2 ∧ bank.channelOwner 2 = some (.kiln 0) ∧ pointsFresh s.env 2 = true ∧
        (1000 * (980 * 550)) / 1000000 = 539 ∧ bank.channelMode 2 = .demand ∧
        (s.env.ton 0).value ≤ phasePeatMaxTon p.fields) ∧
    (let s := setLines (withPoint (metered (kiln0 .loaded 0 id)) 40 901);
      s.Ready .start (startOf 1 7 18) ∧ phasePeatMaxTon (s.firstItem (.kiln 0) (startOf 1 7 18)).fields < (s.env.ton 0).value) ∧
    (let s := metered (kiln0 .loaded 0 fun f => { f with batches := .replicate 20 none });
      s.Ready .start (startOf 1 0 18) ∧ pointsFresh s.env 2 = true ∧
        (kilnInFigures s.floor s.floor.kilns[0].ctx.batch).mass = none) ∧
    (let s := kiln0 .loaded 0 id;
      s.Ready .start (startOf 1 7 18) ∧ pointsFresh s.env 2 = false ∧ s.floor.channels[2].masked = true) :=
  ⟨⟨ready_of _ _ _ (by decide +kernel), by unfold State.StartNames; decide +kernel, by decide +kernel⟩,
    ⟨ready_of _ _ _ (by decide +kernel), by decide +kernel⟩, ⟨ready_of _ _ _ (by decide +kernel), by decide +kernel⟩,
    ready_of _ _ _ (by decide +kernel), by decide +kernel⟩

theorem witness_StartCreatesBatch_program :
    (let s := weighed plant;
      s.Ready .start (startOf 1 9 0) ∧ 0 < bank.programLength (.vessel 0) 1 ∧
        stepKind (s.firstItem (.vessel 0) (startOf 1 9 0)).fields ≠ .fill ∧ (startOf 1 9 0).value.toNat / 65536 = 1) ∧
    plant.Ready .start (startOf 8 9 0) ∧ plant.Ready .start (startOf 7 9 0) ∧ bank.programLength (.vessel 0) 7 = 0 :=
  ⟨⟨ready_of _ _ _ (by decide +kernel), by decide +kernel⟩, ready_of _ _ _ (by decide +kernel),
    ready_of _ _ _ (by decide +kernel), by decide +kernel⟩

/-- Every slot of the Batch Table taken. -/
def fullTable : State := changed plant fun f => { f with batches := .replicate 20 (some (batch7 (.box 5))) }

theorem witness_StartCreatesBatch :
    (let r := startOf 65535 9 1;
      plant.Ready .start r ∧ bank.inService 1 = false) ∧
    plant.Ready .start (startOf 65535 0 0) ∧
    fullTable.Ready .start (startOf 65535 7 0) ∧ fullTable.Ready .start (startOf 65535 8 0) ∧
    plant.Ready .start (startOf 65535 9 0) ∧ (weighed plant).Ready .start (startOf 65535 9 0) ∧
    (bank.inService 0 = true ∧ fullTable.floor.findBatch 7 ≠ none ∧ fullTable.floor.findBatch 8 = none ∧
      freeSlot fullTable.floor = none ∧ plant.floor.findBatch 9 = none ∧ freeSlot plant.floor = some 0 ∧
      (plant.env.vote 0).value = none ∧ ((weighed plant).env.vote 0).value = some 1001 ∧
      plant.floor.vessels[0].ctx.state = .empty ∧ (startOf 65535 9 0).value.toNat / 65536 = 65535 ∧
      unitChannelOpen plant.env (.vessel 0) plant.floor = false) :=
  ⟨⟨ready_of _ _ _ (by decide +kernel), by decide +kernel⟩, ready_of _ _ _ (by decide +kernel),
    ready_of _ _ _ (by decide +kernel), ready_of _ _ _ (by decide +kernel), ready_of _ _ _ (by decide +kernel),
    ready_of _ _ _ (by decide +kernel), by decide +kernel⟩

/-- A channel is open. -/
def opened (c : Fin 12) (f : Floor) : Floor :=
  f.channel c fun x => { x with state := .active, masked := false, base := 100, current := 40, valve := .opened }

theorem witness_HoldHoldsRunningUnit :
    (let s := vessel0 .running 0 0 fun f => opened 0 (f.vessel 0 fun x => { x with fill := .filling });
      s.Ready .hold (ask 0 0) ∧ (s.floor.ctx (.vessel 0)).state = .running ∧
        unitChannelOpen s.env (.vessel 0) s.floor = true ∧ bank.unitChannel (.vessel 0) = some 0) ∧
    (let s := box0 .held 0 id; s.Ready .hold (ask 0 6) ∧ (s.floor.ctx (.box 0)).state = .held) :=
  ⟨⟨ready_of _ _ _ (by decide +kernel), by decide +kernel⟩, ready_of _ _ _ (by decide +kernel), by decide +kernel⟩

/-- A unit that is HELD for a reason. -/
def heldUnit (u : PlantUnit) (why : HoldReason) (back : ResumeState) (p i : Nat) : State :=
  unitIn u (ctxIn .held (some why) (some back) (place u p i)) id

theorem witness_ResumeReturnsUnit :
    (let s := box0 .running 0 id; s.Ready .resume (ask 0 6) ∧ (s.floor.ctx (.box 0)).state = .running) ∧
    (let s : State := { heldUnit (.box 0) .station .running 0 0 with loop := ⟨5#8, false, 0, 0, none, false⟩ };
      s.Ready .resume (ask 0 6) ∧ (s.floor.ctx (.box 0)).state = .held ∧ s.loop.up = false) ∧
    (let s := heldUnit (.box 0) .restart .done 0 0; s.Ready .resume (ask 0 6) ∧ s.loop.up = true) ∧
    (let s := heldUnit (.box 0) .point .running 0 0;
      s.Ready .resume (ask 0 6) ∧ (s.env.bed 0).usable = false) ∧
    (heldUnit (.box 0) .station .running 0 0).Ready .resume (ask 0 6) ∧
    (let s := heldUnit (.vessel 0) .station .running 1 0;
      s.Ready .resume (ask 0 0) ∧ (fillRequest s.env 0 s.floor).2 = .granted) ∧
    (let s := changed (heldUnit (.vessel 0) .dose .running 0 0) fun f => f.vessel 0 fun x => { x with fill := .notBegun };
      s.Ready .resume (ask 0 0) ∧ (fillRequest s.env 0 s.floor).2 = .refused) ∧
    (let s := heldUnit (.kiln 0) .station .running 0 0;
      s.Ready .resume (ask 0 18) ∧ (resumePeat s.env 0 s.floor).2 = true) ∧
    (let s := changed (heldUnit (.kiln 0) .dose .running 0 0) fun f => f.kiln 0 fun x => { x with peat := .notBegun };
      s.Ready .resume (ask 0 18) ∧ (resumePeat s.env 0 s.floor).2 = false) ∧
    (let s := kiln0 .tripped 0 id;
      s.Ready .resume (ask 0 18) ∧ s.floor.kilns[0].ctx.state = .tripped ∧ (s.env.ton 0).quality = .fresh ∧
        (s.env.ton 0).value ≤ entryCeiling s.floor.kilns[0].ctx.entry ∧ s.floor.kilns[0].peat = .none) ∧
    (let s := setLines (withPoint (kiln0 .tripped 0 id) 40 851);
      s.Ready .resume (ask 0 18) ∧ ¬(s.env.ton 0).value ≤ entryCeiling s.floor.kilns[0].ctx.entry) :=
  ⟨⟨ready_of _ _ _ (by decide +kernel), by decide +kernel⟩, ⟨ready_of _ _ _ (by decide +kernel), by decide +kernel⟩,
    ⟨ready_of _ _ _ (by decide +kernel), by decide +kernel⟩, ⟨ready_of _ _ _ (by decide +kernel), by decide +kernel⟩,
    ready_of _ _ _ (by decide +kernel), ⟨ready_of _ _ _ (by decide +kernel), by decide +kernel⟩,
    ⟨ready_of _ _ _ (by decide +kernel), by decide +kernel⟩, ⟨ready_of _ _ _ (by decide +kernel), by decide +kernel⟩,
    ⟨ready_of _ _ _ (by decide +kernel), by decide +kernel⟩, ⟨ready_of _ _ _ (by decide +kernel), by decide +kernel⟩,
    ready_of _ _ _ (by decide +kernel), by decide +kernel⟩

/-- A unit of program 0 that is HELD(PROGRAM_GONE) with item `n` noted. -/
def goneUnit (u : PlantUnit) (n : Nat) : State :=
  unitIn u { ctxIn .held (some .programGone) (some .running) (place u 0 0) with noted := some n } id

theorem witness_ResumeReturnsUnit_gone :
    ((goneUnit (.vessel 0) 1).Ready .resume (ask 0 0) ∧ (goneUnit (.box 0) 1).Ready .resume (ask 0 6) ∧
      (goneUnit (.kiln 0) 1).Ready .resume (ask 0 18) ∧ (goneUnit (.box 0) 2).Ready .resume (ask 0 6)) ∧
    ((goneUnit (.box 0) 1).loop.up = true ∧ ((goneUnit (.box 0) 1).floor.ctx (.box 0)).state = .held ∧
      ((goneUnit (.box 0) 1).floor.ctx (.box 0)).noted = some 1 ∧ bank.programLength (.box 0) 0 = 2 ∧
      bank.programLength (.vessel 0) 0 = 2 ∧ bank.programLength (.kiln 0) 0 = 2 ∧
      stepKind (bank.position (.vessel 0) 0 1).fields ≠ .fill ∧ phaseKind (bank.position (.kiln 0) 0 1).fields ≠ .freeDry) ∧
    (let s := setLines (withPoint (changed (heldUnit (.kiln 0) .station .running 1 0) fun f =>
        f.channel 2 (fun x => { x with state := .paused, masked := false, base := 100, current := 40, valve := .closed })
          |>.kiln 0 fun x => { x with peat := .filling }) 40 900);
      s.Ready .resume (ask 0 18) ∧ bank.unitChannel (.kiln 0) = some 2 ∧ bank.channelMode 2 = .demand ∧
        s.floor.kilns[0].peat = .filling ∧ s.floor.channels[2].state = .paused ∧
        s.floor.kilns[0].ctx.pos.isSome = true ∧ phaseKind s.floor.kilns[0].ctx.fields = .freeDry ∧
        0 < phasePeat s.floor.kilns[0].ctx.fields ∧ (s.env.ton 0).usable = true ∧
        (s.env.ton 0).value = phasePeatMaxTon s.floor.kilns[0].ctx.fields) :=
  ⟨⟨ready_of _ _ _ (by decide +kernel), ready_of _ _ _ (by decide +kernel), ready_of _ _ _ (by decide +kernel),
    ready_of _ _ _ (by decide +kernel)⟩, by decide +kernel, ready_of _ _ _ (by decide +kernel), by decide +kernel⟩

theorem witness_ManualAndAuto :
    (let s := kiln0 .running 0 id; s.Ready .manual (ask 0 18) ∧ (s.floor.ctx (.kiln 0)).state = .running) ∧
    (let s := heldUnit (.vessel 0) .station .running 1 0; s.Ready .manual (ask 0 0) ∧
      (s.floor.ctx (.vessel 0)).reason ≠ some .programGone) ∧
    (let s := heldUnit (.box 0) .programGone .running 0 0; s.Ready .manual (ask 0 6) ∧
      (s.floor.ctx (.box 0)).state = .held ∧ (s.floor.ctx (.box 0)).reason = some .programGone) ∧
    (let s := unitIn (.box 0) (ctxIn .manual none (some .running) none) id;
      s.Ready .manual (ask 0 6) ∧ s.Ready .auto (ask 0 6) ∧ (s.floor.ctx (.box 0)).state = .manual ∧
        (s.floor.ctx (.box 0)).resume = some .running) ∧
    (let s := box0 .done 0 id; s.Ready .auto (ask 0 6) ∧ (s.floor.ctx (.box 0)).state ≠ .manual) :=
  ⟨⟨ready_of _ _ _ (by decide +kernel), by decide +kernel⟩, ⟨ready_of _ _ _ (by decide +kernel), by decide +kernel⟩,
    ⟨ready_of _ _ _ (by decide +kernel), by decide +kernel⟩,
    ⟨ready_of _ _ _ (by decide +kernel), ready_of _ _ _ (by decide +kernel), by decide +kernel⟩,
    ready_of _ _ _ (by decide +kernel), by decide +kernel⟩

theorem witness_StopProgramUnloads :
    (let s := box0 .running 0 fun f => f.arb (·.join 0 false);
      s.Ready .stopProgram (ask 0 6) ∧ (s.floor.ctx (.box 0)).state ∈ [UnitState.running, .held, .manual, .tripped] ∧
        s.floor.arbiter.grant ≠ some 0 ∧ s.floor.arbiter.hasRequest 0 = true) ∧
    (let s := kiln0 .tripped 0 id;
      s.Ready .stopProgram (ask 0 18) ∧ (s.floor.ctx (.kiln 0)).state ∈ [UnitState.running, .held, .manual, .tripped] ∧
        bank.unitChannel (.kiln 0) = some 2) :=
  ⟨⟨ready_of _ _ _ (by decide +kernel), by decide +kernel⟩, ready_of _ _ _ (by decide +kernel), by decide +kernel⟩

theorem witness_DiscardFreesBatch :
    (let s := vessel0 .loaded 0 0 id;
      s.Ready .discard (ask 0 0) ∧ s.floor.vessels[0].ctx.state = .loaded ∧ (batch7 (.vessel 0)).transfer = none ∧
        (∀ o : Fin 5, s.floor.vessels[0].outs[o].decision ≠ .on) ∧
        s.floor.vessels[0].ctx.batch = some (batch7 (.vessel 0)).id ∧ s.floor.findBatch 7 = some 0 ∧
        s.floor.batches[0] = some (batch7 (.vessel 0))) ∧
    (let x := { batch7 (.vessel 0) with exciseHold := true };
      let s := vessel0 .done 0 0 fun f => { f with batches := f.batches.set 0 (some x) };
      s.Ready .discard (ask 0 0) ∧ s.floor.vessels[0].ctx.state = .done ∧ s.floor.findBatch 7 = some 0 ∧
        s.floor.batches[0] = some x) :=
  ⟨⟨ready_of _ _ _ (by decide +kernel), by decide +kernel⟩, ready_of _ _ _ (by decide +kernel), by decide +kernel⟩

/-! ### Batches and the register -/

/-- Points 13 to 15, the members of the moisture group, FRESH and in agreement. -/
def voted (s : State) : State := withPoint (withPoint (withPoint (weighed s) 13 430) 14 431) 15 430

/-- The register is READY, empty, with next number 100. -/
def readyRegister (f : Floor) : Floor := f.reg fun _ => ⟨.ready, ⟨[], 100, 0xFFFF#16, true, true⟩, [], none⟩

/-- A transfer of batch 7 from vessel 0 to box 0. -/
def transfer7 (ph : TransferPhase) : Transfer := ⟨some (.box 0), ph, 0#32, false, 500, none, false, none, false, 0⟩

/-- The plant with such a transfer under way, changed further by `g`. -/
def moving (t : Transfer) (g : Floor → Floor) : State :=
  vessel0 .discharging 0 1 fun f =>
    g ({ f with batches := f.batches.set 0 (some { batch7 (.vessel 0) with transfer := some t }) }.updCtx (.box 0) fun c =>
      { c with state := .receiving })

theorem witness_TransferTakesSampleOrWaits :
    (let s := vessel0 .done 0 1 id;
      s.Ready .transfer (ask 7 6) ∧ s.floor.NoneWaiting ∧ s.floor.findBatch 7 = some 0 ∧
        s.floor.batches[0] = some (batch7 (.vessel 0)) ∧ (s.floor.ctx (.vessel 0)).state = .done ∧
        pathAllowed (.vessel 0) (some (.box 0)) = true ∧ destinationReady s.env s.floor (some (.box 0)) = true ∧
        unitOf 6 = some (.box 0) ∧ s.floor.register.state ≠ .ready) ∧
    (let s := vessel0 .done 0 1 readyRegister;
      s.Ready .transfer (ask 7 6) ∧ s.floor.NoneWaiting ∧ s.floor.register.room 2 = true ∧
        (unitVotes s.env (.vessel 0)).1.status = .missing ∧ 0 < bank.unsigned 0 0 14) ∧
    (let s := voted (vessel0 .done 0 1 readyRegister);
      s.Ready .transfer (ask 7 6) ∧ s.floor.NoneWaiting ∧ VoteStatus.agreed (unitVotes s.env (.vessel 0)).1.status = true ∧
        VoteStatus.agreed (unitVotes s.env (.vessel 0)).2.status = true) :=
  ⟨⟨ready_of _ _ _ (by decide +kernel), noneWaiting_of _ (by decide +kernel), by decide +kernel⟩,
    ⟨ready_of _ _ _ (by decide +kernel), noneWaiting_of _ (by decide +kernel), by decide +kernel⟩,
    ready_of _ _ _ (by decide +kernel), noneWaiting_of _ (by decide +kernel), by decide +kernel⟩

theorem witness_TransferDoneMovesBatch :
    (let s := moving (transfer7 .pendingSample) id;
      s.Ready .transferDone (ask 7 0) ∧ s.floor.findBatch 7 = some 0 ∧
        s.floor.batches[0] = some { batch7 (.vessel 0) with transfer := some (transfer7 .pendingSample) }) ∧
    (let s := moving (transfer7 .inTransit) fun f => f.batch 0 fun x => { x with exciseHold := true };
      s.Ready .transferDone (ask 7 0) ∧ s.floor.findBatch 7 = some 0) ∧
    (let s := moving (transfer7 .inTransit) id;
      s.Ready .transferDone (ask 7 0) ∧ s.floor.NoneWaiting ∧ s.floor.findBatch 7 = some 0 ∧
        some (batch7 (.vessel 0)).location ≠ (transfer7 .inTransit).dest) ∧
    (let s := kiln0 .discharging 1 fun f => f.batch 0 fun x =>
        { x with transfer := some { transfer7 .inTransit with dest := none } };
      s.Ready .transferDone (ask 7 0) ∧ s.floor.NoneWaiting ∧ s.floor.findBatch 7 = some 0) :=
  ⟨⟨ready_of _ _ _ (by decide +kernel), by decide +kernel⟩, ⟨ready_of _ _ _ (by decide +kernel), by decide +kernel⟩,
    ⟨ready_of _ _ _ (by decide +kernel), noneWaiting_of _ (by decide +kernel), by decide +kernel⟩,
    ready_of _ _ _ (by decide +kernel), noneWaiting_of _ (by decide +kernel), by decide +kernel⟩

theorem witness_TransferTakesSampleOrWaits_turnedAway :
    (let s := vessel0 .done 0 1 id;
      s.Ready .transfer (ask 8 6) ∧ s.floor.findBatch 8 = none ∧ s.Ready .transfer (ask 7 20) ∧ unitOf 20 = none ∧
        s.Ready .transfer (ask 7 255) ∧ unitOf 255 = none ∧ s.Ready .transfer (ask 7 18) ∧ unitOf 18 = some (.kiln 0)) ∧
    ((moving (transfer7 .inTransit) id).Ready .transfer (ask 7 6) ∧
      (vessel0 .done 0 1 fun f => f.batch 0 fun x => { x with exciseHold := true }).Ready .transfer (ask 7 6) ∧
      (vessel0 .loaded 0 1 id).Ready .transfer (ask 7 6)) ∧
    (let s := vessel0 .done 0 1 fun f => f.updCtx (.box 0) fun c => { c with state := .loaded };
      s.Ready .transfer (ask 7 6) ∧ (s.floor.ctx (.box 0)).state ≠ .empty) ∧
    (let s := vessel0 .done 0 1 id; s.Ready .transfer (ask 7 9) ∧ unitOf 9 = some (.box 3) ∧ bank.inService 9 = false) :=
  ⟨⟨ready_of _ _ _ (by decide +kernel), by decide +kernel, ready_of _ _ _ (by decide +kernel), by decide,
    ready_of _ _ _ (by decide +kernel), by decide, ready_of _ _ _ (by decide +kernel), by decide⟩,
    ⟨ready_of _ _ _ (by decide +kernel), ready_of _ _ _ (by decide +kernel), ready_of _ _ _ (by decide +kernel)⟩,
    ⟨ready_of _ _ _ (by decide +kernel), by decide +kernel⟩, ready_of _ _ _ (by decide +kernel), by decide +kernel⟩

/-- A reservation of sample 99 for batch 7. -/
def reserved : Reservation := ⟨99, 7, 0, 1000, .agreed3, 430, .agreed3⟩

theorem witness_TransferAbortReturnsSource :
    (let s := moving (transfer7 .pendingSample) id;
      s.Ready .transferAbort (ask 7 0) ∧ s.floor.findBatch 7 = some 0 ∧
        (∀ c : Fin 20, c ≠ 0 → waitingTransfer s.floor c = none)) ∧
    (let t := { transfer7 .inTransit with sample := some 99 };
      let s := moving t fun f => (readyRegister f).reg fun r => { r with reservations := [reserved] };
      s.Ready .transferAbort (ask 7 0) ∧ s.floor.findBatch 7 = some 0 ∧
        (∀ c : Fin 20, c ≠ 0 → waitingTransfer s.floor c = none) ∧
        (s.floor.register.reservations.find? fun v => some v.number == t.sample) = some reserved) :=
  ⟨⟨ready_of _ _ _ (by decide +kernel), by decide +kernel⟩, ready_of _ _ _ (by decide +kernel), by decide +kernel⟩

theorem witness_TransferAbortReturnsSource_released :
    (let t := { transfer7 .inTransit with sample := some 99 };
      let s := moving t readyRegister;
      s.Ready .transferAbort (ask 7 0) ∧ (s.floor.register.reservations.find? fun v => some v.number == t.sample) = none ∧
        some (batch7 (.vessel 0)).location ≠ t.dest) :=
  ⟨ready_of _ _ _ (by decide +kernel), by decide +kernel⟩

theorem witness_WaitingTransferProceeds :
    (let s := moving (transfer7 .pendingSample) id;
      s.inReset = false ∧ s.pins = s.lines ∧ s.floor.register.state ≠ .ready ∧ voteWaitDue s.env s.floor 0 = false ∧
        (∀ c : Fin 20, c ≠ 0 → waitingTransfer s.floor c = none)) ∧
    (let s := voted (moving (transfer7 .pendingSample) readyRegister);
      s.floor.register.room 2 = true ∧ VoteStatus.agreed (unitVotes s.env (.vessel 0)).1.status = true ∧
        VoteStatus.agreed (unitVotes s.env (.vessel 0)).2.status = true) ∧
    (let s := moving (transfer7 .pendingSample) readyRegister;
      s.pins = s.lines ∧ VoteStatus.agreed (unitVotes s.env (.vessel 0)).1.status = false ∧
        0 < bank.unsigned 0 0 14) ∧
    (let s := dueNow (moving { transfer7 .pendingSample with voteWait := some 970 } readyRegister) (.voteWaitExpiry 0);
      .voteWaitExpiry 0 ∈ s.due ∧ s.floor.register.room 2 = true ∧ voteWaitDue s.env s.floor 0 = true) ∧
    (let s := dueNow (moving (transfer7 .inTransit) id) (.transferOverdue 0);
      .transferOverdue 0 ∈ s.due ∧ overdueDue s.env s.floor 0 = true) := by decide +kernel

/-- The plant with two records in a READY register. -/
def recorded : State :=
  changed plant fun f => f.reg fun _ => ⟨.ready, ⟨[record0, { record0 with number := 1 }], 2, 0#16, true, true⟩, [], none⟩

/-- The plant while the walk of those records runs. -/
def walking : State :=
  changed plant fun f => f.reg fun _ => ⟨.checking, ⟨[record0], 2, 0#16, true, true⟩, [], none⟩

theorem witness_OfficerBasesAndTakes :
    (walking.Ready .base (officer 5 0) ∧ walking.floor.register.state = .checking) ∧
    (recorded.Ready .base (officer 5 0) ∧ recorded.floor.register.retained.records ≠ []) ∧
    (plant.Ready .base (officer 5 0) ∧ plant.floor.register.retained.records = [] ∧
      plant.floor.register.reservations = [] ∧ plant.floor.register.state = .unset ∧ plant.floor.NoneWaiting) ∧
    walking.Ready .take (officer 1 0) ∧ recorded.Ready .take (officer 3 0) ∧ recorded.Ready .take (officer 2 0) ∧
    (recorded.floor.register.retained.records.length = 2 ∧ recorded.floor.register.state = .ready) ∧
    recorded.floor.NoneWaiting :=
  ⟨⟨ready_of _ _ _ (by decide +kernel), by decide +kernel⟩, ⟨ready_of _ _ _ (by decide +kernel), by decide +kernel⟩,
    ⟨ready_of _ _ _ (by decide +kernel), by decide +kernel, by decide +kernel, by decide +kernel,
      noneWaiting_of _ (by decide +kernel)⟩, ready_of _ _ _ (by decide +kernel), ready_of _ _ _ (by decide +kernel),
    ready_of _ _ _ (by decide +kernel), by decide +kernel, noneWaiting_of _ (by decide +kernel)⟩

theorem witness_SpotWritesRecord :
    plant.Ready .spot (officer 0 20) ∧ unitOf 20 = none ∧ walking.Ready .spot (officer 0 0) ∧
    plant.Ready .spot (officer 0 0) ∧ plant.floor.register.state = .unset ∧ recorded.Ready .spot (officer 0 0) ∧
    (recorded.floor.ctx (.vessel 0)).batch = none ∧
    (let s := box0 .loaded 0 readyRegister;
      s.Ready .spot (officer 0 6) ∧ s.floor.NoneWaiting ∧ s.floor.register.state = .ready ∧
        (s.floor.ctx (.box 0)).batch = some 7 ∧ s.floor.findBatch 7 = some 0 ∧ s.floor.register.room 1 = true) ∧
    (let s := box0 .loaded 0 fun f => f.reg fun _ => ⟨.ready, ⟨[], 2 ^ 32, 0xFFFF#16, true, true⟩, [], none⟩;
      s.Ready .spot (officer 0 6) ∧ s.floor.register.room 1 = false) :=
  ⟨ready_of _ _ _ (by decide +kernel), by decide, ready_of _ _ _ (by decide +kernel), ready_of _ _ _ (by decide +kernel),
    by decide +kernel, ready_of _ _ _ (by decide +kernel), by decide +kernel,
    ⟨ready_of _ _ _ (by decide +kernel), noneWaiting_of _ (by decide +kernel), by decide +kernel⟩,
    ready_of _ _ _ (by decide +kernel), by decide +kernel⟩

/-- The members of vote group 0 at three values. -/
def three (a b c : Int) : State := withPoint (withPoint (withPoint plant 10 a) 11 b) 12 c

/-- With the tolerance 5 of group 0, every pattern of agreement among three members, and fewer than three. -/
theorem witness_SpotWritesRecord_votes :
    bank.field 3 0 3 = 5 ∧
    ([(0, 5, 3), (0, 5, -5), (0, 5, 10), (0, 10, 5), (0, 5, 11), (0, 11, 5), (0, 6, 11), (0, 6, 12)] : List (Int × Int × Int)).map
        (fun t => ((three t.1 t.2.1 t.2.2).env.vote 0).value) =
      [some 3, some 0, some 5, some 5, some 2, some 2, some 8, none] ∧
    (withPoint (withPoint plant 10 0) 12 5).env.vote 0 = ⟨.agreed2, some 2⟩ ∧
    (withPoint (withPoint plant 10 0) 12 6).env.vote 0 = ⟨.disagree, none⟩ ∧
    (withPoint plant 10 0).env.vote 0 = ⟨.missing, none⟩ := by decide +kernel

theorem witness_ExciseHoldSetAndCleared :
    plant.Ready .holdSet (ask 7 0) ∧ plant.floor.findBatch 7 = none ∧ (box0 .loaded 0 id).Ready .holdSet (ask 7 0) ∧
      (box0 .loaded 0 id).floor.findBatch 7 ≠ none ∧ (box0 .loaded 0 id).Ready .holdClear (officer 0 0) :=
  ⟨ready_of _ _ _ (by decide +kernel), by decide +kernel, ready_of _ _ _ (by decide +kernel), by decide +kernel,
    ready_of _ _ _ (by decide +kernel)⟩

/-- A record whose check follows from the base check FFFFh. -/
def sealed0 : SampleRecord := sealRecord ⟨[], 0, 0xFFFF#16, true, true⟩ record0

/-- The plant while the walk of that record runs. -/
def walkingSound : State :=
  changed plant fun f => f.reg fun _ => ⟨.checking, ⟨[sealed0], 1, 0xFFFF#16, true, true⟩, [], none⟩

theorem sealed0_check : sealed0.check = recordCheck 0xFFFF#16 sealed0 := by decide +kernel

theorem witness_WalkEndsReadyOrFaulted :
    (plant.Awake ∧ plant.GoodSteady ∧ plant.LinesFollow) ∧ plant.floor.register.state ≠ .checking ∧
      (walking.Awake ∧ walking.GoodSteady ∧ walking.LinesFollow) ∧ walking.floor.register.state = .checking ∧
      walking.floor.NoneWaiting ∧ ¬ChainSound walking.floor.register.retained ∧ walkingSound.Awake ∧
      walkingSound.floor.register.state = .checking ∧ walkingSound.floor.NoneWaiting ∧
      ChainSound walkingSound.floor.register.retained :=
  ⟨steady_of _ (by decide +kernel), by decide +kernel, steady_of _ (by decide +kernel), by decide +kernel,
    noneWaiting_of _ (by decide +kernel), fun h => absurd (h.2 record0 rfl) (by decide +kernel), ⟨rfl, rfl⟩, rfl,
    noneWaiting_of _ (by decide +kernel), sealed0_check, fun r h => by cases h; rfl⟩

/-! ### Dosing channels, time, points -/

theorem witness_StationDosesAndUnmasks :
    plant.Ready .doseStart (ask 0 0) ∧ plant.Ready .doseStart (ask 1 1) ∧ bank.channelMode 1 = .demand ∧
    ((metered plant).Ready .doseStart (ask 1 0) ∧ bank.channelMode 0 = .block ∧ bank.channelOwner 0 = some (.vessel 0) ∧
      ((metered plant).floor.ctx (.vessel 0)).state = .empty ∧ (metered plant).floor.channels[0].isOpen = false ∧
      pointsFresh (metered plant).env 0 = true) ∧
    (metered plant).Ready .unmask (ask 0 0) ∧ plant.Ready .unmask (ask 0 0) ∧
    (changed plant (opened 0)).Ready .unmask (ask 0 0) ∧ (changed plant (opened 0)).floor.channels[0].masked = false ∧
    plant.floor.channels[0].masked = true ∧ pointsFresh plant.env 0 = false :=
  ⟨ready_of _ _ _ (by decide +kernel), ready_of _ _ _ (by decide +kernel), by decide +kernel,
    ⟨ready_of _ _ _ (by decide +kernel), by decide +kernel⟩, ready_of _ _ _ (by decide +kernel),
    ready_of _ _ _ (by decide +kernel), ready_of _ _ _ (by decide +kernel), by decide +kernel⟩

theorem witness_StationDosesAndUnmasks_tests :
    (let b := bank.write (flatIndex 7 5 0) 20#32; let s := withTables b plant;
      s.Ready .doseStart (ask 1 5) ∧ b.channelOwner 5 = none ∧ b.channelMode 5 = .block) ∧
    (let b := bank.write (flatIndex 7 5 0) 6#32; let s := withTables b plant;
      s.Ready .doseStart (ask 1 5) ∧ b.channelOwner 5 = some (.box 0) ∧ b.channelMode 5 = .block) ∧
    (let s := vessel0 .loaded 0 0 id;
      s.Ready .doseStart (ask 1 0) ∧ bank.channelOwner 0 = some (.vessel 0) ∧ (s.floor.ctx (.vessel 0)).state = .loaded) ∧
    (let s := changed plant (opened 0); s.Ready .doseStart (ask 1 0) ∧ s.floor.channels[0].isOpen = true) ∧
    (plant.Ready .doseStart (ask 1 0) ∧ pointsFresh plant.env 0 = false ∧ plant.floor.channels[0].masked = true) ∧
    ((metered plant).Ready .doseStart (ask 1 0) ∧ bank.channelActuator 0 = some (64#8, 20#8) ∧
      (metered plant).floor.channels[0].valve ≠ .opened) :=
  ⟨⟨ready_of _ _ _ (by decide +kernel), by decide +kernel⟩, ⟨ready_of _ _ _ (by decide +kernel), by decide +kernel⟩,
    ⟨ready_of _ _ _ (by decide +kernel), by decide +kernel⟩, ⟨ready_of _ _ _ (by decide +kernel), by decide +kernel⟩,
    ⟨ready_of _ _ _ (by decide +kernel), by decide +kernel⟩, ready_of _ _ _ (by decide +kernel), by decide +kernel⟩

/-- Vessel 0 fills from its open channel. -/
def filling (i : Nat) (g : Floor → Floor) : State :=
  vessel0 .running 0 i fun f => g (opened 0 (f.vessel 0 fun x => { x with fill := .filling }))

theorem witness_DoseClearBringsChannelsToRest :
    (let s := filling 0 id;
      s.Ready .doseClear (ask 0 0) ∧ s.floor.channels[0].isOpen = true ∧ reportedOwner s.env 0 = some (.vessel 0) ∧
        s.floor.vessels[0].ctx.state = .running ∧ s.floor.vessels[0].fill = .filling) :=
  ⟨ready_of _ _ _ (by decide +kernel), by decide +kernel⟩

/-- The current count of a channel is 0. -/
def emptied (c : Fin 12) (f : Floor) : Floor := f.channel c fun x => { x with current := 0 }

theorem witness_TerminalCountEndsTheDose :
    (plant.inReset = false ∧ plant.pins = plant.lines ∧ plant.floor.channels[0].isOpen = false) ∧
    (let s := changed plant fun f => emptied 1 (opened 1 f);
      s.floor.channels[1].isOpen = true ∧ s.floor.channels[1].current = 0 ∧ reportedOwner s.env 1 = some (.box 0)) ∧
    (let s := kiln0 .running 0 fun f => emptied 2 (opened 2 (f.kiln 0 fun x => { x with peat := .filling }));
      s.floor.channels[2].isOpen = true ∧ reportedOwner s.env 2 = some (.kiln 0) ∧ s.floor.kilns[0].peat = .filling) ∧
    (let s := filling 0 (emptied 0);
      reportedOwner s.env 0 = some (.vessel 0) ∧ stepKind s.floor.vessels[0].ctx.fields = .fill ∧
        boundary bank (.vessel 0) s.floor.vessels[0].ctx = .next (bank.position (.vessel 0) 0 1) ∧
        stepKind (bank.position (.vessel 0) 0 1).fields ≠ .fill) ∧
    (let s := changed (filling 0 (emptied 0)) fun f => f.updCtx (.vessel 0) fun c =>
        { c with pos := some ⟨0, 0, bank.entry 8 0, [1]⟩ };
      boundary bank (.vessel 0) s.floor.vessels[0].ctx = .ended) ∧
    (let s := changed (filling 0 (emptied 0)) fun f => f.updCtx (.vessel 0) fun c =>
        { c with pos := some ⟨0, 1, bank.entry 8 0, [3]⟩ };
      boundary bank (.vessel 0) s.floor.vessels[0].ctx = .gone 2) := by decide +kernel

theorem witness_SecondAdvancesClocks :
    (plant.Awake ∧ plant.GoodSteady ∧ plant.LinesFollow) ∧ plant.tables.present = true ∧
      transparent.tables.present = false ∧ (transparent.Awake ∧ transparent.GoodSteady ∧ transparent.LinesFollow) ∧
      (let s := kiln0 .running 0 id; s.inReset = false ∧ s.due = [] ∧ s.floor.kilns[0].ctx.state = .running ∧
        (s.env.ton 0).usable = true ∧ ¬entryTripTemp s.floor.kilns[0].ctx.entry < (s.env.ton 0).value) ∧
      (let s := withPoint (kiln0 .held 0 id) 40 901; (s.env.ton 0).usable = true ∧
        entryTripTemp s.floor.kilns[0].ctx.entry < (s.env.ton 0).value) ∧
      (let s := unitIn (.kiln 0) (ctxIn .running none none (place (.kiln 0) 0 0)) id;
        s.floor.kilns[0].ctx.state = .running ∧ (s.env.ton 0).usable = false) :=
  ⟨steady_of _ (by decide +kernel), rfl, rfl, steady_of _ (by decide +kernel), by decide +kernel⟩

theorem witness_SecondMakesStepsDue : plant.Awake ∧ transparent.Awake ∧ plant.tables.present = true ∧
    transparent.tables.present = false ∧ bank.unitChannel (.kiln 1) ≠ some 2 ∧ bank.unitChannel (.kiln 0) = some 2 :=
  ⟨⟨rfl, rfl⟩, ⟨rfl, rfl⟩, rfl, rfl, by decide +kernel⟩

/-- Point 40 FRESH at an age. -/
def aged (n : Nat) (s : State) : State := { s with points := s.points.set 40 ⟨600, .fresh, false, false, n⟩ }

theorem witness_PointsAgeToHeldAndStale :
    (let s := dueNow (aged 2 plant) (.qualityHeld 40);
      s.pins = s.lines ∧ .qualityHeld 40 ∈ s.due ∧ bank.staleTime 40 < 2 ∧ ¬2 ≤ bank.staleTime 40 + bank.holdTime 40) ∧
    (let s := { dueNow plant (.qualityHeld 0) with points := plant.points.set 0 ⟨5, .fresh, false, false, 61⟩ };
      s.inReset = false ∧ s.pins = s.lines ∧ .qualityHeld 0 ∈ s.due ∧ bank.staleTime 0 < 61 ∧
        61 ≤ bank.staleTime 0 + bank.holdTime 0) ∧
    (let s := dueNow (setLines (aged 2 (box0 .running 0 fun f => (opened 0 f).updCtx (.kiln 0) fun _ =>
        ctxIn .running none none (place (.kiln 0) 0 0)))) (.qualityStale 40);
      s.inReset = false ∧ .qualityStale 40 ∈ s.due ∧ s.points[40].quality = .fresh ∧
        bank.staleTime 40 + bank.holdTime 40 < s.points[40].age ∧ bank.kilnBinding 0 1 = ((40 : Fin 192) : Nat) ∧
        s.floor.kilns[0].ctx.state = .running ∧ bank.boxBinding 0 1 = ((30 : Fin 192) : Nat) ∧
        s.floor.boxes[0].ctx.state = .running ∧ bank.meterPoint 0 = ((100 : Fin 192) : Nat) ∧
        s.floor.channels[0].isOpen = true) := by decide +kernel

theorem witness_PollsAreAnswered :
    (let s : State := { polled with points := plant.points.set 0 ⟨5, .fresh, true, true, 0⟩ };
      s.inReset = false ∧ s.pins = s.lines ∧ pollFor s 0 = some 0 ∧ s.points[0].quality = .fresh) ∧
    (let s := { dueNow polled (.pollDeadline 1) with second := 1001 };
      s.pins = s.lines ∧ .pollDeadline 1 ∈ s.due ∧ s.second = 999 + 2) := by decide +kernel

theorem witness_QueueKeepsItsBounds :
    queued.floor.queue.Bounded ∧ queued.floor.queue.KeysDistinct ∧
      (∃ d ∈ queued.floor.queue.trip ++ queued.floor.queue.command, d.sameKey cell1 = true) ∧
      (let q : Queue := ⟨[], [], .replicate 8 cell1, .replicate 8 cell1, false, false⟩;
        q.Bounded ∧ q.KeysDistinct ∧ q.reply.length = 8 ∧ q.event.length = 8) := by
  unfold Queue.Bounded Queue.KeysDistinct
  decide +kernel

theorem witness_QueueKeepsItsBounds_step :
    step queued = .next queued ∧ queued.floor.queue.Bounded ∧ queued.floor.queue.KeysDistinct ∧
      plant.env.operating = true ∧ transparent.env.operating = false ∧
      (plant.floor.queue.event.length < 8 ∧ plant.floor.queue.shared < 28) ∧
      ¬(({ plant.floor.queue with event := .replicate 8 cell1 } : Queue).event.length < 8) :=
  ⟨rfl, by unfold Queue.Bounded Queue.KeysDistinct; decide +kernel⟩

theorem witness_RefusedOffersAreMadeAgain :
    (let s := dueNow (changed plant fun f => f.channel 0 fun x => { x with valvePending := true })
        (.pendingReoffer (.valve 0));
      s.inReset = false ∧ s.pins = s.lines ∧ .pendingReoffer (.valve 0) ∈ s.due ∧
        s.floor.channels[0].valvePending = true ∧ bank.channelActuator 0 = some (64#8, 20#8)) ∧
    (let q : Poll := ⟨0, 1000, [(16#8, 1#8)], false⟩;
      let s := { dueNow plant (.pendingReoffer (.poll 0)) with polls := plant.polls.set 0 (some q) };
      s.pins = s.lines ∧ .pendingReoffer (.poll 0) ∈ s.due ∧ s.polls[0] = some q ∧ bank.mapOfPoint 0 = some 0) ∧
    (let s := dueNow (changed plant fun f => f.arb fun a => { a with waiting := [.stop] }) (.pendingReoffer .turner);
      s.pins = s.lines ∧ .pendingReoffer .turner ∈ s.due ∧ bank.inService 20 = true ∧
        s.floor.arbiter.waiting = [.stop]) ∧
    (let s := dueNow (changed plant fun f => f.box 0 fun x => { x with fan := some 40, fanPending := true })
        (.pendingReoffer (.unit 6));
      s.pins = s.lines ∧ .pendingReoffer (.unit 6) ∈ s.due ∧ s.floor.boxes[0].fanPending = true ∧
        s.floor.boxes[0].ctx.heldRestart = false ∧ actuatorRef (bank.boxBinding 0 2) = some (64#8, 6#8)) ∧
    (let s := dueNow (changed plant fun f => { f with queue := { f.queue with command := [{ cell1 with joined := 997 }] } })
        .congested;
      .congested ∈ s.due ∧ s.floor.queue.hasOld s.second = true) := by decide +kernel

/-! ### Evaluations, turns, firings -/

theorem witness_VesselEvaluatesAndEndsSteps :
    (let s := dueNow (vessel0 .running 0 1 id) (.vesselEvaluation 0);
      s.inReset = false ∧ .vesselEvaluation 0 ∈ s.due ∧ s.floor.vessels[0].ctx.state = .running ∧
        stepExitMet s.env 0 s.floor.vessels[0] = false) ∧
    (let s := dueNow (vessel0 .held 0 1 id) (.vesselEvaluation 0);
      .vesselEvaluation 0 ∈ s.due ∧ s.floor.vessels[0].ctx.state ∈ [UnitState.held, .done, .discharging]) ∧
    (let s := dueNow (changed (withPoint plant 21 0) fun f => f.updCtx (.vessel 0) fun _ =>
        ⟨.running, none, none, some 7, some ⟨0, 0, [2, 0, 60, 0, 0, 0, 0, 0, 0, 0, 0], [1]⟩, none⟩) (.vesselEvaluation 0);
      .vesselEvaluation 0 ∈ s.due ∧ stepExitMet s.env 0 s.floor.vessels[0] = true ∧
        boundary bank (.vessel 0) s.floor.vessels[0].ctx = .ended) ∧
    (let s := dueNow (vessel0 .running 0 0 fun f => f.vessel 0 fun x => { x with timer := 3600 }) (.stepMaximum 0);
      .stepMaximum 0 ∈ s.due ∧ s.floor.vessels[0].ctx.state = .running ∧
        stepMaxTime s.floor.vessels[0].ctx.fields = s.floor.vessels[0].timer ∧
        boundary bank (.vessel 0) s.floor.vessels[0].ctx = .next (bank.position (.vessel 0) 0 1) ∧
        stepKind (bank.position (.vessel 0) 0 1).fields ≠ .fill) ∧
    (let s := dueNow (changed plant fun f => (f.updCtx (.vessel 0) fun _ =>
        ⟨.running, none, none, some 7, some ⟨1, 0, bank.entry 8 16, [2]⟩, none⟩).vessel 0 fun x =>
          { x with timer := 3600 }) (.stepMaximum 0);
      .stepMaximum 0 ∈ s.due ∧ boundary bank (.vessel 0) s.floor.vessels[0].ctx = .gone 1) := by decide +kernel

theorem witness_VesselEvaluatesAndEndsSteps_rows :
    (∀ i : Fin 4, (let s := dueNow (changed plant fun f => f.updCtx (.vessel 0) fun _ =>
        ctxIn .held (some .station) (some .running) (some ⟨0, 0, [(i : Nat), 0, 60], [9]⟩)) (.vesselEvaluation 0);
      .vesselEvaluation 0 ∈ s.due ∧ s.floor.vessels[0].ctx.state = .held ∧ s.floor.vessels[0].ctx.pos.isSome = true)) ∧
    ([0, 1, 2, 3] : List Int).map (fun i => stepKind [i]) = [.fill, .wet, .drain, .airRest] ∧
    (let s := dueNow (changed plant fun f => f.updCtx (.vessel 0) fun _ => ctxIn .held (some .restart) (some .loaded) none)
        (.vesselEvaluation 0);
      .vesselEvaluation 0 ∈ s.due ∧ s.floor.vessels[0].ctx.state = .held ∧ s.floor.vessels[0].ctx.pos = none) ∧
    (let s := dueNow (vessel0 .done 0 1 fun f => f.vessel 0 fun x => { x with endCo2 := some (300, 20) }) (.vesselEvaluation 0);
      .vesselEvaluation 0 ∈ s.due ∧ s.floor.vessels[0].ctx.state = .done ∧ s.floor.vessels[0].endCo2 = some (300, 20)) ∧
    (let s := dueNow (changed (withPoint plant 21 0) fun f => f.updCtx (.vessel 0) fun _ =>
        ctxIn .running none none (some ⟨0, 1, [2, 0, 60], [3]⟩)) (.vesselEvaluation 0);
      .vesselEvaluation 0 ∈ s.due ∧ stepExitMet s.env 0 s.floor.vessels[0] = true ∧
        boundary bank (.vessel 0) s.floor.vessels[0].ctx = .gone 2) := by decide +kernel

theorem witness_SteepDecisionsKeepTheirBands :
    Point.initial.usable = false ∧ (⟨140, .held, false, false, 0⟩ : Point).usable = true ∧ (0 : Int) < 1 := by decide

theorem witness_BoxEvaluatesAndEndsDays :
    (let s := dueNow (withPoint (box0 .running 0 id) 30 190) (.boxEvaluation 0);
      s.inReset = false ∧ .boxEvaluation 0 ∈ s.due ∧ s.floor.boxes[0].ctx.pos.isSome = true ∧
        (s.env.bed 0).usable = true ∧ urgentCondition s.env 0 s.floor.boxes[0] = false) ∧
    (let s := dueNow (box0 .done 0 id) (.boxEvaluation 0);
      .boxEvaluation 0 ∈ s.due ∧ s.floor.boxes[0].ctx.state ∈ [UnitState.held, .done, .discharging]) ∧
    (let s := dueNow (box0 .running 0 id) (.boxEvaluation 0);
      s.floor.boxes[0].ctx.state = .running ∧ (s.env.bed 0).quality = .none) ∧
    (let s := dueNow (box0 .running 0 fun f => f.box 0 fun x => { x with dayClock := 86400 }) (.dayEnded 0);
      .dayEnded 0 ∈ s.due ∧ dayLength s.floor.boxes[0].ctx.fields * 60 = s.floor.boxes[0].dayClock ∧
        boundary bank (.box 0) s.floor.boxes[0].ctx = .next (bank.position (.box 0) 0 1)) ∧
    (let s := dueNow (box0 .running 1 fun f => f.box 0 fun x => { x with dayClock := 86400 }) (.dayEnded 0);
      .dayEnded 0 ∈ s.due ∧ boundary bank (.box 0) s.floor.boxes[0].ctx = .ended) ∧
    boundary bank (.box 0) ⟨.running, none, none, some 7, some ⟨0, 1, bank.entry 9 0, [3]⟩, none⟩ = .gone 2 := by
  decide +kernel

/-- The turner reports IDLE at position `p`. -/
def turnerAt (p : Int) (status : Int) (s : State) : State := withPoint (withPoint s 50 p) 51 status

/-- The arbiter in a state with the grant at box 0, whose request is queued, its timer run out. -/
def granted (st : ArbiterState) (res : TurnResult) (g : Floor → Floor) : State :=
  box0 .running 0 fun f => g (f.arb fun a =>
    { a.join 0 false with state := st, grant := some 0, result := res, timer := some 1000 })

theorem witness_HoldHoldsRunningUnit_demand :
    (let s := setLines (withPoint (unitIn (.kiln 0) (ctxIn .running none none (place (.kiln 0) 1 0)) fun f =>
        opened 2 (f.kiln 0 fun x => { x with peat := .filling })) 40 600);
      s.Ready .hold (ask 0 18) ∧ (s.floor.ctx (.kiln 0)).state = .running ∧ bank.unitChannel (.kiln 0) = some 2 ∧
        bank.channelMode 2 = .demand ∧ s.floor.channels[2].state = .active) ∧
    ((granted .preparing .none id).Ready .hold (ask 0 6) ∧ (granted .dispatched .none id).Ready .hold (ask 0 6) ∧
      (granted .turning .incomplete (opened 1)).Ready .hold (ask 0 6) ∧
      (granted .releasing .complete (opened 1)).Ready .hold (ask 0 6)) ∧
    (let s := granted .turning .incomplete (opened 1);
      (s.floor.ctx (.box 0)).state = .running ∧ s.floor.arbiter.grant = some 0 ∧ s.floor.arbiter.state = .turning) :=
  ⟨⟨ready_of _ _ _ (by decide +kernel), by decide +kernel⟩,
    ⟨ready_of _ _ _ (by decide +kernel), ready_of _ _ _ (by decide +kernel), ready_of _ _ _ (by decide +kernel),
      ready_of _ _ _ (by decide +kernel)⟩, by decide +kernel⟩

theorem witness_TurnIsAskedAndGranted :
    (let s := dueNow (box0 .running 0 fun f => f.box 0 fun x => { x with turnClock := 3600 }) (.turnIntervalReached 0);
      s.inReset = false ∧ s.pins = s.lines ∧ .turnIntervalReached 0 ∈ s.due ∧
        dayInterval s.floor.boxes[0].ctx.fields * 60 = s.floor.boxes[0].turnClock ∧
        0 < dayInterval s.floor.boxes[0].ctx.fields ∧ s.floor.arbiter.hasRequest 0 = false ∧
        turnerReady s.env = false ∧ s.floor.arbiter.counter < 65535) ∧
    (∀ q ∈ [[], [⟨5, true, 65534⟩, (⟨3, false, 7⟩ : Request)]],
      (let s := dueNow (turnerAt 5 0 (box0 .running 0 fun f => (f.box 0 fun x => { x with turnClock := 3600 }).arb fun a =>
          { a with queue := q, counter := 65535 })) (.turnIntervalReached 0);
        s.inReset = false ∧ s.pins = s.lines ∧ .turnIntervalReached 0 ∈ s.due ∧
          dayInterval s.floor.boxes[0].ctx.fields * 60 = s.floor.boxes[0].turnClock ∧
          s.floor.arbiter.hasRequest 0 = false ∧ s.floor.arbiter.state = .idle ∧ turnerReady s.env = true ∧
          eligible s.env s.floor ⟨0, false, q.length⟩ = true)) ∧
    (let s := dueNow (box0 .running 0 fun f => (f.box 0 fun x => { x with turnClock := 3600 }).arb (·.join 0 true))
        (.turnIntervalReached 0);
      .turnIntervalReached 0 ∈ s.due ∧ s.floor.arbiter.hasRequest 0 = true) ∧
    (plant.inReset = false ∧ plant.pins = plant.lines ∧ turnerReady plant.env = false) ∧
    (let s := turnerAt 5 0 (box0 .running 0 fun f => f.arb (·.join 0 false));
      s.pins = s.lines ∧ s.floor.arbiter.state = .idle ∧ turnerReady s.env = true ∧
        s.floor.arbiter.queue.find? (eligible s.env s.floor) = some ⟨0, false, 0⟩ ∧
        feedbackMet s.env s.floor 0 = false ∧ feedbackMet (withPoint s 31 40).env s.floor 0 = true) := by decide +kernel

/-- The requests of three boxes in queue order are an ordered queue. -/
theorem witness_TurnIsAskedAndGranted_ordered :
    Arbiter.Ordered { plant.floor.arbiter with queue := [⟨5, true, 7⟩, ⟨0, false, 4⟩, ⟨3, false, 9⟩], counter := 65535 } := by
  refine ⟨?_, by decide, by decide, by decide⟩
  simp [Request.StandsBefore]

theorem witness_TurnIsAskedAndGranted_urgent :
    ∀ q ∈ [[], [⟨0, false, 1⟩], [⟨3, false, 2⟩], [(⟨0, true, 1⟩ : Request)]], ∀ counter ∈ [3, 65535], ∀ ready : Bool,
      (let s := dueNow (withPoint (box0 .running 0 fun f => (f.box 0 fun x => { x with turnClock := 300 }).arb fun a =>
          { a with queue := q, counter := counter }) 30 200) (.boxEvaluation 0);
        let s := if ready then turnerAt 5 0 s else s;
        s.inReset = false ∧ s.pins = s.lines ∧ .boxEvaluation 0 ∈ s.due ∧ (s.floor.ctx (.box 0)).state = .running ∧
          0 < dayInterval s.floor.boxes[0].ctx.fields ∧ 0 < entryUrgentDelta s.floor.boxes[0].ctx.entry ∧
          (s.env.bed 0).usable = true ∧
          dayTarget s.floor.boxes[0].ctx.fields + entryUrgentDelta s.floor.boxes[0].ctx.entry = (s.env.bed 0).value ∧
          entryMinGap s.floor.boxes[0].ctx.entry * 60 = s.floor.boxes[0].turnClock ∧ turnerReady s.env = ready ∧
          s.floor.arbiter.grant ≠ some 0 ∧ s.floor.arbiter.request 0 = q.find? (·.box == 0)) := by decide +kernel

/-- The point 50 of the turner's position has aged past its hold time while box 0 turns; so has the point 100 of channel 0. -/
theorem witness_PointsAgeToHeldAndStale_turner :
    (let s := { dueNow (granted .turning .incomplete (opened 1)) (.qualityStale 50) with
        points := plant.points.set 50 ⟨0, .fresh, false, false, 2⟩ };
      s.inReset = false ∧ .qualityStale 50 ∈ s.due ∧ bank.staleTime 50 + bank.holdTime 50 < 2 ∧
        bank.inService 20 = true ∧ bank.binding 20 6 = ((50 : Fin 192) : Nat) ∧ s.floor.arbiter.grant = some 0 ∧
        (∀ k : Fin 2, bank.kilnBinding k 1 ≠ ((50 : Fin 192) : Nat)) ∧
        (∀ n : Fin 12, bank.boxBinding n 1 ≠ ((50 : Fin 192) : Nat)) ∧
        ∀ c : Fin 12, bank.meterPoint c ≠ ((50 : Fin 192) : Nat) ∧ bank.feedbackPoint c ≠ ((50 : Fin 192) : Nat)) ∧
    (let s := { dueNow (changed plant (opened 0)) (.qualityStale 100) with
        points := plant.points.set 100 ⟨0, .held, false, false, 2⟩ };
      .qualityStale 100 ∈ s.due ∧ s.points[100].quality = .held ∧ bank.staleTime 100 + bank.holdTime 100 < 2 ∧
        s.floor.channels[0].isOpen = true ∧ bank.meterPoint 0 = ((100 : Fin 192) : Nat) ∧
        (∀ k : Fin 2, bank.kilnBinding k 1 ≠ ((100 : Fin 192) : Nat)) ∧
        ∀ n : Fin 12, bank.boxBinding n 1 ≠ ((100 : Fin 192) : Nat)) := by decide +kernel

theorem witness_TurnProceeds :
    (let s := withPoint (granted .preparing .none id) 31 40;
      s.inReset = false ∧ s.floor.arbiter.grant = some 0 ∧ s.floor.arbiter.state = .preparing ∧
        feedbackMet s.env s.floor 0 = true) ∧
    (let s := metered (turnerAt 0 2 (granted .dispatched .none id));
      s.floor.arbiter.state = .dispatched ∧ s.env.turnerStatus.usable = true ∧ s.env.turnerStatus.value = 2 ∧
        s.env.turnerPosition.usable = true ∧ s.env.turnerPosition.value = ((0 : Fin 12) : Nat) ∧
        daySpray s.floor.boxes[0].ctx.fields = 50 ∧ bank.unitChannel (.box 0) = some 1 ∧
        bank.channelOwner 1 = some (.box 0) ∧ pointsFresh s.env 1 = true) ∧
    (let s := turnerAt 0 0 (granted .turning .incomplete (opened 1));
      s.floor.arbiter.state = .turning ∧ s.env.turnerStatus.value = 0 ∧ ¬s.SprayShut 0 ∧
        0 < entrySprayTrail s.floor.boxes[0].ctx.entry) ∧
    (let s := granted .releasing .complete id;
      s.floor.arbiter.state = .releasing ∧ s.SprayShut 0 ∧
        turnerReady s.env = false) := by decide +kernel

theorem witness_TurnProceeds_noSpray :
    ∀ st ∈ [ChannelState.idle, .paused],
      (let s := turnerAt 0 2 (changed (granted .dispatched .none fun f => f.channel 1 fun x => { x with state := st }) fun f =>
          f.updCtx (.box 0) fun c => { c with pos := place (.box 0) 0 1 });
        s.inReset = false ∧ s.floor.arbiter.grant = some 0 ∧ s.floor.arbiter.state = .dispatched ∧
          s.env.turnerStatus.usable = true ∧ s.env.turnerStatus.value = 2 ∧ s.env.turnerPosition.usable = true ∧
          s.env.turnerPosition.value = ((0 : Fin 12) : Nat) ∧ daySpray s.floor.boxes[0].ctx.fields = 0 ∧
          bank.unitChannel (.box 0) = some 1 ∧ bank.channelMode 1 = .demand ∧ s.floor.channels[1].state = st) := by
  decide +kernel

/-- The status point of the turner, a TOTAL point, comes by entry 1 of the Channel Map; box 0 turns. -/
def reporting (faults : Nat) : State :=
  withTables (((bank.write (flatIndex 2 51 0) 1#32).write (flatIndex 1 1 3) 51#32).write (flatIndex 1 1 4) 0#32)
    (granted .turning .incomplete fun f => opened 1 (f.arb fun a => { a with faults := faults }))

theorem witness_TurnTimersRunOut_fault :
    (∀ v ∈ [(-1 : Int), 3], (reporting 2).Meets (cell 255 128 1 2 v 0) 1#8 ∧ (reporting 1).Meets (cell 255 128 1 2 v 0) 1#8) ∧
    ((reporting 2).Awake ∧ (reporting 2).GoodSteady ∧ (reporting 2).LinesFollow) ∧ (reporting 2).floor.NoneWaiting ∧
    (let b := (reporting 2).tables.active;
      b.mapFind 128#8 2#8 = some 1 ∧ b.field 1 1 3 = ((51 : Fin 192) : Nat) ∧ b.field 2 51 0 = 1 ∧ b.inService 20 = true ∧
        b.binding 20 7 = ((51 : Fin 192) : Nat) ∧ (∀ c : Fin 12, b.meterPoint c ≠ ((51 : Fin 192) : Nat)) ∧
        (∀ k : Fin 2, b.kilnBinding k 1 ≠ ((51 : Fin 192) : Nat)) ∧ (reporting 2).floor.arbiter.grant = some 0 ∧
        (reporting 2).floor.arbiter.faults = 2 ∧ (reporting 1).floor.arbiter.faults < 2) :=
  ⟨fun v h => ⟨meets_of _ _ _ (by revert v; decide +kernel), meets_of _ _ _ (by revert v; decide +kernel)⟩,
    steady_of _ (by decide +kernel), noneWaiting_of _ (by decide +kernel), by decide +kernel⟩

theorem witness_TurnTimersRunOut :
    (let s := dueNow (granted .preparing .none id) .prepTimeout;
      s.inReset = false ∧ .prepTimeout ∈ s.due ∧ s.floor.arbiter.grant = some 0 ∧
        s.floor.arbiter.timer = some s.second) ∧
    (let s := dueNow (granted .preparing .none fun f => f.arb fun a =>
        { a with queue := [⟨0, true, 4⟩, ⟨3, false, 65534⟩], counter := 65535 }) .prepTimeout;
      .prepTimeout ∈ s.due ∧ s.floor.arbiter.request 0 = some ⟨0, true, 4⟩ ∧ s.floor.arbiter.counter = 65535) ∧
    (let s := dueNow (granted .dispatched .none fun f => f.arb fun a => { a with faults := 2 }) .startTimeout;
      .startTimeout ∈ s.due ∧ s.floor.arbiter.state = .dispatched ∧ s.floor.arbiter.faults = 2) ∧
    (let s := dueNow (granted .dispatched .none id) .startTimeout;
      .startTimeout ∈ s.due ∧ s.floor.arbiter.faults < 2 ∧ turnerReady s.env = false) ∧
    (let s := dueNow (granted .turning .incomplete (opened 1)) .turnOverrun;
      .turnOverrun ∈ s.due ∧ s.floor.arbiter.state = .turning) ∧
    (let s := dueNow (granted .releasing .complete (opened 1)) .sprayTrailExpiry;
      .sprayTrailExpiry ∈ s.due ∧ s.floor.arbiter.state = .releasing ∧ s.floor.arbiter.result = .complete) := by
  decide +kernel

theorem witness_TurnerParksAndIsEnabled :
    (let s := dueNow (changed plant fun f => f.arb fun a => { a with parkTimer := some 1000 }) .parkDelayExpiry;
      s.inReset = false ∧ .parkDelayExpiry ∈ s.due ∧ s.floor.arbiter.state = .idle ∧
        s.floor.arbiter.parkTimer = some s.second ∧ bank.inService 20 = true ∧ bank.field 0 0 10 = 1) ∧
    (let s := turnerAt 16 0 (changed plant fun f => f.arb fun a => { a with state := .parking });
      s.inReset = false ∧ s.floor.arbiter.state = .parking ∧ s.env.turnerPosition.usable = true ∧
        s.env.turnerPosition.value = 16 ∧ s.env.turnerStatus.usable = true ∧ s.env.turnerStatus.value = 0 ∧
        s.floor.arbiter.queue = []) ∧
    (changed plant fun f => f.arb fun a => { a with state := .disabled, faults := 3 }).Ready .turnerEnable (ask 0 0) ∧
    turnerReady plant.env = false :=
  ⟨by decide +kernel, by decide +kernel, ready_of _ _ _ (by decide +kernel), by decide +kernel⟩

/-- A parking decision is due under PARK_POLICY `p`, with commands waiting. -/
def deciding (p : Word) (w : List TurnerCommand) : State :=
  withTables (bank.write (flatIndex 0 0 10) p) (dueNow (changed plant fun f => f.arb fun a =>
    { a with parkTimer := some 1000, waiting := w }) .parkDelayExpiry)

/-- The turner stands at position 16 with a status, the arbiter PARKING. -/
def bay (v : Int) (off : Bool) (w : List TurnerCommand) : State :=
  turnerAt 16 v (changed plant fun f => f.arb fun a => { a with state := .parking, parkOffered := off, waiting := w })

theorem witness_TurnerParksAndIsEnabled_policies :
    (let s := deciding 2#32 [.stop];
      s.inReset = false ∧ .parkDelayExpiry ∈ s.due ∧ s.floor.arbiter.state = .idle ∧
        s.floor.arbiter.parkTimer = some s.second ∧ s.tables.active.inService 20 = true ∧
        s.tables.active.field 0 0 10 = 2 ∧ s.floor.arbiter.waiting = [.stop]) ∧
    (let s := deciding 3#32 [];
      s.tables.active.inService 20 = true ∧ s.tables.active.field 0 0 10 = 3 ∧ s.floor.arbiter.waiting = []) ∧
    (let s := bay 1 false [];
      s.inReset = false ∧ s.floor.arbiter.state = .parking ∧ s.env.turnerPosition.usable = true ∧
        s.env.turnerPosition.value = 16 ∧ s.env.turnerStatus.usable = true ∧ s.env.turnerStatus.value = 1) ∧
    (let s := bay 2 true [.goto 16]; s.env.turnerStatus.value = 2 ∧ s.floor.arbiter.parkOffered = true) ∧
    (let s := bay 2 false [.goto 16]; s.floor.arbiter.parkOffered = false ∧ s.floor.arbiter.waiting = [.goto 16]) ∧
    (plant.inReset = false ∧ plant.pins = plant.lines ∧ plant.floor.arbiter.state ≠ .parking) := by decide +kernel

/-- The points that an evaluation of kiln 0 reads, FRESH. -/
def measured (s : State) : State :=
  withPoint (withPoint (withPoint (withPoint (withPoint s 41 400) 42 900) 2 150) 3 500) 43 8000

theorem witness_KilnEvaluationAccounts :
    (let s := dueNow (kiln0 .running 1 id) (.kilnEvaluation 0);
      s.inReset = false ∧ .kilnEvaluation 0 ∈ s.due ∧
        s.floor.kilns[0].ctx.state ∈ [UnitState.running, .held, .tripped, .done] ∧
        ∃ i ∈ kilnInputs bank 0, (s.env.point i).usable = false) ∧
    (let s := dueNow (measured (kiln0 .held 1 id)) (.kilnEvaluation 0);
      .kilnEvaluation 0 ∈ s.due ∧ (∀ i ∈ kilnInputs bank 0, (s.env.point i).usable = true) ∧
        s.floor.kilns[0].ctx.state ≠ .running) ∧
    (let s := dueNow (measured (kiln0 .running 1 fun f => f.kiln 0 fun x => { x with noBasis := true }))
        (.kilnEvaluation 0);
      .kilnEvaluation 0 ∈ s.due ∧ s.floor.kilns[0].ctx.state = .running ∧
        phaseKind s.floor.kilns[0].ctx.fields = .forcedDry ∧ s.floor.kilns[0].noBasis = true) := by decide +kernel

/-- An evaluation of kiln 0 is due, RUNNING in phase `fields` as item `i` of program `p`, Ton FRESH at `ton`. -/
def drying (fields : List Int) (p i : Nat) (ton : Int) (g : Kiln → Kiln) : State :=
  dueNow (setLines (withPoint (measured (unitIn (.kiln 0)
    (ctxIn .running none none (some ⟨p, i, fields, [2, 900, 50, 40, 100, 2, 4, 20, 120, 60, 700]⟩)) fun f => f.kiln 0 g)) 40 ton))
    (.kilnEvaluation 0)

theorem witness_KilnEvaluationAccounts_phases :
    (∀ s ∈ [drying [0] 0 0 600 id, drying [1] 1 0 600 id, drying [2, 0, 0, 0, 0, 0, 10] 0 0 710 id,
        drying [2, 0, 0, 0, 0, 0, 11] 0 0 710 id, drying [3, 0, 0, 0, 0, 0, 600] 0 1 600 id, drying [3, 0, 0, 0, 0, 0, 599] 0 1 600 id],
      s.inReset = false ∧ .kilnEvaluation 0 ∈ s.due ∧ (∀ i ∈ kilnInputs bank 0, (s.env.point i).usable = true) ∧
        s.floor.kilns[0].ctx.state = .running ∧ (s.env.ton 0).usable = true) ∧
    ([0, 1, 2, 3] : List Int).map (fun i => phaseKind [i]) = [.freeDry, .forcedDry, .cure, .cool] ∧
    (let x := (drying [0] 0 0 600 fun x =>
        { x with dry := 500000, water := 400000, history := [360, 350, 340, 330], filter := some 360 }).floor.kilns[0];
      x.noBasis = false ∧ filterStep (entryShift x.ctx.entry) x.filter 400 = 370 ∧
        ((370 :: x.history).take 16)[entryWindow x.ctx.entry]? = some 330 ∧ entryBreakRise x.ctx.entry = 20 ∧
        entryBreakMoisture x.ctx.entry = 120) ∧
    (min (2 ^ 32 - 1) (0 + (710 - 700 : Int).toNat * bank.evalSeconds / 60) = 10) ∧
    (boundary bank (.kiln 0) (drying [2] 0 0 710 id).floor.kilns[0].ctx = .next (bank.position (.kiln 0) 0 1) ∧
      phaseKind (bank.position (.kiln 0) 0 1).fields ≠ .freeDry ∧
      boundary bank (.kiln 0) (drying [3] 0 1 600 id).floor.kilns[0].ctx = .ended ∧
      boundary bank (.kiln 0) (drying [1] 1 0 600 id).floor.kilns[0].ctx = .gone 1) := by decide +kernel

theorem witness_PhasesEndAndFlamesTrip :
    (let s := dueNow (kiln0 .running 0 fun f => f.kiln 0 fun x => { x with timer := 36000 }) (.phaseMaximum 0);
      s.inReset = false ∧ .phaseMaximum 0 ∈ s.due ∧ s.floor.kilns[0].ctx.state = .running ∧
        phaseMaxTime s.floor.kilns[0].ctx.fields = s.floor.kilns[0].timer ∧
        boundary bank (.kiln 0) s.floor.kilns[0].ctx = .next (bank.position (.kiln 0) 0 1) ∧
        phaseKind (bank.position (.kiln 0) 0 1).fields ≠ .freeDry) ∧
    (let s := dueNow (kiln0 .running 1 fun f => f.kiln 0 fun x => { x with timer := 36000 }) (.phaseMaximum 0);
      .phaseMaximum 0 ∈ s.due ∧ boundary bank (.kiln 0) s.floor.kilns[0].ctx = .ended) ∧
    boundary bank (.kiln 0) ⟨.running, none, none, some 7, some ⟨1, 0, bank.entry 10 8, [2]⟩, none⟩ = .gone 1 ∧
    (let s := dueNow (kiln0 .held 0 fun f => f.kiln 0 fun x => { x with flame := 40 }) (.flameLost 0);
      .flameLost 0 ∈ s.due ∧ s.floor.kilns[0].ctx.state = .held ∧
        entryFlameGrace s.floor.kilns[0].ctx.entry = s.floor.kilns[0].flame) := by decide +kernel

theorem witness_PermitsNeedConsent : step plant = .next plant ∧ plant.LinesFollow :=
  ⟨rfl, (steady_of plant (by decide +kernel)).2.2⟩

theorem witness_BanksStayCanonical : step plant = .next plant ∧ plant.tables.active.wf = true ∧
    plant.tables.shadow.wf = true := ⟨rfl, by decide +kernel⟩

theorem witness_ReadyChainStaysSound :
    (let s := changed plant readyRegister;
      step s = .next s ∧ s.inReset = false ∧ s.floor.register.state = .ready ∧ ChainSound s.floor.register.retained) :=
  ⟨rfl, rfl, rfl, trivial, fun r h => by cases h⟩

/-! ### WellFormed: a term that each check refuses -/

theorem test_wf_emptySlot : (Instr.emptySlot badSlot true).wf = false := by decide
theorem test_wf_badCell : (Instr.badCell emptySlotBytes true).wf = false := by decide
theorem test_wf_sampleCell : (Instr.sampleCell (cell 255 128 2 1 0 0) true).wf = false := by decide +kernel
theorem test_wf_commandCell : (Instr.commandCell (cell 255 128 1 1 0 0) true).wf = false := by decide +kernel
theorem test_wf_timeCell : (Instr.timeCell badSlot true).wf = false := by decide
theorem test_wf_forwardCell : (Instr.forwardCell emptySlotBytes true).wf = false := by decide
theorem test_wf_source : (Instr.start { ask 0 0 with source := 255#8 }).wf = false := by decide
theorem test_wf_badFunction : (Instr.badFunction 1#8 (ask 0 0)).wf = false := by decide
theorem test_wf_good : (Instr.sampleCell (cell 255 128 1 1 0 0) true).wf = true := by decide +kernel

/-! ### Worked examples of the spec -/

/-- The usual check value of this CRC-8 over the digits 1 to 9. -/
theorem test_crc8 : crc8 [0x31#8, 0x32#8, 0x33#8, 0x34#8, 0x35#8, 0x36#8, 0x37#8, 0x38#8, 0x39#8] = 0xF4#8 := by
  decide +kernel

/-- The usual check value of this CRC-16 over the digits 1 to 9. -/
theorem test_crc16 : [0x31#8, 0x32#8, 0x33#8, 0x34#8, 0x35#8, 0x36#8, 0x37#8, 0x38#8, 0x39#8].foldl crc16Byte 0xFFFF#16 =
    0x29B1#16 := by
  decide +kernel

/-- R50's example: an ACTUATOR window with base 192, size 16, translate set and target base 32. -/
def window192 : Bank :=
  [(2703, 1#32), (2704, 192#32), (2705, 16#32), (2706, 4#32), (2707, 1#32), (2708, 32#32)]

theorem test_translate : flatIndex 4 0 0 = 2703 ∧ window192.translate 197#8 = 37#8 ∧ window192.translate 207#8 = 47#8 ∧
    window192.translate 208#8 = 208#8 := by decide +kernel

/-- Section 7.9, seconds 20 to 40: the totaliser passes 2^32 − 1 and the delta is 5. -/
theorem test_meter_wrap :
    (let f := (State.reset.floor.channel 0 fun x =>
        { x with state := .active, base := 61, current := 46, lastReading := some 4294967295 });
      (meterChannel plant.env 0 4 f).1.channels[0].current) = 41 := by decide +kernel

/-- Section 7.9, second 170: a delta of 12 finds 5 outstanding. -/
theorem test_meter_overrun :
    (let f := (State.reset.floor.channel 0 fun x => { x with state := .active, base := 61, current := 5, lastReading := some 40 });
      let r := meterChannel plant.env 0 52 f;
      (r.1.channels[0].current, r.1.channels[0].overrun, r.1.channels[0].delivered, r.2)) = (0, 7, 68, true) := by
  decide +kernel

/-- R158: box 0, made EMPTY by a transfer in RELEASING, is bound to channel 5 by a swap, while the channel 1 that its turn started
is still open. -/
def rebound : State :=
  withTables ((bank.write (flatIndex 6 6 4) 5#32).write (flatIndex 7 5 0) 6#32)
    (changed (granted .releasing .complete fun f => (opened 1 f).channel 1 fun x => { x with demand := true }) fun f =>
      f.updCtx (.box 0) fun _ => .initial)

/-- R158, R163: the spray that the turn started is waited for, and at the end of the trail stopped before the grant is withdrawn. -/
theorem test_started_spray_is_stopped :
    rebound.tables.active.unitChannel (.box 0) = some 5 ∧ rebound.tables.active.channelOwner 5 = some (.box 0) ∧
      (releaseTest rebound.env rebound.floor).arbiter.grant = some 0 ∧
      (let f := sprayTrailExpiry rebound.env rebound.floor;
        (f.arbiter.grant, f.channels[1].state, f.channels[1].valve, f.channels[1].current, f.channels[1].demand) =
          (none, .stopped, .closed, 40, false)) := by decide +kernel

/-- R122: a vessel whose records a former batch left OFF commands all five outputs in its first step, those decided OFF too. -/
theorem test_start_commands_outputs :
    (let s := vessel0 .loaded 0 0 fun f => f.vessel 0 fun x => { x with outs := .replicate 5 ⟨.off, false⟩ };
      ((startVessel s.env 0 1 s.floor).queue.command.map fun c => (c.dest, c.func, c.value))) =
      [(64#8, 1#8, 0#32), (64#8, 2#8, 0#32), (64#8, 3#8, 0#32), (64#8, 4#8, 1#32), (64#8, 5#8, 0#32)] := by decide +kernel

/-- Section 8.11, second 1000: the fan formula for a bed at 172. -/
theorem test_fan_formula : fanFormula [160, 20, 30, 80, 480, 250, 1440, 0] 172 = 54 := by decide

/-- The humidity entries of section 9.8. -/
def humid : Bank := [(flatIndex 11 12 0, 88#32), (flatIndex 11 27 0, 229#32), (flatIndex 11 28 0, 243#32)]

theorem test_humidity : xsat humid 274 = 234 ∧ humidityRatio humid 274 960 = 224 ∧ humidityRatio humid 120 800 = 70 ∧
    humidityRatio humid 279 943 = 227 := by decide +kernel

/-- Section 9.8, evaluations 1 and 2. -/
theorem test_pickup : pickupProduct 620 (224 - 70) 60 = 5728800 ∧ 5728800 / 600 = 9548 ∧ moistureOf 10212000 8188000 9548 = 444 ∧
    filterStep 2 (some 274) 279 = 276 ∧ pickupProduct 613 (227 - 70) 60 = 5774460 ∧
    moistureOf 10212000 8188000 19172 = 444 := by decide +kernel

/-- Section 9.8, the firing's start: basis and setpoint. -/
theorem test_firing_basis :
    (let x := firingContext plant.env 612 ⟨some 18400, some 445⟩
        { State.reset.floor.kilns[0] with ctx := ctxIn .running none none (place (.kiln 0) 0 0) };
      (x.dry, x.water, x.moisture, x.setpoint)) = (10212000, 8188000, 445, 612) := by decide +kernel

/-- No word of the opcode table spells a command. -/
theorem test_decode : decodeTableWord 0 0 = none ∧ plant.withFetchWord 0 0 = plant := ⟨rfl, rfl⟩

end Sys2Proof.Tests
end

/-! SUPPORT. The Interlock Unit: what a unit index names, the conditions and the verdicts by their codes, and the deciding rule
(R52, R53, R54). -/

namespace Sys2Proof.Machine

/-! ### The unit that a rule names -/

/-- R88: a unit index belongs to one unit alone. -/
theorem unitOf_eq_some {n : Nat} {u : PlantUnit} : unitOf n = some u ↔ n = u.index := by
  constructor
  · intro h
    unfold unitOf at h
    split at h
    · cases h; rfl
    · split at h
      · cases h
        simp only [PlantUnit.index]
        omega
      · split at h
        · cases h
          simp only [PlantUnit.index]
          omega
        · cases h
  · rintro rfl
    cases u with
    | vessel v => simp [unitOf, PlantUnit.index]
    | box b =>
      rw [PlantUnit.index, unitOf, dif_neg (by omega), dif_pos (by omega)]
      simp
    | kiln k =>
      rw [PlantUnit.index, unitOf, dif_neg (by omega), dif_neg (by omega), dif_pos (by omega)]
      simp

/-- A signed field that is not negative names a unit just where it equals the unit's index. -/
theorem unitOf_toNat {n : Int} (h : 0 ≤ n) {u : PlantUnit} : unitOf n.toNat = some u ↔ n = (u.index : Nat) := by
  rw [unitOf_eq_some]
  omega

theorem ruleUnit_eq_some {f : Floor} {n : Int} {st : UnitState} :
    ruleUnit f n = some st ↔ ∃ u : PlantUnit, n = (u.index : Nat) ∧ (f.ctx u).state = st := by
  unfold ruleUnit
  split
  · next h => simp [unitOf_toNat h]
  · next h =>
    have unnamed : ∀ u : PlantUnit, n ≠ (u.index : Nat) := fun u => by omega
    simp [unnamed]

/-- A test of the state of the unit that a rule names, which fails where it names none. -/
theorem ruleUnit_any {f : Floor} {n : Int} (p : UnitState → Bool) :
    (ruleUnit f n).any p = true ↔ ∃ u : PlantUnit, n = (u.index : Nat) ∧ p (f.ctx u).state = true := by
  simp only [Option.any_eq_true, ruleUnit_eq_some]
  constructor
  · rintro ⟨_, ⟨u, hn, rfl⟩, hp⟩
    exact ⟨u, hn, hp⟩
  · rintro ⟨u, hn, hp⟩
    exact ⟨_, ⟨u, hn, rfl⟩, hp⟩

/-! ### The conditions and verdicts by their codes -/

theorem UnitState.auto_iff (st : UnitState) : st.auto = true ↔ st ∈ [UnitState.running, .held, .tripped] := by
  simp [UnitState.auto, or_assoc]

theorem UnitState.moving_iff (st : UnitState) : st.moving = true ↔ st ∈ [UnitState.discharging, .receiving] := by
  simp [UnitState.moving]

/-- R35: a point that may not be used is NONE or STALE. -/
theorem Point.not_usable_iff (p : Point) : (!p.usable) = true ↔ p.quality = .none ∨ p.quality = .stale := by
  rw [Point.usable]
  cases p.quality <;> decide

theorem heldAt_iff (f : Floor) (u : PlantUnit) (x : Batch) :
    heldAt f u x = true ↔ x.exciseHold = true ∧
      ((f.ctx u).batch = some x.id ∨ ((f.ctx u).state = .receiving ∧ ∃ t, x.transfer = some t ∧ t.dest = some u)) := by
  cases h : x.transfer with
  | none => simp [heldAt, h]
  | some t => simp [heldAt, h]

/-- BATCH_HOLD for a field that names unit `u`. -/
theorem batchHold_named (f : Floor) {n : Int} {u : PlantUnit} (h : n = (u.index : Nat)) :
    batchHold f n = true ↔ ∃ (b : Fin 20) (x : Batch), f.batches[b] = some x ∧ heldAt f u x = true := by
  have hn : 0 ≤ n := by omega
  simp only [batchHold, if_pos hn, (unitOf_toNat hn).mpr h]
  constructor
  · intro hany
    obtain ⟨y, hy, held⟩ := List.any_eq_true.mp hany
    obtain ⟨i, hi, rfl⟩ := Vector.mem_iff_getElem.mp (Vector.mem_toList_iff.mp hy)
    cases hb : f.batches[i] with
    | none => simp [hb] at held
    | some x => exact ⟨⟨i, hi⟩, x, hb, by simpa [hb] using held⟩
  · rintro ⟨b, x, hb, held⟩
    exact List.any_eq_true.mpr ⟨some x, Vector.mem_toList_iff.mpr (hb ▸ Vector.getElem_mem b.isLt), held⟩

/-- BATCH_HOLD is true only for a field that names a unit. -/
theorem batchHold_names {f : Floor} {n : Int} (h : batchHold f n = true) : ∃ u : PlantUnit, n = (u.index : Nat) := by
  unfold batchHold at h
  split at h
  · next hn =>
    split at h
    · next u hu => exact ⟨u, (unitOf_toNat hn).mp hu⟩
    · cases h
  · cases h

theorem batchHold_iff (f : Floor) (n : Int) :
    batchHold f n = true ↔ ∃ (u : PlantUnit) (b : Fin 20) (x : Batch),
      n = (u.index : Nat) ∧ f.batches[b] = some x ∧ heldAt f u x = true := by
  constructor
  · intro h
    obtain ⟨u, hu⟩ := batchHold_names h
    obtain ⟨b, x, held⟩ := (batchHold_named f hu).mp h
    exact ⟨u, b, x, hu, held⟩
  · rintro ⟨u, b, x, hu, held⟩
    exact (batchHold_named f hu).mpr ⟨b, x, held⟩

section Conditions

variable {e : Env} {f : Floor} {r : Nat}

theorem ruleCondition_always (h : e.bank.field 5 r 5 = 0) : ruleCondition e f r = true := by
  simp only [ruleCondition, h]

theorem ruleCondition_unitAuto (h : e.bank.field 5 r 5 = 1) :
    ruleCondition e f r = true ↔
      ∃ u : PlantUnit, e.bank.field 5 r 4 = (u.index : Nat) ∧ (f.ctx u).state ∈ [UnitState.running, .held, .tripped] := by
  simp only [← UnitState.auto_iff, ← ruleUnit_any UnitState.auto, ruleCondition, h]
  cases ruleUnit f (e.bank.field 5 r 4) <;> rfl

theorem ruleCondition_unitMoving (h : e.bank.field 5 r 5 = 2) :
    ruleCondition e f r = true ↔
      ∃ u : PlantUnit, e.bank.field 5 r 4 = (u.index : Nat) ∧ (f.ctx u).state ∈ [UnitState.discharging, .receiving] := by
  simp only [← UnitState.moving_iff, ← ruleUnit_any UnitState.moving, ruleCondition, h]
  cases ruleUnit f (e.bank.field 5 r 4) <;> rfl

theorem ruleCondition_turnerBusy (h : e.bank.field 5 r 5 = 3) :
    ruleCondition e f r = true ↔ f.arbiter.state ≠ .idle := by
  simp [ruleCondition, h]

theorem ruleCondition_pointAbove (h : e.bank.field 5 r 5 = 4) :
    ruleCondition e f r = true ↔ (e.point (e.bank.field 5 r 6)).quality = .none ∨
      (e.point (e.bank.field 5 r 6)).quality = .stale ∨ e.bank.field 5 r 7 < (e.point (e.bank.field 5 r 6)).value := by
  simp only [ruleCondition, h, Bool.or_eq_true, Point.not_usable_iff, decide_eq_true_eq, or_assoc]

theorem ruleCondition_pointBelow (h : e.bank.field 5 r 5 = 5) :
    ruleCondition e f r = true ↔ (e.point (e.bank.field 5 r 6)).quality = .none ∨
      (e.point (e.bank.field 5 r 6)).quality = .stale ∨ (e.point (e.bank.field 5 r 6)).value < e.bank.field 5 r 7 := by
  simp only [ruleCondition, h, Bool.or_eq_true, Point.not_usable_iff, decide_eq_true_eq, or_assoc]

theorem ruleCondition_batchHold (h : e.bank.field 5 r 5 = 6) :
    ruleCondition e f r = batchHold f (e.bank.field 5 r 4) := by
  simp only [ruleCondition, h]

theorem ruleCondition_unknown (h : 6 < e.bank.field 5 r 5) : ruleCondition e f r = false := by
  unfold ruleCondition
  split <;> simp_all

end Conditions

section Verdicts

variable {b : Bank} {r : Nat}

theorem ruleVerdict_pass (h : b.field 5 r 8 = 0) : ruleVerdict b r = .pass := by
  simp only [ruleVerdict, h]

theorem ruleVerdict_refuse (h : b.field 5 r 8 = 1 ∨ 3 < b.field 5 r 8) : ruleVerdict b r = .refuse := by
  unfold ruleVerdict
  split <;> simp_all

theorem ruleVerdict_retry (h : b.field 5 r 8 = 2) : ruleVerdict b r = .retry := by
  simp only [ruleVerdict, h]

theorem ruleVerdict_clamp (h : b.field 5 r 8 = 3) :
    ruleVerdict b r = .clamp (min (b.field 5 r 9) (b.field 5 r 10)) (max (b.field 5 r 9) (b.field 5 r 10)) := by
  simp only [ruleVerdict, h]

end Verdicts

/-! ### The deciding rule -/

/-- R53: what it is for a rule to match a command. -/
theorem ruleMatches_iff (b : Bank) (dest func : Byte) (r : Nat) :
    ruleMatches b dest func r = true ↔
      b.field 5 r 0 ≠ 0 ∧ b.field 5 r 1 ≤ (dest.toNat : Int) ∧ (dest.toNat : Int) ≤ b.field 5 r 2 ∧
        (b.field 5 r 3 = 256 ∨ b.field 5 r 3 = (func.toNat : Int)) := by
  simp [ruleMatches, and_assoc]

section Judge

variable {e : Env} {f : Floor} {dest func : Byte}

/-- R53: the first matching rule whose condition is true decides. -/
theorem judge_of_first {r : Nat} (hr : r < 64) (matched : ruleMatches e.bank dest func r = true)
    (holds : ruleCondition e f r = true)
    (before : ∀ q, q < r → ruleMatches e.bank dest func q = true → ruleCondition e f q = false) :
    judge e f dest func = ruleVerdict e.bank r := by
  have found : ((List.range 64).find? fun q => ruleMatches e.bank dest func q && ruleCondition e f q) = some r := by
    rw [List.find?_range_eq_some]
    refine ⟨by simp [matched, holds], List.mem_range.mpr hr, fun q hq => ?_⟩
    simpa only [Bool.not_eq_true', Bool.and_eq_false_imp] using before q hq
  simp only [judge, found]

/-- R53: where no rule decides, the verdict is PASS. -/
theorem judge_of_none
    (undecided : ∀ r, r < 64 → ruleMatches e.bank dest func r = true → ruleCondition e f r = false) :
    judge e f dest func = .pass := by
  have found : ((List.range 64).find? fun q => ruleMatches e.bank dest func q && ruleCondition e f q) = none := by
    rw [List.find?_range_eq_none]
    intro r hr
    simpa only [Bool.not_eq_true', Bool.and_eq_false_imp] using undecided r hr
  simp only [judge, found]

end Judge

/-- Settles O9: each code of a condition and of a verdict by its equation, then the deciding rule. -/
theorem lowestRuleDecides : Obligations.LowestRuleDecides := by
  refine ⟨fun e f r => ⟨ruleCondition_always, ruleCondition_unitAuto, ruleCondition_unitMoving, ruleCondition_turnerBusy,
    ruleCondition_pointAbove, ruleCondition_pointBelow, fun h => ?_, fun h => ?_, ruleVerdict_pass, ruleVerdict_refuse,
    ruleVerdict_retry, ruleVerdict_clamp⟩, fun e f dest func => ?_⟩
  · rw [ruleCondition_batchHold h, batchHold_iff]
    simp only [heldAt_iff]
  · simp [ruleCondition_unknown h]
  · simp only [← ruleMatches_iff]
    exact ⟨fun r hr => judge_of_first hr, judge_of_none⟩

end Sys2Proof.Machine

/-! SUPPORT. The arrival of a COMMAND cell: the slot that its handling passes on or takes off the loop, and the verdicts of the
Interlock Unit on a station's command (R8, R9, R56, R57, R58). -/

namespace Sys2Proof.Machine

/-! ### A COMMAND cell arrives -/

/-- R8: a COMMAND cell that meets the part is handled by its destination and its source. -/
theorem handleSlot_command {slot : Slot} {s : State} (h : s.Meets slot 2#8) : handleSlot slot s = commandArrives slot s := by
  obtain ⟨present, good, full, kind, source, dest⟩ := h
  simp [handleSlot, handleGood, present, good, full, kind, source, dest, codeMarked]

/-- What a slot meets depends on the mode and the node number alone. -/
theorem meets_congr {s t : State} {slot : Slot} {kind : Byte} (h : s.Meets slot kind) (tables : t.tables = s.tables)
    (node : t.loop.node = s.loop.node) : t.Meets slot kind := by
  simpa only [State.Meets, tables, node] using h

theorem meets_good {s : State} {slot : Slot} {kind : Byte} (h : s.Meets slot kind) : classify slot ≠ .bad := by
  obtain ⟨-, good, -⟩ := h
  simp [good]

theorem guarded_iff (b : Bank) (n : Byte) : guarded b n = true ↔ b.nodeClass n = .actuator ∨ b.nodeClass n = .turner := by
  simp [guarded]

/-- R8: a station's command into an ACTUATOR or TURNER window is judged. -/
theorem commandArrives_station {slot : Slot} {s : State} (dest : guarded s.tables.active slot.dest = true)
    (source : s.tables.active.nodeClass slot.source = .station) : commandArrives slot s = judgeCommand slot s := by
  simp only [commandArrives, dest, source, if_true]

/-- A quiet work on a slot that has been passed on ends as it stands. -/
theorem finish_passedOn_quiet (s : State) (out : Slot) (h : s.LinesFollow) {op : State → State} (q : QuietWork op) :
    finish s (op (s.passedOn out)) = op (s.passedOn out) :=
  finish_same s _ h (q.pins _) (q.inReset _) (q.bank _) (q.points _) (by rw [q.loop]; rfl) (by rw [q.loop]; rfl)
    (q.vessels _) (q.kilns _) (q.congested _) (q.batches _) (q.arbiter _) (q.register _)

section Arrival

variable {slot : Slot} {ff : Bool} {s : State}

theorem exec_commandCell (ha : s.Awake) : exec (.commandCell slot ff) s = .next (finish s (passSlot slot ff s)) :=
  congrArg Host.Outcome.next (arrive_awake slot ff s ha)

/-- A COMMAND cell that is passed on with a quiet work, to which the out-port makes no difference. -/
theorem exec_commandCell_forward (ha : s.Awake) (hs : s.GoodSteady) (hl : s.LinesFollow) (hc : classify slot ≠ .bad)
    {op : State → State} (q : QuietWork op) (out : Slot)
    (port : op (s.passedOn out) = { op (s.counted false) with outPort := some out })
    (h : handleSlot slot (s.counted false) = (op (s.counted false), some out)) :
    exec (.commandCell slot ff) s = .next (op (s.passedOn out)) := by
  rw [exec_commandCell ha, passSlot_forward slot ff s _ hc hs out h, ← port, finish_passedOn_quiet s out hl q]

end Arrival

/-! ### The retry list -/

theorem retryFree_fields (source dest func : Byte) (s : State) :
    retryFree source dest func s = { s with retries := (retryFree source dest func s).retries } := by
  unfold retryFree
  split <;> rfl

theorem retryFree_quiet (source dest func : Byte) : QuietWork (retryFree source dest func) := by
  constructor <;> intro t <;> rw [retryFree_fields]

/-- The freeing of an entry does not look at the out-port. -/
theorem retryFree_outPort (source dest func : Byte) (s : State) (out : Option Slot) :
    retryFree source dest func { s with outPort := out } = { retryFree source dest func s with outPort := out } := by
  have found : retryFind { s with outPort := out } source dest func = retryFind s source dest func := rfl
  simp only [retryFree, found]
  split <;> rfl

/-! ### The verdicts -/

theorem interlockReply_told (slot : Slot) (st : Status) (v : Int) (s : State) :
    interlockReply slot st v s = s.told slot.source slot.func slot.tag v st.code := rfl

/-- The verdict does not look at the insertion queue. -/
theorem judge_queue (e : Env) (f : Floor) (q : Queue) (dest func : Byte) :
    judge e { f with queue := q } dest func = judge e f dest func := rfl

section Verdicts

variable {slot : Slot} {s : State}

/-- R56: PASS forwards the command and frees its entry. -/
theorem judgeCommand_pass (h : judge s.env s.floor slot.dest slot.func = .pass) :
    judgeCommand slot s = (retryFree slot.source slot.dest slot.func s, some (forwardCommand s.tables.active slot)) := by
  simp only [judgeCommand, h]

/-- R58: REFUSE strips the command and answers REFUSED with its value. -/
theorem judgeCommand_refuse (h : judge s.env s.floor slot.dest slot.func = .refuse) :
    judgeCommand slot s =
      (s.told slot.source slot.func slot.tag slot.value.toInt Status.refused.code, none) := by
  simp only [judgeCommand, h, interlockReply_told]

/-- R57: CLAMP with a value within the range forwards the command and frees its entry. -/
theorem judgeCommand_clamp_within {lo hi : Int} (h : judge s.env s.floor slot.dest slot.func = .clamp lo hi)
    (within : clamp lo hi slot.value.toInt = slot.value.toInt) :
    judgeCommand slot s = (retryFree slot.source slot.dest slot.func s,
      some (forwardCommand s.tables.active { slot with value := Word.ofValue (clamp lo hi slot.value.toInt) })) := by
  simp only [judgeCommand, h, if_pos within]

/-- R57: CLAMP with a value outside the range forwards the command changed, frees its entry, and answers CLAMPED. -/
theorem judgeCommand_clamp_outside {lo hi : Int} (h : judge s.env s.floor slot.dest slot.func = .clamp lo hi)
    (outside : clamp lo hi slot.value.toInt ≠ slot.value.toInt) :
    judgeCommand slot s =
      ((retryFree slot.source slot.dest slot.func s).told slot.source slot.func slot.tag (clamp lo hi slot.value.toInt)
          Status.clamped.code,
        some (forwardCommand s.tables.active { slot with value := Word.ofValue (clamp lo hi slot.value.toInt) })) := by
  simp only [judgeCommand, h, if_neg outside, interlockReply_told]

end Verdicts

/-! ### A station's command -/

/-- R8: a station's COMMAND cell that meets the part, for an ACTUATOR or TURNER window, in an awake part on a steady loop. -/
structure State.Judges (s : State) (slot : Slot) : Prop where
  awake : s.Awake
  steady : s.GoodSteady
  lines : s.LinesFollow
  arrives : s.Meets slot 2#8
  dest : guarded s.tables.active slot.dest = true
  source : s.tables.active.nodeClass slot.source = .station

section Station

variable {slot : Slot} {ff : Bool} {s : State}

/-- R8: the command is judged as the slot is handled, whatever has been counted or taken from the queue before. -/
theorem State.Judges.handled (h : s.Judges slot) {t : State} (tables : t.tables = s.tables)
    (node : t.loop.node = s.loop.node) : handleSlot slot t = judgeCommand slot t := by
  rw [handleSlot_command (meets_congr h.arrives tables node)]
  exact commandArrives_station (by rw [tables]; exact h.dest) (by rw [tables]; exact h.source)

/-- R9: a judged command that is forwarded with a quiet work, to which the out-port makes no difference. -/
theorem State.Judges.forwards (h : s.Judges slot) {op : State → State} (q : QuietWork op) (out : Slot)
    (port : op (s.passedOn out) = { op (s.counted false) with outPort := some out })
    (verdict : judgeCommand slot (s.counted false) = (op (s.counted false), some out)) :
    exec (.commandCell slot ff) s = .next (op (s.passedOn out)) :=
  exec_commandCell_forward h.awake h.steady h.lines (meets_good h.arrives) q out port
    ((h.handled (t := s.counted false) rfl rfl).trans verdict)

theorem State.Judges.passes (h : s.Judges slot) (verdict : judge s.env s.floor slot.dest slot.func = .pass) :
    exec (.commandCell slot ff) s =
      .next (retryFree slot.source slot.dest slot.func (s.passedOn (forwardCommand s.tables.active slot))) :=
  h.forwards (retryFree_quiet _ _ _) _ (retryFree_outPort _ _ _ _ _) (judgeCommand_pass verdict)

theorem State.Judges.refuses (h : s.Judges slot) (verdict : judge s.env s.floor slot.dest slot.func = .refuse) :
    exec (.commandCell slot ff) s = .next (s.takenOff slot ff fun t =>
      t.told slot.source slot.func slot.tag slot.value.toInt Status.refused.code) := by
  rw [exec_commandCell h.awake, passSlot_takenOff slot ff s (meets_good h.arrives) h.steady,
    finish_takenOff s slot ff _ h.lines]
  · exact told_quiet _ _ _ _ _
  · intro t tables node _ _ _ _ _ floor env
    rw [h.handled tables node]
    apply judgeCommand_refuse
    rw [env, floor, judge_queue, verdict]

theorem State.Judges.clamps_within (h : s.Judges slot) {lo hi : Int}
    (verdict : judge s.env s.floor slot.dest slot.func = .clamp lo hi)
    (within : clamp lo hi slot.value.toInt = slot.value.toInt) :
    exec (.commandCell slot ff) s = .next (retryFree slot.source slot.dest slot.func (s.passedOn
      (forwardCommand s.tables.active { slot with value := Word.ofValue (clamp lo hi slot.value.toInt) }))) :=
  h.forwards (retryFree_quiet _ _ _) _ (retryFree_outPort _ _ _ _ _) (judgeCommand_clamp_within verdict within)

theorem State.Judges.clamps_outside (h : s.Judges slot) {lo hi : Int}
    (verdict : judge s.env s.floor slot.dest slot.func = .clamp lo hi)
    (outside : clamp lo hi slot.value.toInt ≠ slot.value.toInt) :
    exec (.commandCell slot ff) s = .next ((retryFree slot.source slot.dest slot.func (s.passedOn
      (forwardCommand s.tables.active { slot with value := Word.ofValue (clamp lo hi slot.value.toInt) }))).told
        slot.source slot.func slot.tag (clamp lo hi slot.value.toInt) Status.clamped.code) :=
  h.forwards ((retryFree_quiet _ _ _).comp (told_quiet _ _ _ _ _)) _
    (congrArg (State.told · _ _ _ _ _) (retryFree_outPort _ _ _ (s.counted false) _))
    (judgeCommand_clamp_outside verdict outside)

end Station

/-- Settles O10: a lemma for each verdict. -/
theorem stationCommandVerdicts : Obligations.StationCommandVerdicts := by
  intro slot ff s awake steady lines arrives b window source freed sent
  have judges : s.Judges slot := ⟨awake, steady, lines, arrives, (guarded_iff b slot.dest).mpr window, source⟩
  exact ⟨judges.passes, judges.refuses, fun lo hi verdict =>
    ⟨judges.clamps_within verdict, judges.clamps_outside verdict⟩⟩

end Sys2Proof.Machine

/-! SUPPORT. A request that may be served, where its function does no more than set the Table Bank and answer; and the loading
functions of the Table Bank (R70, R71, R73, R74, R76). -/

namespace Sys2Proof.Machine

/-! ### A request served with a quiet work -/

section Requests

variable {fn : Function} {r : Req} {s : State}

/-- Two works that agree in the mode and under the tables of the arrival agree on the slot taken off the loop. -/
theorem takenOff_congr (s : State) (slot : Slot) (ff : Bool) {op op' : State → State}
    (h : ∀ t : State, t.tables = s.tables → op t = op' t) : s.takenOff slot ff op = s.takenOff slot ff op' := by
  obtain ⟨-, -, -, tables, -⟩ := fillSlot_awake slot s
  have filled : op ((fillSlot slot s).1.counted false) = op' ((fillSlot slot s).1.counted false) := h _ tables
  have counted : op (s.counted false) = op' (s.counted false) := h _ rfl
  simp only [State.takenOff, filled, counted]

/-- A request whose function is, under the tables of its arrival, a quiet work: the event ends with that work. -/
theorem exec_ready_quiet (h : s.Ready fn r) {op : State → State} (q : QuietWork op)
    (serves : ∀ t : State, t.tables = s.tables → serveFunction fn { r with fillFirst := false } t = op t) :
    exec (fn.command r) s = .next (s.afterRequest fn r op) := by
  rw [exec_ready fn r s h, State.afterRequest, takenOff_congr s _ _ serves, finish_takenOff s _ _ _ h.reaches.lines q]
  rfl

/-- R213: the reply to a request is its answer. -/
theorem reply_answer (fn : Function) (r : Req) (st : Status) (v : Int) (s : State) :
    reply fn r st v s = s.answer fn r st v := rfl

theorem answer_quiet (fn : Function) (r : Req) (st : Status) (v : Int) : QuietWork fun t => t.answer fn r st v :=
  told_quiet _ _ _ _ _

theorem id_quiet : QuietWork id := by constructor <;> intro t <;> rfl

/-- A request that is only answered. -/
theorem exec_ready_answers (h : s.Ready fn r) {st : Status} {v : Int}
    (serves : ∀ t : State, t.tables = s.tables →
      serveFunction fn { r with fillFirst := false } t = t.answer fn r st v) :
    exec (fn.command r) s = .next (s.afterRequest fn r fun t => t.answer fn r st v) :=
  exec_ready_quiet h (answer_quiet fn r st v) serves

/-- A change of the Table Bank that keeps the active bank is a quiet work. -/
theorem setTables_quiet {g : TableBank → TableBank} (active : ∀ b, (g b).active = b.active) :
    QuietWork fun t => { t with tables := g t.tables } := by
  constructor <;> intro t
  case bank => exact active t.tables
  all_goals rfl

/-- A request that changes the Table Bank but not its active bank, before a quiet work. -/
theorem exec_ready_stores (h : s.Ready fn r) {g : TableBank → TableBank} (active : ∀ b, (g b).active = b.active)
    {op : State → State} (q : QuietWork op)
    (serves : ∀ t : State, t.tables = s.tables →
      serveFunction fn { r with fillFirst := false } t = op { t with tables := g t.tables }) :
    exec (fn.command r) s = .next (s.afterRequest fn r fun t => op { t with tables := g s.tables }) := by
  rw [exec_ready_quiet h ((setTables_quiet active).comp q) serves]
  refine congrArg Host.Outcome.next (takenOff_congr s _ _ fun t tables => ?_)
  rw [tables]

end Requests

/-! ### The loading functions -/

section Loading

variable {r : Req} {s : State}

/-- R70: the cursor takes an entry that exists. -/
theorem serveCursor_moves {i : Nat} (entry : i < cursorEntries r.qual.toNat) (value : r.value.toInt = i) :
    serveCursor r s =
      ({ s with tables := { s.tables with cursorNumber := r.qual.toNat, cursorIndex := i } }).answer .cursor r .ok i := by
  have valid : 0 ≤ (i : Int) ∧ (i : Int) < cursorEntries r.qual.toNat := by omega
  simp only [serveCursor, moveCursor, Req.signed, value, if_pos valid, Int.toNat_natCast, reply_answer]

/-- R70: the cursor stays where there is no such entry. -/
theorem serveCursor_stays (absent : ¬(0 ≤ r.value.toInt ∧ r.value.toInt < cursorEntries r.qual.toNat)) :
    serveCursor r s = s.answer .cursor r .badArgument 0 := by
  have refused : moveCursor r.qual.toNat (Req.signed r) s.tables = none := if_neg absent
  simp only [serveCursor, refused, reply_answer]

/-- R71: with no check running, WRITE stores into the field under the cursor. -/
theorem serveWrite_stores (idle : s.tables.check = none)
    (field : s.tables.cursorNumber < 12 ∧ r.qual.toNat < tableFields s.tables.cursorNumber) :
    serveWrite r s =
      ({ s with tables := { s.tables with
        shadow := s.tables.shadow.write (flatIndex s.tables.cursorNumber s.tables.cursorIndex r.qual.toNat)
          r.value } }).answer .write r .ok r.value.toInt := by
  simp [serveWrite, writePlace, idle, if_pos field, Req.signed, reply_answer]

/-- R71: on a view, or with a field number that the table does not have, WRITE stores nothing. -/
theorem serveWrite_badArgument (idle : s.tables.check = none)
    (noField : ¬(s.tables.cursorNumber < 12 ∧ r.qual.toNat < tableFields s.tables.cursorNumber)) :
    serveWrite r s = s.answer .write r .badArgument 0 := by
  simp [serveWrite, writePlace, idle, if_neg noField, reply_answer]

/-- R73: with no check running, CLEAR_SHADOW leaves no field of the shadow bank. -/
theorem serveClearShadow_clears (idle : s.tables.check = none) :
    serveClearShadow r s = ({ s with tables := { s.tables with shadow := [] } }).answer .clearShadow r .ok 0 := by
  simp [serveClearShadow, idle, reply_answer]

/-- R73: with no check running, COPY_ACTIVE takes over the active bank. -/
theorem serveCopyActive_copies (idle : s.tables.check = none) :
    serveCopyActive r s =
      ({ s with tables := { s.tables with shadow := s.tables.active } }).answer .copyActive r .ok 0 := by
  simp [serveCopyActive, idle, reply_answer]

/-- R76: with no check running, ACTIVATE begins one for its source and tag. -/
theorem serveActivate_begins (idle : s.tables.check = none) :
    serveActivate r s = { s with tables := { s.tables with check := some (r.source, r.tag) } } := by
  simp [serveActivate, idle]

/-- R74: while a check runs, the functions that would change the shadow bank or begin another check are answered BUSY. -/
theorem serveFunction_busy {fn : Function} (loads : fn ∈ [Function.write, .clearShadow, .copyActive, .activate])
    (busy : s.tables.check ≠ none) : serveFunction fn r s = s.answer fn r .busy 0 := by
  have running : s.tables.check.isSome = true := Option.isSome_iff_ne_none.mpr busy
  simp only [List.mem_cons, List.not_mem_nil, or_false] at loads
  obtain rfl | rfl | rfl | rfl := loads
  · simp only [serveFunction, serveWrite, running, if_true, reply_answer]
  · simp only [serveFunction, serveClearShadow, running, if_true, reply_answer]
  · simp only [serveFunction, serveCopyActive, running, if_true, reply_answer]
  · simp only [serveFunction, serveActivate, running, if_true, reply_answer]

theorem exec_ready_busy {fn : Function} (h : s.Ready fn r)
    (loads : fn ∈ [Function.write, .clearShadow, .copyActive, .activate]) (busy : s.tables.check ≠ none) :
    exec (fn.command r) s = .next (s.afterRequest fn r fun t => t.answer fn r .busy 0) :=
  exec_ready_answers h fun _ tables => serveFunction_busy loads (tables ▸ busy)

/-- R73: every field of an empty bank is 0. -/
theorem Bank.field_nil (t e i : Nat) : Bank.field [] t e i = 0 := rfl

end Loading

/-- Settles O15: CURSOR and WRITE, by what each answers. -/
theorem cursorMovesAndWriteStores : Obligations.CursorMovesAndWriteStores := by
  refine ⟨fun r s h => ⟨fun i entry value => ?_, fun absent => ?_⟩, fun r s h =>
    ⟨fun idle table field => ?_, fun idle noField => ?_, fun busy => exec_ready_busy h (by decide) busy⟩⟩
  · exact exec_ready_stores h (g := fun b => { b with cursorNumber := r.qual.toNat, cursorIndex := i })
      (fun _ => rfl) (answer_quiet .cursor r .ok i) fun _ _ => serveCursor_moves entry value
  · exact exec_ready_answers h fun _ _ => serveCursor_stays absent
  · exact exec_ready_stores h
      (g := fun b => { b with shadow := b.shadow.write (flatIndex b.cursorNumber b.cursorIndex r.qual.toNat) r.value })
      (fun _ => rfl) (answer_quiet .write r .ok r.value.toInt)
      fun _ tables => serveWrite_stores (tables ▸ idle) (tables ▸ ⟨table, field⟩)
  · exact exec_ready_answers h fun _ tables => serveWrite_badArgument (tables ▸ idle) (tables ▸ noField)

/-- Settles O17: CLEAR_SHADOW, COPY_ACTIVE and ACTIVATE, each with no check running and while one runs. -/
theorem shadowIsClearedCopiedAndChecked : Obligations.ShadowIsClearedCopiedAndChecked := by
  refine ⟨fun r s => ⟨fun h => ⟨fun idle => ⟨[], Bank.field_nil, ?_⟩, exec_ready_busy h (by decide)⟩,
    fun h => ⟨fun idle => ?_, exec_ready_busy h (by decide)⟩⟩,
    fun r s h => ⟨fun idle => ?_, exec_ready_busy h (by decide)⟩⟩
  · exact exec_ready_stores h (g := fun b => { b with shadow := [] }) (fun _ => rfl) (answer_quiet .clearShadow r .ok 0)
      fun _ tables => serveClearShadow_clears (tables ▸ idle)
  · exact exec_ready_stores h (g := fun b => { b with shadow := b.active }) (fun _ => rfl)
      (answer_quiet .copyActive r .ok 0) fun _ tables => serveCopyActive_copies (tables ▸ idle)
  · exact exec_ready_stores h (g := fun b => { b with check := some (r.source, r.tag) }) (fun _ => rfl) id_quiet
      fun _ tables => serveActivate_begins (tables ▸ idle)

end Sys2Proof.Machine

/-! SUPPORT. The decisions on cooling, heating and extraction (R120, R121): each by whether its point has a usable value, and the
side of the target that the water is on when the chiller or the heater is ON. -/

namespace Sys2Proof.Machine

/-! ### Decisions on a band -/

theorem Decision.kept_eq (now : Decision) : now.kept = if now = .on then .on else .off := by
  cases now <;> rfl

theorem stepBand_nonneg (l : List Int) : 0 ≤ stepBand l := le_max_left ..

section WaterTemperature

variable {w : Point} {l : List Int} {now : Decision}

/-- R120: the vessel never chills blind. -/
theorem chillerDecision_unusable (h : w.usable = false) : chillerDecision w l now = .off := by
  simp [chillerDecision, h]

/-- R120: the vessel never heats blind. -/
theorem heaterDecision_unusable (h : w.usable = false) : heaterDecision w l now = .off := by
  simp [heaterDecision, h]

theorem chillerDecision_usable (h : w.usable = true) :
    chillerDecision w l now =
      if stepTarget l + stepBand l < w.value then .on else if w.value ≤ stepTarget l then .off else now.kept := by
  simp [chillerDecision, h]

theorem heaterDecision_usable (h : w.usable = true) :
    heaterDecision w l now =
      if w.value < stepTarget l - stepBand l then .on else if stepTarget l ≤ w.value then .off else now.kept := by
  simp [heaterDecision, h]

/-- R120: the chiller is ON only while the water is above the target, since the band is never negative. -/
theorem target_lt_of_chiller_on (on : chillerDecision w l now = .on) : stepTarget l < w.value := by
  by_contra below
  have band := stepBand_nonneg l
  cases usable : w.usable with
  | false => simp [chillerDecision_unusable usable] at on
  | true =>
    rw [chillerDecision_usable usable, if_neg (by omega), if_pos (by omega)] at on
    contradiction

/-- R120: the heater is ON only while the water is below the target, since the band is never negative. -/
theorem lt_target_of_heater_on (on : heaterDecision w l now = .on) : w.value < stepTarget l := by
  by_contra above
  have band := stepBand_nonneg l
  cases usable : w.usable with
  | false => simp [heaterDecision_unusable usable] at on
  | true =>
    rw [heaterDecision_usable usable, if_neg (by omega), if_pos (by omega)] at on
    contradiction

end WaterTemperature

section Extraction

variable {q : Point} {limit hysteresis : Int} {now : Decision}

/-- R121: air that cannot be measured is drawn off. -/
theorem extractionDecision_unusable (control : 0 < limit) (h : q.usable = false) :
    extractionDecision q limit hysteresis now = .on := by
  simp [extractionDecision, control.not_ge, h]

theorem extractionDecision_usable (control : 0 < limit) (h : q.usable = true) :
    extractionDecision q limit hysteresis now =
      if limit < q.value then .on else if q.value ≤ limit - hysteresis then .off else now.kept := by
  simp [extractionDecision, control.not_ge, h]

end Extraction

/-- Settles O49: each decision with and without a usable value; chiller and heater together would put the water on both sides of
the target. -/
theorem steepDecisionsKeepTheirBands : Obligations.SteepDecisionsKeepTheirBands := by
  intro w l limit hysteresis now target band kept
  have kept_now : now.kept = kept := now.kept_eq
  refine ⟨fun blind => ⟨chillerDecision_unusable blind, heaterDecision_unusable blind⟩,
    fun usable => ⟨?chiller, ?heater⟩, extractionDecision_unusable, fun control usable => ?fan, fun before both => ?_⟩
  case chiller => exact kept_now ▸ chillerDecision_usable usable
  case heater => exact kept_now ▸ heaterDecision_usable usable
  case fan => exact kept_now ▸ extractionDecision_usable control usable
  · obtain ⟨chills, heats⟩ := both
    exact lt_asymm (target_lt_of_chiller_on chills) (lt_target_of_heater_on heats)

end Sys2Proof.Machine

/-! SUPPORT. A request whose work changes the floor but nothing that the end of an event reads; and the excise hold of batches
(R205). -/

namespace Sys2Proof.Machine

/-! ### What the end of an event reads -/

/-- What the telling of the owners and the output lines are read from. Of the batches that is whether one is overdue, and of the
register whether it alerts: unlike a `QuietWork`, a work may change the rest of them. -/
structure EndInputs where
  pins : Pins
  inReset : Bool
  bank : Bank
  points : Vector Point 192
  up : Bool
  silenceAlert : Bool
  vessels : Vector Vessel 6
  kilns : Vector Kiln 2
  congested : Bool
  overdue : Bool
  arbiter : ArbiterState
  registerAlert : Bool

def State.endInputs (s : State) : EndInputs where
  pins := s.pins
  inReset := s.inReset
  bank := s.tables.active
  points := s.points
  up := s.loop.up
  silenceAlert := s.loop.silenceAlert
  vessels := s.floor.vessels
  kilns := s.floor.kilns
  congested := s.floor.queue.congested
  overdue := s.floor.anyOverdue
  arbiter := s.floor.arbiter.state
  registerAlert := s.floor.registerAlert

/-- An event that leaves what its end reads as it was ends as it stands. -/
theorem finish_of_endInputs {s t : State} (lines : s.LinesFollow) (same : t.endInputs = s.endInputs) : finish s t = t := by
  obtain ⟨pins, inReset, bank, points, up, silence, vessels, kilns, congested, overdue, arbiter, register⟩ :=
    EndInputs.mk.inj same
  rw [finish_quiet s t vessels kilns bank points up]
  exact setLines_same s t lines pins
    (lines_congr s t inReset bank points up silence kilns congested overdue arbiter register)

theorem QuietWork.endInputs {op : State → State} (q : QuietWork op) (t : State) : (op t).endInputs = t.endInputs := by
  simp only [State.endInputs, Floor.anyOverdue, Floor.registerAlert, q.pins, q.inReset, q.bank, q.points, q.loop, q.vessels,
    q.kilns, q.congested, q.batches, q.arbiter, q.register]

@[simp] theorem counted_endInputs (s : State) (bad : Bool) : (s.counted bad).endInputs = s.endInputs := rfl

@[simp] theorem fillSlot_endInputs (slot : Slot) (s : State) : (fillSlot slot s).1.endInputs = s.endInputs := by
  have congested := fillSlot_congested slot s
  rw [fillSlot_fields]
  exact congrArg (fun c => { s.endInputs with congested := c }) congested

/-- New batches of which one is overdue just where one was before. -/
theorem setBatches_endInputs (t : State) {batches : Vector (Option Batch) 20}
    (overdue : ({ t.floor with batches := batches } : Floor).anyOverdue = t.floor.anyOverdue) :
    ({ t with floor := { t.floor with batches := batches } } : State).endInputs = t.endInputs :=
  congrArg (fun o => { t.endInputs with overdue := o }) overdue

/-! ### A request served on the floor as it arrives -/

section Requests

variable {fn : Function} {r : Req} {s : State}

/-- What a request finds when its function is carried out: the Table Bank of its arrival, and its floor but for the queue, from
which the slot may have been filled. -/
structure State.Finds (s t : State) : Prop where
  tables : t.tables = s.tables
  floor : t.floor = { s.floor with queue := t.floor.queue }

theorem finds_counted (s : State) : s.Finds (s.counted false) := ⟨rfl, rfl⟩

theorem finds_filled (slot : Slot) (s : State) : s.Finds ((fillSlot slot s).1.counted false) := by
  rw [fillSlot_fields]
  exact ⟨rfl, rfl⟩

theorem State.Finds.batches {t : State} (found : s.Finds t) : t.floor.batches = s.floor.batches := by rw [found.floor]

/-- Two works that agree on what the request finds agree on the slot taken off the loop. -/
theorem takenOff_congr_finds (s : State) (slot : Slot) (ff : Bool) {op op' : State → State}
    (agree : ∀ t, s.Finds t → op t = op' t) : s.takenOff slot ff op = s.takenOff slot ff op' := by
  simp only [State.takenOff, agree _ (finds_filled slot s), agree _ (finds_counted s)]

/-- A work that leaves what the end of the event reads leaves it on the slot taken off the loop. -/
theorem takenOff_endInputs (s : State) (slot : Slot) (ff : Bool) {op : State → State}
    (keeps : ∀ t, s.Finds t → (op t).endInputs = t.endInputs) : (s.takenOff slot ff op).endInputs = s.endInputs := by
  cases ff with
  | true =>
    calc (op ((fillSlot slot s).1.counted false)).endInputs
      _ = ((fillSlot slot s).1.counted false).endInputs := keeps _ (finds_filled slot s)
      _ = s.endInputs := by simp
  | false =>
    calc (fillSlot slot (op (s.counted false))).1.endInputs
      _ = (op (s.counted false)).endInputs := fillSlot_endInputs ..
      _ = s.endInputs := keeps _ (finds_counted s)

/-- A request whose function is, on what it finds, a work that leaves what the end of the event reads: the event ends with that
work. -/
theorem exec_ready_keeps (h : s.Ready fn r) {op : State → State}
    (serves : ∀ t, s.Finds t → serveFunction fn { r with fillFirst := false } t = op t)
    (keeps : ∀ t, s.Finds t → (op t).endInputs = t.endInputs) :
    exec (fn.command r) s = .next (s.afterRequest fn r op) := by
  rw [exec_ready fn r s h, State.afterRequest, takenOff_congr_finds s _ _ serves,
    finish_of_endInputs h.reaches.lines (takenOff_endInputs s _ _ keeps)]
  rfl

end Requests

/-! ### The excise hold -/

theorem holdNames_iff (id : Nat) (x : Batch) : holdNames id x = true ↔ id = 0 ∨ x.id = id := by
  simp [holdNames]

theorem findBatch_congr {f g : Floor} (batches : g.batches = f.batches) (id : Nat) : g.findBatch id = f.findBatch id := by
  rw [Floor.findBatch, Floor.findBatch, batches]

/-- The entries of a vector that satisfy `p`, counted by their indices. -/
theorem countP_toList_eq_finRange {α : Type} {n : Nat} (v : Vector α n) (p : α → Bool) :
    v.toList.countP p = (List.finRange n).countP fun i => p v[i] := by
  have listed : v.toList = (List.finRange n).map fun i => v[i] := by
    apply List.ext_getElem <;> simp
  rw [listed, List.countP_map]
  rfl

theorem setHold_batches (id : Nat) (flag : Bool) (f : Floor) :
    (setHold id flag f).batches = f.batches.map fun o => o.map fun x =>
      if id = 0 ∨ x.id = id then { x with exciseHold := flag } else x := by
  simp only [setHold, holdNames_iff]

/-- R205: setting or clearing a hold makes no transfer overdue and none in time. -/
theorem setHold_anyOverdue (id : Nat) (flag : Bool) (f : Floor) : (setHold id flag f).anyOverdue = f.anyOverdue := by
  simp only [Floor.anyOverdue, setHold, Vector.toList_map, List.any_map]
  congr 1
  funext o
  cases o with
  | none => rfl
  | some x =>
    simp only [Function.comp_apply, Option.map_some]
    cases holdNames id x <;> rfl

theorem serveHold_absent {id : Nat} {flag : Bool} (named : id ≠ 0) {f : Floor} (absent : f.findBatch id = none)
    (reply : Status → Int → Floor → Floor) : serveHold id flag reply f = reply .badArgument 0 f :=
  if_pos ⟨named, absent⟩

theorem serveHold_present {id : Nat} {flag : Bool} {f : Floor} (present : id = 0 ∨ f.findBatch id ≠ none)
    (reply : Status → Int → Floor → Floor) :
    serveHold id flag reply f = reply .ok (holdChanges id flag f) (setHold id flag f) :=
  if_neg fun ⟨named, absent⟩ => present.elim named (· absent)

section Hold

variable {fn : Function} {flag : Bool} {r : Req} {s : State}
  (sets : (fn = .holdSet ∧ flag = true) ∨ (fn = .holdClear ∧ flag = false))

include sets

/-- R205: the two functions differ in the flag that they set. -/
theorem serveFunction_hold (r : Req) (t : State) :
    serveFunction fn r t = t.onFloor fun e => serveHold (Req.lower r) flag (replyTo e fn r) := by
  obtain ⟨rfl, rfl⟩ | ⟨rfl, rfl⟩ := sets <;> rfl

theorem exec_hold_absent (h : s.Ready fn r) (named : Req.lower r ≠ 0)
    (absent : s.floor.findBatch (Req.lower r) = none) :
    exec (fn.command r) s = .next (s.afterRequest fn r fun t => t.answer fn r .badArgument 0) := by
  refine exec_ready_keeps h (fun t found => ?_) fun t _ => (answer_quiet fn r .badArgument 0).endInputs t
  have absent_found := (findBatch_congr found.batches (Req.lower r)).trans absent
  rw [serveFunction_hold sets]
  exact congrArg (fun f => { t with floor := f }) (serveHold_absent named absent_found _)

theorem exec_hold_present (h : s.Ready fn r)
    (present : Req.lower r = 0 ∨ s.floor.findBatch (Req.lower r) ≠ none) {batches : Vector (Option Batch) 20} {changes : Nat}
    (changed : batches = (setHold (Req.lower r) flag s.floor).batches)
    (counted : changes = holdChanges (Req.lower r) flag s.floor) :
    exec (fn.command r) s = .next (s.afterRequest fn r fun t =>
      ({ t with floor := { t.floor with batches := batches } }).answer fn r .ok changes) := by
  refine exec_ready_keeps h (fun t found => ?_) fun t found => ?_
  · have present_found : Req.lower r = 0 ∨ t.floor.findBatch (Req.lower r) ≠ none := by
      rwa [findBatch_congr found.batches]
    rw [serveFunction_hold sets, changed, counted, setHold, holdChanges, ← found.batches]
    exact congrArg (fun f => { t with floor := f }) (serveHold_present present_found _)
  · rw [(answer_quiet fn r .ok changes).endInputs]
    apply setBatches_endInputs
    rw [changed, setHold, ← found.batches]
    exact setHold_anyOverdue (Req.lower r) flag t.floor

end Hold

/-- Settles O37: an id that no batch has, and 0 or the id of a batch; the flags changed are counted slot by slot. -/
theorem exciseHoldSetAndCleared : Obligations.ExciseHoldSetAndCleared := by
  intro fn flag r s sets h id
  refine ⟨exec_hold_absent sets h, fun present =>
    exec_hold_present sets h present (setHold_batches id flag s.floor).symm ?_⟩
  rw [holdChanges, countP_toList_eq_finRange]
  refine congrArg (List.countP · _) (funext fun b => ?_)
  cases s.floor.batches[b] <;> rfl

end Sys2Proof.Machine

/-! SUPPORT. How the insertion queue may change: every operation on the floor but RESTART's emptying changes it by offers alone
(R17, R18, R19). -/

namespace Sys2Proof.Machine

/-- `r` is `q` after some offers. -/
inductive Queue.Offered (q : Queue) : Queue → Prop where
  | refl : Queue.Offered q q
  | command {r : Queue} (c : QCell) : Queue.Offered q r → Queue.Offered q (r.offerCommand c).1
  | trip {r : Queue} (c : QCell) : Queue.Offered q r → Queue.Offered q (r.offerTrip c)
  | reply {r : Queue} (c : QCell) : Queue.Offered q r → Queue.Offered q (r.offerReply c)
  | event {r : Queue} (c : QCell) : Queue.Offered q r → Queue.Offered q (r.offerEvent c)

namespace Queue.Offered

/-- What every offer keeps is kept by all of them. -/
theorem keeps {P : Queue → Prop} {q r : Queue} (h : q.Offered r)
    (command : ∀ q c, P q → P (q.offerCommand c).1) (trip : ∀ q c, P q → P (q.offerTrip c))
    (reply : ∀ q c, P q → P (q.offerReply c)) (event : ∀ q c, P q → P (q.offerEvent c)) (start : P q) : P r := by
  induction h with
  | refl => exact start
  | command c _ ih => exact command _ c ih
  | trip c _ ih => exact trip _ c ih
  | reply c _ ih => exact reply _ c ih
  | event c _ ih => exact event _ c ih

theorem trans {q r s : Queue} (h : q.Offered r) (h' : r.Offered s) : q.Offered s :=
  h'.keeps (fun _ c => .command c) (fun _ c => .trip c) (fun _ c => .reply c) (fun _ c => .event c) h

theorem congested {q r : Queue} (h : q.Offered r) : r.congested = q.congested :=
  h.keeps (P := fun r => r.congested = q.congested) (by simp) (by simp) (by simp) (by simp) rfl

end Queue.Offered

section Offers

variable {old : Queue} {f : Floor}

@[simp] theorem offerCommand_offered {c : QCell} (h : old.Offered f.queue) : old.Offered (offerCommand c f).1.queue :=
  .command c h

@[simp] theorem offerTrip_offered {c : QCell} (h : old.Offered f.queue) : old.Offered (offerTrip c f).queue := .trip c h

@[simp] theorem offerReply_offered {e : Env} {dest func tag : Byte} {value : Int} {qual : Nat} (h : old.Offered f.queue) :
    old.Offered (offerReply e dest func tag value qual f).queue := .reply _ h

@[simp] theorem raiseEvent_offered {e : Env} {code index : Nat} {param : Int} (h : old.Offered f.queue) :
    old.Offered (raiseEvent e code index param f).queue := by
  simp only [raiseEvent]
  split
  · exact .event _ h
  · exact h

@[simp] theorem enterHeld_offered {e : Env} {u : PlantUnit} {r : HoldReason} {back : ResumeState} (h : old.Offered f.queue) :
    old.Offered (enterHeld e u r back f).queue := by
  simp -implicitDefEqProofs [enterHeld, h]

@[simp] theorem enterGone_offered {e : Env} {u : PlantUnit} {item : Nat} (h : old.Offered f.queue) :
    old.Offered (enterGone e u item f).queue := by
  simp -implicitDefEqProofs [enterGone, h]

@[simp] theorem offerValve_offered {e : Env} {c : Fin 12} (h : old.Offered f.queue) :
    old.Offered (offerValve e c f).queue := by
  simp only [offerValve]
  split <;> simp -implicitDefEqProofs [h]

@[simp] theorem setValve_offered {e : Env} {c : Fin 12} {w : ValveDecision} (h : old.Offered f.queue) :
    old.Offered (setValve e c w f).queue := by
  simp only [setValve]
  split <;> simp -implicitDefEqProofs [h]

@[simp] theorem enterChannel_offered {e : Env} {c : Fin 12} {st : ChannelState} (h : old.Offered f.queue) :
    old.Offered (enterChannel e c st f).queue := by
  simp -implicitDefEqProofs [enterChannel, h]

@[simp] theorem tellDemand_offered {e : Env} {c : Fin 12} {d : Bool} (h : old.Offered f.queue) :
    old.Offered (tellDemand e c d f).queue := by
  simp only [tellDemand]
  (repeat' split) <;> simp -implicitDefEqProofs [h]

@[simp] theorem maskRule_offered {e : Env} {c : Fin 12} (h : old.Offered f.queue) :
    old.Offered ((maskRule e c f).1).queue := by
  simp only [maskRule]
  split <;> simp -implicitDefEqProofs [h]

@[simp] theorem openChannel_offered {e : Env} {c : Fin 12} (h : old.Offered f.queue) :
    old.Offered (openChannel e c f).queue := by
  simp -implicitDefEqProofs [openChannel, h]

@[simp] theorem beginDose_offered {e : Env} {c : Fin 12} {base : Nat} (h : old.Offered f.queue) :
    old.Offered ((beginDose e c base f).1).queue := by
  simp only [beginDose]
  split <;> simp -implicitDefEqProofs [h]

@[simp] theorem startChannel_offered {e : Env} {u : PlantUnit} {c : Fin 12} {q : Int} (h : old.Offered f.queue) :
    old.Offered ((startChannel e u c q f).1).queue := by
  simp only [startChannel]
  (repeat' split) <;> simp -implicitDefEqProofs [h]

@[simp] theorem continueChannel_offered {e : Env} {u : PlantUnit} {c : Fin 12} (h : old.Offered f.queue) :
    old.Offered ((continueChannel e u c f).1).queue := by
  simp only [continueChannel]
  (repeat' split) <;> simp -implicitDefEqProofs [h]

@[simp] theorem stopChannel_offered {e : Env} {c : Fin 12} (h : old.Offered f.queue) :
    old.Offered (stopChannel e c f).queue := by
  simp only [stopChannel]
  split <;> simp -implicitDefEqProofs [h]

@[simp] theorem stopUnitChannel_offered {e : Env} {u : PlantUnit} (h : old.Offered f.queue) :
    old.Offered (stopUnitChannel e u f).queue := by
  simp only [stopUnitChannel]
  split <;> simp -implicitDefEqProofs [h]

@[simp] theorem stopChannelsOf_offered {e : Env} {u : PlantUnit} (h : old.Offered f.queue) :
    old.Offered (stopChannelsOf e u f).queue :=
  foldl_inv (fun g : Floor => old.Offered g.queue) _ (fun _ _ kept => stopChannel_offered kept) _ _ h

@[simp] theorem endDemandOf_offered {e : Env} {u : PlantUnit} (h : old.Offered f.queue) :
    old.Offered (endDemandOf e u f).queue :=
  foldl_inv (fun g : Floor => old.Offered g.queue) _ (fun _ _ kept => tellDemand_offered kept) _ _ h

@[simp] theorem stopSpray_offered {e : Env} {b : Fin 12} (h : old.Offered f.queue) :
    old.Offered (stopSpray e b f).queue := by
  simp -implicitDefEqProofs [stopSpray, h]

@[simp] theorem countFlow.uncommanded_offered {e : Env} {c : Fin 12} {d : Nat} (h : old.Offered f.queue) :
    old.Offered (countFlow.uncommanded e c d f).queue := by
  simp only [countFlow.uncommanded]
  split <;> simp -implicitDefEqProofs [h]

@[simp] theorem countFlow_offered {e : Env} {c : Fin 12} {d : Nat} (h : old.Offered f.queue) :
    old.Offered ((countFlow e c d f).1).queue := by
  simp only [countFlow]
  (repeat' split) <;> simp -implicitDefEqProofs [h]

@[simp] theorem meterChannel_offered {e : Env} {c : Fin 12} {r : Nat} (h : old.Offered f.queue) :
    old.Offered ((meterChannel e c r f).1).queue := by
  simp only [meterChannel]
  (repeat' split) <;> simp -implicitDefEqProofs [h]

@[simp] theorem offerFan_offered {e : Env} {b : Fin 12} (h : old.Offered f.queue) :
    old.Offered (offerFan e b f).queue := by
  simp only [offerFan]
  split <;> simp -implicitDefEqProofs [h]

@[simp] theorem decideFan_offered {e : Env} {b : Fin 12} {v : Int} (h : old.Offered f.queue) :
    old.Offered (decideFan e b v f).queue := by
  simp only [decideFan]
  (repeat' split) <;> simp -implicitDefEqProofs [h]

@[simp] theorem boxRound_offered {e : Env} {b : Fin 12} (h : old.Offered f.queue) :
    old.Offered (boxRound e b f).queue := by
  simp only [boxRound]
  (repeat' split) <;> simp -implicitDefEqProofs [h]

@[simp] theorem reofferFan_offered {e : Env} {b : Fin 12} (h : old.Offered f.queue) :
    old.Offered (reofferFan e b f).queue := by
  simp only [reofferFan]
  split <;> simp -implicitDefEqProofs [h]

@[simp] theorem dropRequest_offered {b : Fin 12} (h : old.Offered f.queue) : old.Offered (dropRequest b f).queue := by
  simp only [dropRequest]
  split <;> simp -implicitDefEqProofs [h]

@[simp] theorem offerTurner_offered {e : Env} {cs : List TurnerCommand} (h : old.Offered f.queue) :
    old.Offered (offerTurner e cs f).queue := by
  induction cs generalizing f with
  | nil => exact h
  | cons c r ih =>
    simp only [offerTurner]
    split
    · exact ih (offerCommand_offered h)
    · exact offerCommand_offered h

@[simp] theorem turnerStep_offered {e : Env} {cs : List TurnerCommand} (h : old.Offered f.queue) :
    old.Offered (turnerStep e cs f).queue := by
  simp only [turnerStep]
  split <;> simp -implicitDefEqProofs [h]

@[simp] theorem turnerNext_offered {e : Env} {c : TurnerCommand} (h : old.Offered f.queue) :
    old.Offered (turnerNext e c f).queue := by
  simp only [turnerNext]
  split <;> simp -implicitDefEqProofs [h]

@[simp] theorem turnerStop_offered {e : Env} (h : old.Offered f.queue) : old.Offered (turnerStop e f).queue := by
  simp -implicitDefEqProofs [turnerStop, h]

@[simp] theorem reofferTurner_offered {e : Env} (h : old.Offered f.queue) :
    old.Offered (reofferTurner e f).queue := by
  simp only [reofferTurner]
  split <;> simp -implicitDefEqProofs [h]

@[simp] theorem enterDispatched_offered {e : Env} {b : Fin 12} (h : old.Offered f.queue) :
    old.Offered (enterDispatched e b f).queue := by
  simp -implicitDefEqProofs [enterDispatched, h]

@[simp] theorem fanTest_offered {e : Env} (h : old.Offered f.queue) : old.Offered (fanTest e f).queue := by
  simp only [fanTest]
  (repeat' split) <;> simp -implicitDefEqProofs [h]

@[simp] theorem enterPreparing_offered {e : Env} {b : Fin 12} (h : old.Offered f.queue) :
    old.Offered (enterPreparing e b f).queue := by
  simp -implicitDefEqProofs [enterPreparing, h]

@[simp] theorem grantDecision_offered {e : Env} (h : old.Offered f.queue) :
    old.Offered (grantDecision e f).queue := by
  simp only [grantDecision]
  (repeat' split) <;> simp -implicitDefEqProofs [h]

@[simp] theorem enterIdle_offered {e : Env} (h : old.Offered f.queue) : old.Offered (enterIdle e f).queue := by
  simp -implicitDefEqProofs [enterIdle, h]

@[simp] theorem withdraw_offered {e : Env} {b : Fin 12} (h : old.Offered f.queue) :
    old.Offered (withdraw e b f).queue := by
  simp only [withdraw]
  split <;> simp -implicitDefEqProofs [h]

@[simp] theorem afterFault_offered {e : Env} (h : old.Offered f.queue) : old.Offered (afterFault e f).queue := by
  simp only [afterFault]
  split <;> simp -implicitDefEqProofs [h]

@[simp] theorem releaseTurn_offered {e : Env} (h : old.Offered f.queue) : old.Offered (releaseTurn e f).queue := by
  simp only [releaseTurn]
  split
  · exact h
  · apply enterIdle_offered
    split
    · exact raiseEvent_offered (boxRound_offered (withdraw_offered h))
    · exact boxRound_offered (withdraw_offered h)

@[simp] theorem trailExpired_offered {e : Env} {b c : Fin 12} (h : old.Offered f.queue) :
    old.Offered (trailExpired e b c f).queue :=
  releaseTurn_offered (raiseEvent_offered (stopSpray_offered h))

@[simp] theorem enterReleasing_offered {e : Env} {r : TurnResult} (h : old.Offered f.queue) :
    old.Offered (enterReleasing e r f).queue := by
  simp only [enterReleasing]
  (repeat' split) <;> simp -implicitDefEqProofs [h]

@[simp] theorem enterTurning_offered {e : Env} {b : Fin 12} (h : old.Offered f.queue) :
    old.Offered (enterTurning e b f).queue := by
  simp only [enterTurning]
  split
  · exact h
  · split
    · exact tellDemand_offered h
    · split
      · exact raiseEvent_offered (startChannel_offered (tellDemand_offered h))
      · exact startChannel_offered (tellDemand_offered h)

@[simp] theorem turningTest_offered {e : Env} (h : old.Offered f.queue) : old.Offered (turningTest e f).queue := by
  simp only [turningTest]
  (repeat' split) <;> simp -implicitDefEqProofs [h]

@[simp] theorem finishTest_offered {e : Env} (h : old.Offered f.queue) : old.Offered (finishTest e f).queue := by
  simp only [finishTest]
  split <;> simp -implicitDefEqProofs [h]

@[simp] theorem releaseTest_offered {e : Env} (h : old.Offered f.queue) : old.Offered (releaseTest e f).queue := by
  simp only [releaseTest]
  (repeat' split) <;> simp -implicitDefEqProofs [h]

@[simp] theorem sprayReport_offered {e : Env} {b : Fin 12} (h : old.Offered f.queue) :
    old.Offered (sprayReport e b f).queue := by
  simp only [sprayReport]
  split <;> simp -implicitDefEqProofs [h]

@[simp] theorem prepTimeout_offered {e : Env} (h : old.Offered f.queue) : old.Offered (prepTimeout e f).queue := by
  simp only [prepTimeout]
  (repeat' split) <;> try exact h
  exact enterIdle_offered (boxRound_offered (raiseEvent_offered (withdraw_offered h)))

@[simp] theorem startTimeout_offered {e : Env} (h : old.Offered f.queue) : old.Offered (startTimeout e f).queue := by
  simp only [startTimeout]
  (repeat' split) <;> try exact h
  exact afterFault_offered (boxRound_offered (raiseEvent_offered (withdraw_offered (turnerStop_offered h))))

@[simp] theorem turnOverrun_offered {e : Env} (h : old.Offered f.queue) : old.Offered (turnOverrun e f).queue := by
  simp only [turnOverrun]
  (repeat' split) <;> try exact h
  exact enterReleasing_offered (raiseEvent_offered (stopSpray_offered (turnerStop_offered h)))

@[simp] theorem sprayTrailExpiry_offered {e : Env} (h : old.Offered f.queue) :
    old.Offered (sprayTrailExpiry e f).queue := by
  simp only [sprayTrailExpiry]
  (repeat' split) <;> simp -implicitDefEqProofs [h]

@[simp] theorem turnerFault_offered {e : Env} {v : Int} (h : old.Offered f.queue) :
    old.Offered (turnerFault e v f).queue := by
  simp only [turnerFault]
  split
  · exact h
  · exact afterFault_offered (boxRound_offered
      (raiseEvent_offered (withdraw_offered (stopSpray_offered (turnerStop_offered h)))))

@[simp] theorem boxLeaves_offered {e : Env} {b : Fin 12} (h : old.Offered f.queue) :
    old.Offered (boxLeaves e b f).queue := by
  simp only [boxLeaves]
  (repeat' split) <;> try exact h
  · exact enterIdle_offered (withdraw_offered h)
  · exact enterIdle_offered (withdraw_offered (turnerStop_offered h))
  · exact enterReleasing_offered (stopSpray_offered (turnerStop_offered h))

@[simp] theorem turnerEnable_offered {e : Env} (h : old.Offered f.queue) : old.Offered (turnerEnable e f).queue := by
  simp only [turnerEnable]
  split <;> simp -implicitDefEqProofs [h]

@[simp] theorem parkingTest_offered {e : Env} (h : old.Offered f.queue) : old.Offered (parkingTest e f).queue := by
  simp only [parkingTest]
  (repeat' split) <;> simp -implicitDefEqProofs [h]

@[simp] theorem parkingSecond_offered {e : Env} (h : old.Offered f.queue) :
    old.Offered (parkingSecond e f).queue := by
  simp only [parkingSecond]
  (repeat' split) <;> simp -implicitDefEqProofs [h]

@[simp] theorem parkDelayExpiry_offered {e : Env} (h : old.Offered f.queue) :
    old.Offered (parkDelayExpiry e f).queue := by
  simp only [parkDelayExpiry]
  (repeat' split) <;> simp -implicitDefEqProofs [h]

@[simp] theorem arbiterSample_offered {e : Env} {p : Nat} (h : old.Offered f.queue) :
    old.Offered (arbiterSample e p f).queue := by
  simp only [arbiterSample]
  (repeat' split) <;> simp -implicitDefEqProofs [h]

@[simp] theorem arbiterQuality_offered {e : Env} {p : Nat} {st : Bool} (h : old.Offered f.queue) :
    old.Offered (arbiterQuality e p st f).queue := by
  simp only [arbiterQuality]
  (repeat' split) <;> simp -implicitDefEqProofs [h]

@[simp] theorem restartArbiter_offered {e : Env} (h : old.Offered f.queue) :
    old.Offered (restartArbiter e f).queue := by
  simp only [restartArbiter]
  split <;> simp -implicitDefEqProofs [h]

@[simp] theorem holdBox_offered {e : Env} {b : Fin 12} {r : HoldReason} (h : old.Offered f.queue) :
    old.Offered (holdBox e b r f).queue := by
  simp -implicitDefEqProofs [holdBox, h]

@[simp] theorem bedLost_offered {e : Env} {b : Fin 12} (h : old.Offered f.queue) :
    old.Offered (bedLost e b f).queue := by
  simp only [bedLost]
  split <;> simp -implicitDefEqProofs [h]

@[simp] theorem boxQuality_offered {e : Env} {p : Nat} {b : Fin 12} (h : old.Offered f.queue) :
    old.Offered (boxQuality e p b f).queue := by
  simp only [boxQuality]
  split <;> simp -implicitDefEqProofs [h]

@[simp] theorem urgentTest_offered {e : Env} {b : Fin 12} (h : old.Offered f.queue) :
    old.Offered (urgentTest e b f).queue := by
  simp only [urgentTest]
  (repeat' split) <;> simp -implicitDefEqProofs [h]

@[simp] theorem turnIntervalReached_offered {e : Env} {b : Fin 12} (h : old.Offered f.queue) :
    old.Offered (turnIntervalReached e b f).queue := by
  simp only [turnIntervalReached]
  split <;> simp -implicitDefEqProofs [h]

@[simp] theorem boxEvaluate_offered {e : Env} {b : Fin 12} (h : old.Offered f.queue) :
    old.Offered (boxEvaluate e b f).queue := by
  simp only [boxEvaluate]
  (repeat' split) <;> try exact h
  · exact reofferFan_offered (bedLost_offered h)
  · exact reofferFan_offered (urgentTest_offered (boxRound_offered h))
  all_goals simp -implicitDefEqProofs [h]

@[simp] theorem enterDay_offered {e : Env} {b : Fin 12} {p : Position} (h : old.Offered f.queue) :
    old.Offered (enterDay e b p f).queue := by
  simp only [enterDay]
  split <;> simp -implicitDefEqProofs [h]

@[simp] theorem dayEnded_offered {e : Env} {b : Fin 12} (h : old.Offered f.queue) :
    old.Offered (dayEnded e b f).queue := by
  simp only [dayEnded]
  split
  · split
    · exact enterDay_offered (raiseEvent_offered h)
    · exact boxLeaves_offered (enterGone_offered (raiseEvent_offered h))
    · exact boxRound_offered (boxLeaves_offered (dropRequest_offered
        (raiseEvent_offered (raiseEvent_offered h))))
  · exact h

@[simp] theorem startBox_offered {e : Env} {b : Fin 12} {p : Nat} (h : old.Offered f.queue) :
    old.Offered (startBox e b p f).queue := by
  simp -implicitDefEqProofs [startBox, h]

@[simp] theorem boxRunsAgain_offered {e : Env} {b : Fin 12} (h : old.Offered f.queue) :
    old.Offered (boxRunsAgain e b f).queue := by
  simp only [boxRunsAgain]
  split <;> simp -implicitDefEqProofs [h]

@[simp] theorem boxFetches_offered {e : Env} {b : Fin 12} {p : Position} (h : old.Offered f.queue) :
    old.Offered (boxFetches e b p f).queue := by
  simp only [boxFetches]
  split
  · exact grantDecision_offered (reofferFan_offered (enterDay_offered h))
  · exact reofferFan_offered (enterDay_offered h)

@[simp] theorem boxManual_offered {e : Env} {b : Fin 12} (h : old.Offered f.queue) :
    old.Offered (boxManual e b f).queue := by
  simp -implicitDefEqProofs [boxManual, h]

@[simp] theorem boxStopped_offered {e : Env} {b : Fin 12} {d : Option (List Int)} (h : old.Offered f.queue) :
    old.Offered (boxStopped e b d f).queue := by
  simp only [boxStopped]
  split <;> simp -implicitDefEqProofs [h]

@[simp] theorem boxEmptied_offered {e : Env} {b : Fin 12} (h : old.Offered f.queue) :
    old.Offered (boxEmptied e b f).queue := by
  simp -implicitDefEqProofs [boxEmptied, h]

@[simp] theorem offerKiln_offered {e : Env} {k : Fin 2} {o : KilnOutput} (h : old.Offered f.queue) :
    old.Offered (offerKiln e k o f).queue := by
  simp only [offerKiln]
  split <;> simp -implicitDefEqProofs [h]

@[simp] theorem sendKiln_offered {e : Env} {k : Fin 2} {o : KilnOutput} {v : Int} (h : old.Offered f.queue) :
    old.Offered (sendKiln e k o v f).queue := by
  simp -implicitDefEqProofs [sendKiln, h]

@[simp] theorem decideKiln_offered {e : Env} {k : Fin 2} {o : KilnOutput} {v : Int} (h : old.Offered f.queue) :
    old.Offered (decideKiln e k o v f).queue := by
  simp only [decideKiln]
  split <;> simp -implicitDefEqProofs [h]

@[simp] theorem decideBoth_offered {e : Env} {k : Fin 2} {s n : Int} (h : old.Offered f.queue) :
    old.Offered (decideBoth e k s n f).queue := by
  simp -implicitDefEqProofs [decideBoth, h]

@[simp] theorem reofferRecord_offered {e : Env} {k : Fin 2} {o : KilnOutput} (h : old.Offered f.queue) :
    old.Offered (reofferRecord e k o f).queue := by
  simp only [reofferRecord]
  split <;> simp -implicitDefEqProofs [h]

@[simp] theorem reofferKiln_offered {e : Env} {k : Fin 2} (h : old.Offered f.queue) :
    old.Offered (reofferKiln e k f).queue := by
  simp -implicitDefEqProofs [reofferKiln, h]

@[simp] theorem decidePhase_offered {e : Env} {k : Fin 2} (h : old.Offered f.queue) :
    old.Offered (decidePhase e k f).queue := by
  simp -implicitDefEqProofs [decidePhase, h]

@[simp] theorem tellKiln_offered {e : Env} {k : Fin 2} (h : old.Offered f.queue) :
    old.Offered (tellKiln e k f).queue := by
  simp only [tellKiln]
  split <;> simp -implicitDefEqProofs [h]

@[simp] theorem kilnTerminal_offered {k : Fin 2} {d : Nat} (h : old.Offered f.queue) :
    old.Offered (kilnTerminal k d f).queue := by
  simp -implicitDefEqProofs [kilnTerminal, h]

@[simp] theorem kilnStopped_offered {e : Env} {k : Fin 2} (h : old.Offered f.queue) :
    old.Offered (kilnStopped e k f).queue := by
  simp only [kilnStopped]
  split <;> simp -implicitDefEqProofs [h]

@[simp] theorem endPeat_offered {e : Env} {k : Fin 2} (h : old.Offered f.queue) :
    old.Offered (endPeat e k f).queue := by
  simp only [endPeat]
  (repeat' split) <;> simp -implicitDefEqProofs [h]

/-- The terminal count with a report that makes its offers alone. -/
theorem terminalCountWith_offered {report : Nat → Floor → Floor} {e : Env} {c : Fin 12}
    (reported : ∀ (n : Nat) (g : Floor), old.Offered g.queue → old.Offered (report n g).queue) (h : old.Offered f.queue) :
    old.Offered (terminalCountWith report e c f).queue :=
  raiseEvent_offered (reported _ _ (setValve_offered h))

@[simp] theorem startPeat_offered {e : Env} {k : Fin 2} {c : Fin 12} (h : old.Offered f.queue) :
    old.Offered ((startPeat e k c f).1).queue := by
  simp only [startPeat]
  split
  · exact startChannel_offered h
  · exact startChannel_offered h
  · exact terminalCountWith_offered (fun _ _ kept => kilnTerminal_offered kept) (startChannel_offered h)

@[simp] theorem beginPeat_offered {e : Env} {k : Fin 2} (h : old.Offered f.queue) :
    old.Offered (beginPeat e k f).queue := by
  simp only [beginPeat]
  split
  · split
    · split
      · exact startPeat_offered (tellKiln_offered h)
      · exact enterHeld_offered (startPeat_offered (tellKiln_offered h))
    · exact h
  · exact h

@[simp] theorem resumePeat_offered {e : Env} {k : Fin 2} (h : old.Offered f.queue) :
    old.Offered ((resumePeat e k f).1).queue := by
  simp only [resumePeat]
  (repeat' split) <;> simp -implicitDefEqProofs [h]

@[simp] theorem enterPhase_offered {e : Env} {k : Fin 2} {a : Bool} (h : old.Offered f.queue) :
    old.Offered (enterPhase e k a f).queue := by
  simp -implicitDefEqProofs [enterPhase, h]

@[simp] theorem endPhase_offered {e : Env} {k : Fin 2} {c : Nat} {v : Int} (h : old.Offered f.queue) :
    old.Offered (endPhase e k c v f).queue := by
  have told : old.Offered
      (if phaseKind (raiseEvent e c (18 + k) v f).kilns[k].ctx.fields = .freeDry then
        endPeat e k (raiseEvent e c (18 + k) v f) else raiseEvent e c (18 + k) v f).queue := by
    split
    · exact endPeat_offered (raiseEvent_offered h)
    · exact raiseEvent_offered h
  simp only [endPhase]
  split
  · exact enterPhase_offered told
  · exact enterGone_offered told
  · exact decideBoth_offered (raiseEvent_offered told)

@[simp] theorem phaseMaximum_offered {e : Env} {k : Fin 2} (h : old.Offered f.queue) :
    old.Offered (phaseMaximum e k f).queue := by
  simp only [phaseMaximum]
  (repeat' split) <;> simp -implicitDefEqProofs [h]

@[simp] theorem kilnStages_offered {e : Env} {k : Fin 2} (h : old.Offered f.queue) :
    old.Offered (kilnStages e k f).queue := by
  simp only [kilnStages]
  (repeat' split) <;> simp -implicitDefEqProofs [h]

@[simp] theorem kilnReofferAfter_offered {e : Env} {k : Fin 2} (h : old.Offered f.queue) :
    old.Offered (kilnReofferAfter e k f).queue := by
  simp only [kilnReofferAfter]
  split <;> simp -implicitDefEqProofs [h]

@[simp] theorem kilnEvaluate.evaluate_offered {e : Env} {k : Fin 2} (h : old.Offered f.queue) :
    old.Offered (kilnEvaluate.evaluate e k f).queue := by
  simp only [kilnEvaluate.evaluate]
  (repeat' split) <;> simp -implicitDefEqProofs [h]

@[simp] theorem kilnEvaluate_offered {e : Env} {k : Fin 2} (h : old.Offered f.queue) :
    old.Offered (kilnEvaluate e k f).queue := by
  simp only [kilnEvaluate]
  split <;> simp -implicitDefEqProofs [h]

@[simp] theorem offerTripCell_offered {e : Env} {k : Fin 2} {o : KilnOutput} {v : Int} (h : old.Offered f.queue) :
    old.Offered (offerTripCell e k o v f).queue := by
  simp only [offerTripCell]
  split <;> simp -implicitDefEqProofs [h]

@[simp] theorem tripKiln_offered {e : Env} {k : Fin 2} {c : TripCause} (h : old.Offered f.queue) :
    old.Offered (tripKiln e k c f).queue := by
  have tripped : old.Offered (f.kiln k fun x => { x with ctx := x.ctx.enter .tripped }).queue := h
  simp only [tripKiln]
  split
  · apply raiseEvent_offered
    apply stopUnitChannel_offered
    split
    · exact offerTripCell_offered (offerTripCell_offered tripped)
    · exact offerTripCell_offered tripped
  · exact h

@[simp] theorem relightKiln_offered {e : Env} {k : Fin 2} (h : old.Offered f.queue) :
    old.Offered (relightKiln e k f).queue := by
  simp only [relightKiln]
  split <;> simp -implicitDefEqProofs [h]

@[simp] theorem kilnSecond_offered {e : Env} {k : Fin 2} (h : old.Offered f.queue) :
    old.Offered (kilnSecond e k f).queue := by
  simp only [kilnSecond]
  (repeat' split) <;> simp -implicitDefEqProofs [h]

@[simp] theorem flameLost_offered {e : Env} {k : Fin 2} (h : old.Offered f.queue) :
    old.Offered (flameLost e k f).queue := by
  simp only [flameLost]
  split <;> simp -implicitDefEqProofs [h]

@[simp] theorem startFiring_offered {e : Env} {k : Fin 2} {p : Nat} (h : old.Offered f.queue) :
    old.Offered (startFiring e k p f).queue := by
  simp only [startFiring]
  split <;> simp -implicitDefEqProofs [h]

@[simp] theorem kilnRunsAgain_offered {e : Env} {k : Fin 2} {r : Bool} (h : old.Offered f.queue) :
    old.Offered (kilnRunsAgain e k r f).queue := by
  simp only [kilnRunsAgain]
  split
  · exact offerKiln_offered (offerKiln_offered (reofferKiln_offered (decidePhase_offered h)))
  · exact reofferKiln_offered (decidePhase_offered h)

@[simp] theorem kilnManual_offered {e : Env} {k : Fin 2} (h : old.Offered f.queue) :
    old.Offered (kilnManual e k f).queue := by
  simp -implicitDefEqProofs [kilnManual, h]

@[simp] theorem kilnStopProgram_offered {e : Env} {k : Fin 2} (h : old.Offered f.queue) :
    old.Offered (kilnStopProgram e k f).queue := by
  have stopped {g : Floor} (kept : old.Offered g.queue) :
      old.Offered (sendKiln e k .burner 0 (stopUnitChannel e (.kiln k) g)).queue :=
    sendKiln_offered (stopUnitChannel_offered kept)
  simp only [kilnStopProgram]
  (repeat' split)
  · exact sendKiln_offered (stopped (endPeat_offered h))
  · exact stopped (endPeat_offered h)
  · exact sendKiln_offered (stopped h)
  · exact stopped h

@[simp] theorem kilnEmptied_offered {e : Env} {k : Fin 2} (h : old.Offered f.queue) :
    old.Offered (kilnEmptied e k f).queue := by
  simp -implicitDefEqProofs [kilnEmptied, h]

@[simp] theorem offerOutput_offered {e : Env} {v : Fin 6} {o : Fin 5} (h : old.Offered f.queue) :
    old.Offered (offerOutput e v o f).queue := by
  simp only [offerOutput]
  split <;> simp -implicitDefEqProofs [h]

@[simp] theorem decideOutput_offered {e : Env} {v : Fin 6} {o : Fin 5} {d : Decision} (h : old.Offered f.queue) :
    old.Offered (decideOutput e v o d f).queue := by
  simp only [decideOutput]
  (repeat' split) <;> simp -implicitDefEqProofs [h]

@[simp] theorem reofferOutput_offered {e : Env} {v : Fin 6} {o : Fin 5} (h : old.Offered f.queue) :
    old.Offered (reofferOutput e v f o).queue := by
  simp only [reofferOutput]
  split <;> simp -implicitDefEqProofs [h]

@[simp] theorem reofferVessel_offered {e : Env} {v : Fin 6} (h : old.Offered f.queue) :
    old.Offered (reofferVessel e v f).queue :=
  foldl_inv (fun g : Floor => old.Offered g.queue) _ (fun _ _ kept => reofferOutput_offered kept) _ _ h

@[simp] theorem offerAllOutputs_offered {e : Env} {v : Fin 6} (h : old.Offered f.queue) :
    old.Offered (offerAllOutputs e v f).queue :=
  foldl_inv (fun g : Floor => old.Offered g.queue) _ (fun _ _ kept => offerOutput_offered kept) _ _ h

@[simp] theorem roundOutput_offered {e : Env} {v : Fin 6} {o : Fin 5} (h : old.Offered f.queue) :
    old.Offered (roundOutput e v f o).queue := by
  simp only [roundOutput]
  split <;> simp -implicitDefEqProofs [h]

@[simp] theorem vesselRound_offered {e : Env} {v : Fin 6} (h : old.Offered f.queue) :
    old.Offered (vesselRound e v f).queue :=
  foldl_inv (fun g : Floor => old.Offered g.queue) _ (fun _ _ kept => roundOutput_offered kept) _ _ h

@[simp] theorem startFill_offered {e : Env} {v : Fin 6} (h : old.Offered f.queue) :
    old.Offered ((startFill e v f).1).queue := by
  simp only [startFill]
  (repeat' split) <;> simp -implicitDefEqProofs [h]

@[simp] theorem stopFillForHold_offered {e : Env} {v : Fin 6} (h : old.Offered f.queue) :
    old.Offered (stopFillForHold e v f).queue := by
  simp only [stopFillForHold]
  split <;> simp -implicitDefEqProofs [h]

@[simp] theorem holdVessel_offered {e : Env} {v : Fin 6} {r : HoldReason} (h : old.Offered f.queue) :
    old.Offered (holdVessel e v r f).queue := by
  simp -implicitDefEqProofs [holdVessel, h]

@[simp] theorem vesselStopped_offered {e : Env} {v : Fin 6} (h : old.Offered f.queue) :
    old.Offered (vesselStopped e v f).queue := by
  simp only [vesselStopped]
  split <;> simp -implicitDefEqProofs [h]

/-- The entry of a step with an ending that makes its offers alone. -/
theorem enterStepWith_offered {ended : Floor → Floor} {e : Env} {v : Fin 6} {p : Position}
    (ends : ∀ g : Floor, old.Offered g.queue → old.Offered (ended g).queue) (h : old.Offered f.queue) :
    old.Offered (enterStepWith ended e v p f).queue := by
  simp only [enterStepWith]
  split
  · split
    · apply vesselRound_offered
      split
      · exact startFill_offered h
      · exact holdVessel_offered (startFill_offered h)
    · exact ends _ h
  · exact vesselRound_offered h

@[simp] theorem endStepWith_offered {n : Nat} {e : Env} {v : Fin 6} {c : Nat} (h : old.Offered f.queue) :
    old.Offered (endStepWith n e v c f).queue := by
  induction n generalizing c f with
  | zero => exact h
  | succ n ih =>
    simp only [endStepWith]
    split
    · exact enterStepWith_offered (fun _ kept => ih kept) (raiseEvent_offered h)
    · exact stopFillForHold_offered (enterGone_offered (raiseEvent_offered h))
    · exact vesselRound_offered (raiseEvent_offered (raiseEvent_offered h))

@[simp] theorem endStep_offered {e : Env} {v : Fin 6} {c : Nat} (h : old.Offered f.queue) :
    old.Offered (endStep e v c f).queue := by
  simp -implicitDefEqProofs [endStep, h]

@[simp] theorem enterStep_offered {e : Env} {v : Fin 6} {p : Position} (h : old.Offered f.queue) :
    old.Offered (enterStep e v p f).queue :=
  enterStepWith_offered (fun _ kept => endStep_offered kept) h

@[simp] theorem vesselTerminal_offered {e : Env} {v : Fin 6} (h : old.Offered f.queue) :
    old.Offered (vesselTerminal e v f).queue := by
  simp only [vesselTerminal]
  split <;> simp -implicitDefEqProofs [h]

@[simp] theorem stepExit_offered {e : Env} {v : Fin 6} (h : old.Offered f.queue) :
    old.Offered (stepExit e v f).queue := by
  simp only [stepExit]
  split <;> simp -implicitDefEqProofs [h]

@[simp] theorem vesselEvaluate_offered {e : Env} {v : Fin 6} (h : old.Offered f.queue) :
    old.Offered (vesselEvaluate e v f).queue := by
  simp only [vesselEvaluate]
  (repeat' split) <;> simp -implicitDefEqProofs [h]

@[simp] theorem stepMaximum_offered {e : Env} {v : Fin 6} (h : old.Offered f.queue) :
    old.Offered (stepMaximum e v f).queue := by
  simp only [stepMaximum]
  (repeat' split) <;> simp -implicitDefEqProofs [h]

@[simp] theorem vesselSecond_offered {e : Env} {v : Fin 6} (h : old.Offered f.queue) :
    old.Offered (vesselSecond e v f).queue := by
  simp only [vesselSecond]
  (repeat' split) <;> simp -implicitDefEqProofs [h]

@[simp] theorem startVessel_offered {e : Env} {v : Fin 6} {p : Nat} (h : old.Offered f.queue) :
    old.Offered (startVessel e v p f).queue := by
  simp -implicitDefEqProofs [startVessel, h]

@[simp] theorem fillRequest_offered {e : Env} {v : Fin 6} (h : old.Offered f.queue) :
    old.Offered ((fillRequest e v f).1).queue := by
  simp only [fillRequest]
  (repeat' split) <;> simp -implicitDefEqProofs [h]

@[simp] theorem resumeRound_offered {e : Env} {v : Fin 6} {r : Bool} (h : old.Offered f.queue) :
    old.Offered (resumeRound e v r f).queue := by
  simp only [resumeRound]
  split <;> simp -implicitDefEqProofs [h]

@[simp] theorem vesselTakesUp_offered {e : Env} {v : Fin 6} {r : Bool} {a : FillAnswer} (h : old.Offered f.queue) :
    old.Offered (vesselTakesUp e v r a f).queue := by
  simp only [vesselTakesUp]
  split <;> simp -implicitDefEqProofs [h]

@[simp] theorem resumeVessel_offered {e : Env} {v : Fin 6} {r : HoldReason} (h : old.Offered f.queue) :
    old.Offered ((resumeVessel e v r f).1).queue := by
  simp only [resumeVessel]
  (repeat' split) <;> simp -implicitDefEqProofs [h]

@[simp] theorem vesselFetches_offered {e : Env} {v : Fin 6} {p : Position} (h : old.Offered f.queue) :
    old.Offered (vesselFetches e v p f).queue := by
  simp -implicitDefEqProofs [vesselFetches, h]

@[simp] theorem vesselManual_offered {e : Env} {v : Fin 6} (h : old.Offered f.queue) :
    old.Offered (vesselManual e v f).queue := by
  simp only [vesselManual]
  split <;> simp -implicitDefEqProofs [h]

@[simp] theorem vesselStopProgram_offered {e : Env} {v : Fin 6} (h : old.Offered f.queue) :
    old.Offered (vesselStopProgram e v f).queue := by
  simp -implicitDefEqProofs [vesselStopProgram, h]

@[simp] theorem restOutput_offered {e : Env} {v : Fin 6} {o : Fin 5} (h : old.Offered f.queue) :
    old.Offered (restOutput e v f o).queue := by
  simp only [restOutput]
  split <;> simp -implicitDefEqProofs [h]

@[simp] theorem vesselEmptied_offered {e : Env} {v : Fin 6} (h : old.Offered f.queue) :
    old.Offered (vesselEmptied e v f).queue := by
  simp only [vesselEmptied, vessel_queue]
  exact foldl_inv (fun g : Floor => old.Offered g.queue) _ (fun _ _ kept => restOutput_offered kept) _ _ h

@[simp] theorem ownerTerminal_offered {e : Env} {c : Fin 12} {d : Nat} (h : old.Offered f.queue) :
    old.Offered (ownerTerminal e c d f).queue := by
  simp only [ownerTerminal]
  split <;> simp -implicitDefEqProofs [h]

@[simp] theorem ownerStopped_offered {e : Env} {c : Fin 12} (h : old.Offered f.queue) :
    old.Offered (ownerStopped e c f).queue := by
  simp only [ownerStopped]
  split <;> simp -implicitDefEqProofs [h]

@[simp] theorem terminalCount_offered {e : Env} {c : Fin 12} (h : old.Offered f.queue) :
    old.Offered (terminalCount e c f).queue :=
  terminalCountWith_offered (fun _ _ kept => ownerTerminal_offered kept) h

@[simp] theorem channelNotice_offered {e : Env} {p : Fin 192} {c : Fin 12} (h : old.Offered f.queue) :
    old.Offered (channelNotice e p f c).queue := by
  simp only [channelNotice]
  (repeat' split) <;> simp -implicitDefEqProofs [h]

@[simp] theorem kilnQuality_offered {e : Env} {p : Nat} {k : Fin 2} (h : old.Offered f.queue) :
    old.Offered (kilnQuality e p f k).queue := by
  simp only [kilnQuality]
  split <;> simp -implicitDefEqProofs [h]

@[simp] theorem maskChannel_offered {e : Env} {c : Fin 12} {p : Nat} (h : old.Offered f.queue) :
    old.Offered (maskChannel (ownerStopped e c) e c p f).queue := by
  simp only [maskChannel]
  split
  · exact raiseEvent_offered (ownerStopped_offered (enterChannel_offered h))
  · exact h

@[simp] theorem clearChannel_offered {e : Env} {c : Fin 12} (h : old.Offered f.queue) :
    old.Offered (clearChannel e f c).queue := by
  simp only [clearChannel]
  split <;> simp -implicitDefEqProofs [h]

@[simp] theorem vesselSilent_offered {e : Env} {v : Fin 6} (h : old.Offered f.queue) :
    old.Offered (vesselSilent e f v).queue := by
  simp only [vesselSilent]
  split <;> simp -implicitDefEqProofs [h]

@[simp] theorem boxSilent_offered {e : Env} {b : Fin 12} (h : old.Offered f.queue) :
    old.Offered (boxSilent e f b).queue := by
  simp only [boxSilent]
  split <;> simp -implicitDefEqProofs [h]

@[simp] theorem beginProgram_offered {e : Env} {u : PlantUnit} {p : Nat} (h : old.Offered f.queue) :
    old.Offered (beginProgram e u p f).queue := by
  simp only [beginProgram]
  split <;> simp -implicitDefEqProofs [h]

@[simp] theorem startLoaded_offered {e : Env} {u : PlantUnit} {p i : Nat} (h : old.Offered f.queue) :
    old.Offered ((startLoaded e u p i f).1).queue := by
  simp only [startLoaded]
  (repeat' split) <;> simp -implicitDefEqProofs [h]

@[simp] theorem holdUnit_offered {e : Env} {u : PlantUnit} {r : HoldReason} (h : old.Offered f.queue) :
    old.Offered (holdUnit e u r f).queue := by
  simp only [holdUnit]
  split <;> simp -implicitDefEqProofs [h]

@[simp] theorem serveHoldUnit_offered {e : Env} {u : PlantUnit} (h : old.Offered f.queue) :
    old.Offered ((serveHoldUnit e u f).1).queue := by
  simp only [serveHoldUnit]
  split <;> simp -implicitDefEqProofs [h]

@[simp] theorem enterFetched_offered {e : Env} {u : PlantUnit} {p : Position} (h : old.Offered f.queue) :
    old.Offered (enterFetched e u p f).queue := by
  simp only [enterFetched]
  split <;> simp -implicitDefEqProofs [h]

@[simp] theorem resumeGone_offered {e : Env} {u : PlantUnit} (h : old.Offered f.queue) :
    old.Offered ((resumeGone e u f).1).queue := by
  simp only [resumeGone]
  (repeat' split) <;> simp -implicitDefEqProofs [h]

@[simp] theorem resumeKiln_offered {e : Env} {k : Fin 2} {r : HoldReason} (h : old.Offered f.queue) :
    old.Offered ((resumeKiln e k r f).1).queue := by
  simp only [resumeKiln]
  (repeat' split) <;> simp -implicitDefEqProofs [h]

@[simp] theorem resumeRunning_offered {e : Env} {u : PlantUnit} {r : HoldReason} (h : old.Offered f.queue) :
    old.Offered ((resumeRunning e u r f).1).queue := by
  simp only [resumeRunning]
  (repeat' split) <;> simp -implicitDefEqProofs [h]

@[simp] theorem reofferUnit_offered {e : Env} {u : PlantUnit} (h : old.Offered f.queue) :
    old.Offered (reofferUnit e u f).queue := by
  simp only [reofferUnit]
  (repeat' split) <;> simp -implicitDefEqProofs [h]

@[simp] theorem resumeHeld_offered {e : Env} {u : PlantUnit} (h : old.Offered f.queue) :
    old.Offered ((resumeHeld e u f).1).queue := by
  simp only [resumeHeld]
  split <;> simp -implicitDefEqProofs [h]

@[simp] theorem serveResume_offered {e : Env} {u : PlantUnit} (h : old.Offered f.queue) :
    old.Offered ((serveResume e u f).1).queue := by
  simp only [serveResume]
  (repeat' split) <;> simp -implicitDefEqProofs [h]

@[simp] theorem unitManual_offered {e : Env} {u : PlantUnit} (h : old.Offered f.queue) :
    old.Offered (unitManual e u f).queue := by
  simp only [unitManual]
  split <;> simp -implicitDefEqProofs [h]

@[simp] theorem serveManual_offered {e : Env} {u : PlantUnit} (h : old.Offered f.queue) :
    old.Offered ((serveManual e u f).1).queue := by
  simp only [serveManual]
  (repeat' split) <;> simp -implicitDefEqProofs [h]

@[simp] theorem leaveManual_offered {e : Env} {u : PlantUnit} (h : old.Offered f.queue) :
    old.Offered (leaveManual e u f).queue := by
  simp only [leaveManual]
  split <;> simp -implicitDefEqProofs [h]

@[simp] theorem unitAuto_offered {e : Env} {u : PlantUnit} (h : old.Offered f.queue) :
    old.Offered (unitAuto e u f).queue := by
  simp only [unitAuto]
  (repeat' split) <;> simp -implicitDefEqProofs [h]

@[simp] theorem autoStops_offered {e : Env} {u : PlantUnit} (h : old.Offered f.queue) :
    old.Offered (autoStops e u f).queue := by
  simp only [autoStops]
  split <;> simp -implicitDefEqProofs [h]

@[simp] theorem serveAuto_offered {e : Env} {u : PlantUnit} (h : old.Offered f.queue) :
    old.Offered ((serveAuto e u f).1).queue := by
  simp only [serveAuto]
  split
  · exact unitAuto_offered (leaveManual_offered (autoStops_offered h))
  · exact h

@[simp] theorem stopProgram_offered {e : Env} {u : PlantUnit} (h : old.Offered f.queue) :
    old.Offered (stopProgram e u f).queue := by
  simp only [stopProgram]
  split <;> simp -implicitDefEqProofs [h]

@[simp] theorem serveStopProgram_offered {e : Env} {u : PlantUnit} (h : old.Offered f.queue) :
    old.Offered ((serveStopProgram e u f).1).queue := by
  simp only [serveStopProgram]
  split <;> simp -implicitDefEqProofs [h]

@[simp] theorem unitEmptied_offered {e : Env} {u : PlantUnit} (h : old.Offered f.queue) :
    old.Offered (unitEmptied e u f).queue := by
  simp only [unitEmptied]
  split <;> simp -implicitDefEqProofs [h]

@[simp] theorem emptyUnit_offered {e : Env} {u : PlantUnit} (h : old.Offered f.queue) :
    old.Offered (emptyUnit e u f).queue := by
  simp -implicitDefEqProofs [emptyUnit, h]

@[simp] theorem tellVessel_offered {b : Floor} {e : Env} {v : Fin 6} (h : old.Offered f.queue) :
    old.Offered (tellVessel b e f v).queue := by
  simp only [tellVessel]
  (repeat' split) <;> simp -implicitDefEqProofs [h]

@[simp] theorem tellChangedKiln_offered {e0 : Env} {b : Floor} {e : Env} {k : Fin 2} (h : old.Offered f.queue) :
    old.Offered (tellChangedKiln e0 b e f k).queue := by
  simp only [tellChangedKiln]
  split <;> simp -implicitDefEqProofs [h]

@[simp] theorem tellOwners_offered {e0 : Env} {b : Floor} {e : Env} (h : old.Offered f.queue) :
    old.Offered (tellOwners e0 b e f).queue :=
  foldl_inv (fun g : Floor => old.Offered g.queue) _ (fun _ _ kept => tellChangedKiln_offered kept) _ _
    (foldl_inv (fun g : Floor => old.Offered g.queue) _ (fun _ _ kept => tellVessel_offered kept) _ _ h)

@[simp] theorem floorSilent_offered {e : Env} (h : old.Offered f.queue) : old.Offered (floorSilent e f).queue := by
  apply raiseEvent_offered
  refine foldl_inv (fun g : Floor => old.Offered g.queue) _ (fun _ _ kept => boxSilent_offered kept) _ _ ?_
  refine foldl_inv (fun g : Floor => old.Offered g.queue) _ (fun _ _ kept => vesselSilent_offered kept) _ _ ?_
  exact foldl_inv (fun g : Floor => old.Offered g.queue) _ (fun _ _ kept => tripKiln_offered kept) _ _ h

end Offers

end Sys2Proof.Machine

/-! SUPPORT. The insertion queue (section 1.5): what an offer and an insertion do to its bounds and its keys. -/

namespace Sys2Proof.Machine

/-! ### Keys -/

/-- R18: what two cells have in common that are one cell of the queue. -/
def QCell.key (c : QCell) : Byte × Byte × Byte := (c.dest, c.kind, c.func)

theorem sameKey_iff (a b : QCell) : a.sameKey b = true ↔ a.key = b.key := by
  simp [QCell.sameKey, QCell.key, and_assoc]

theorem sameKey_eq_false_iff (a b : QCell) : a.sameKey b = false ↔ a.key ≠ b.key := by
  rw [← Bool.not_eq_true, sameKey_iff]

theorem any_sameKey_iff (l : List QCell) (c : QCell) : l.any (·.sameKey c) = true ↔ c.key ∈ l.map QCell.key := by
  simp only [List.any_eq_true, List.mem_map, sameKey_iff]

/-- A merge keeps the keys and their places. -/
@[simp] theorem mergeCell_keys (c : QCell) (l : List QCell) : (mergeCell c l).map QCell.key = l.map QCell.key := by
  induction l with
  | nil => rfl
  | cons x r ih =>
    simp only [mergeCell]
    split
    · rfl
    · simp only [List.map_cons, ih]

@[simp] theorem mergeCell_length (c : QCell) (l : List QCell) : (mergeCell c l).length = l.length := by
  calc (mergeCell c l).length = ((mergeCell c l).map QCell.key).length := (List.length_map _).symm
    _ = l.length := by rw [mergeCell_keys, List.length_map]

/-- The keys of the COMMAND and POLL cells of a queue. -/
def Queue.keys (q : Queue) : List (Byte × Byte × Byte) := q.trip.map QCell.key ++ q.command.map QCell.key

theorem keysDistinct_iff (q : Queue) : q.KeysDistinct ↔ q.keys.Nodup := by
  simp only [Queue.KeysDistinct, Queue.keys, ← List.map_append, List.Nodup, List.pairwise_map, sameKey_eq_false_iff]

/-! ### The invariant and the offers -/

/-- R17, R18: the bounds of the shared classes, and one cell for each key. -/
structure Queue.Sound (q : Queue) : Prop where
  bounded : q.Bounded
  distinct : q.KeysDistinct

/-- R20: the head of the queue is that of one of its classes. -/
theorem pop_cases {q r : Queue} {c : QCell} (p : q.pop = some (c, r)) :
    (∃ l, q.trip = c :: l ∧ r = { q with trip := l }) ∨
      (∃ l, q.trip = [] ∧ q.command = c :: l ∧ r = { q with command := l }) ∨
      (∃ l, q.reply = c :: l ∧ r = { q with reply := l }) ∨ ∃ l, q.event = c :: l ∧ r = { q with event := l } := by
  simp only [Queue.pop] at p
  split at p
  case h_5 => cases p
  all_goals
    obtain ⟨rfl, rfl⟩ := Prod.mk.inj (Option.some.inj p)
    simp [*]

namespace Queue.Sound

variable {q : Queue}

theorem command (h : q.Sound) (c : QCell) : (q.offerCommand c).1.Sound := by
  obtain ⟨bounded, distinct⟩ := h
  rw [keysDistinct_iff] at distinct
  simp only [Queue.offerCommand]
  split_ifs with inTrip inCommand room
  · exact ⟨bounded, by simpa [keysDistinct_iff, Queue.keys] using distinct⟩
  · exact ⟨by simpa [Queue.Bounded, Queue.shared] using bounded, by simpa [keysDistinct_iff, Queue.keys] using distinct⟩
  · rw [any_sameKey_iff] at inTrip inCommand
    refine ⟨?_, ?_⟩
    · simp only [Queue.Bounded, Queue.shared, List.length_append, List.length_singleton] at bounded room ⊢
      omega
    · have new : c.key ∉ q.keys := by simp [Queue.keys, inTrip, inCommand]
      have grown : (q.keys ++ [c.key]).Nodup := distinct.append (List.nodup_singleton _) (by simpa using new)
      simpa [keysDistinct_iff, Queue.keys] using grown
  · exact ⟨bounded, (keysDistinct_iff q).mpr distinct⟩

theorem trip (h : q.Sound) (c : QCell) : (q.offerTrip c).Sound := by
  obtain ⟨bounded, distinct⟩ := h
  rw [keysDistinct_iff] at distinct
  simp only [Queue.offerTrip]
  split_ifs with inTrip
  · exact ⟨bounded, by simpa [keysDistinct_iff, Queue.keys] using distinct⟩
  · rw [any_sameKey_iff] at inTrip
    have fewer := List.length_filter_le (fun x => !x.sameKey c) q.command
    refine ⟨?_, ?_⟩
    · simp only [Queue.Bounded, Queue.shared] at bounded ⊢
      omega
    · rw [keysDistinct_iff]
      simp only [Queue.keys, List.map_append, List.map_singleton, List.append_assoc]
      have kept : ((q.command.filter fun x => !x.sameKey c).map QCell.key).Sublist (q.command.map QCell.key) :=
        (List.filter_sublist).map _
      obtain ⟨ofTrip, ofCommand, apart⟩ := List.nodup_append.mp distinct
      refine List.nodup_append.mpr ⟨ofTrip, ?_, ?_⟩
      · refine List.nodup_append.mpr ⟨List.nodup_singleton _, ofCommand.sublist kept, ?_⟩
        simp only [List.mem_singleton, List.mem_map, List.mem_filter, Bool.not_eq_true', sameKey_eq_false_iff]
        rintro a rfl b ⟨x, ⟨-, differs⟩, rfl⟩
        exact differs.symm
      · intro a ha b hb
        rcases List.mem_append.mp hb with hb | hb
        · rw [List.mem_singleton.mp hb]
          rintro rfl
          exact inTrip ha
        · exact apart a ha b (kept.subset hb)

theorem reply (h : q.Sound) (c : QCell) : (q.offerReply c).Sound := by
  obtain ⟨bounded, distinct⟩ := h
  simp only [Queue.offerReply]
  split_ifs with room
  · refine ⟨?_, distinct⟩
    simp only [Queue.Bounded, Queue.shared, List.length_append, List.length_singleton] at bounded room ⊢
    omega
  · exact ⟨bounded, distinct⟩

theorem event (h : q.Sound) (c : QCell) : (q.offerEvent c).Sound := by
  obtain ⟨bounded, distinct⟩ := h
  by_cases room : q.event.length < 8 ∧ q.shared < 28
  · rw [Queue.offerEvent, if_pos room]
    refine ⟨?_, distinct⟩
    simp only [Queue.Bounded, Queue.shared, List.length_append, List.length_singleton] at bounded room ⊢
    omega
  · rw [Queue.offerEvent, if_neg room]
    exact ⟨bounded, distinct⟩

theorem offered {r : Queue} (h : q.Sound) (o : q.Offered r) : r.Sound :=
  o.keeps (fun _ c h => h.command c) (fun _ c h => h.trip c) (fun _ c h => h.reply c) (fun _ c h => h.event c) h

/-- R20: an insertion takes the head of one class. -/
theorem popped (h : q.Sound) {c : QCell} {r : Queue} (p : q.pop = some (c, r)) : r.Sound := by
  obtain ⟨bounded, distinct⟩ := h
  simp only [Queue.Bounded, Queue.shared, keysDistinct_iff, Queue.keys] at bounded distinct
  refine ⟨?_, ?_⟩
  · obtain ⟨l, -, rfl⟩ | ⟨l, -, head, rfl⟩ | ⟨l, head, rfl⟩ | ⟨l, head, rfl⟩ := pop_cases p
    · exact bounded
    all_goals
      simp only [head, List.length_cons] at bounded
      simp only [Queue.Bounded, Queue.shared]
      omega
  · rw [keysDistinct_iff]
    obtain ⟨l, head, rfl⟩ | ⟨l, empty, head, rfl⟩ | ⟨l, -, rfl⟩ | ⟨l, -, rfl⟩ := pop_cases p
    · simp only [head, List.map_cons, List.cons_append, List.nodup_cons] at distinct
      exact distinct.2
    · simp only [head, empty, List.map_cons, List.map_nil, List.nil_append, List.nodup_cons] at distinct
      simpa [Queue.keys, empty] using distinct.2
    · exact distinct
    · exact distinct

theorem emptied (q : Queue) : q.emptied.Sound := by
  refine ⟨?_, ?_⟩ <;> simp [Queue.emptied, Queue.Bounded, Queue.shared, Queue.KeysDistinct]

theorem initial : Queue.initial.Sound := by
  refine ⟨?_, ?_⟩ <;> simp [Queue.initial, Queue.Bounded, Queue.shared, Queue.KeysDistinct]

end Queue.Sound

/-! ### What an offer answers -/

/-- R18: an offer of a key that is queued merges. -/
theorem offerCommand_merges {q : Queue} {c : QCell} (queued : ∃ d ∈ q.trip ++ q.command, d.sameKey c = true) :
    (q.offerCommand c).2 = true ∧ (q.offerCommand c).1.depth = q.depth := by
  simp only [Queue.offerCommand]
  split_ifs with inTrip inCommand room
  · simp [Queue.depth, Queue.shared]
  · simp [Queue.depth, Queue.shared]
  all_goals
    obtain ⟨d, found, same⟩ := queued
    rcases List.mem_append.mp found with found | found
    · exact absurd (List.any_eq_true.mpr ⟨d, found, same⟩) inTrip
    · exact absurd (List.any_eq_true.mpr ⟨d, found, same⟩) inCommand

/-- R19: a reply without room is dropped. -/
theorem offerReply_full {q : Queue} (c : QCell) (full : q.reply.length = 8 ∨ q.shared = 28) : q.offerReply c = q :=
  if_neg (by omega)

/-- R19: an event without room sets the lost flag. -/
theorem offerEvent_full {q : Queue} (c : QCell) (full : q.event.length = 8 ∨ q.shared = 28) :
    q.offerEvent c = { q with lost := true } := if_neg (by omega)

section Events

variable {e : Env} {f : Floor} (code index : Nat) (v : Int)

/-- R11: in TRANSPARENT mode no event is raised. -/
theorem raiseEvent_transparent (h : e.operating = false) : raiseEvent e code index v f = f := by
  simp [raiseEvent, h]

/-- R222: the EVENT cell of an event. -/
def eventCell (e : Env) (f : Floor) (code index : Nat) (v : Int) : QCell :=
  ⟨BitVec.ofInt 8 (e.bank.field 0 0 5), 7#8, BitVec.ofNat 8 code, f.eventSeq + 1#8, Word.ofValue v, BitVec.ofNat 8 index,
    e.second⟩

theorem raiseEvent_operating (h : e.operating = true) :
    raiseEvent e code index v f =
      { f with eventSeq := f.eventSeq + 1#8, queue := f.queue.offerEvent (eventCell e f code index v) } := by
  simp [raiseEvent, h, eventCell]

end Events

end Sys2Proof.Machine

/-! SUPPORT. The retained chain (R195, R196): what the writing of a record, the taking of records, BASE and the walk do to its
soundness. -/

namespace Sys2Proof.Machine

/-! ### Chains -/

/-- The check that the record after a list is seeded with. -/
def seedAfter (seed : Crc16) (l : List SampleRecord) : Crc16 :=
  match l.getLast? with
  | some r => r.check
  | none => seed

@[simp] theorem seedAfter_nil (seed : Crc16) : seedAfter seed [] = seed := rfl

@[simp] theorem seedAfter_cons (seed : Crc16) (r : SampleRecord) (l : List SampleRecord) :
    seedAfter seed (r :: l) = seedAfter r.check l := by
  cases l with
  | nil => rfl
  | cons q l => simp [seedAfter, List.getLast?_cons]

/-- A chain is a head whose check and number are right, before a chain. -/
theorem chainFrom_cons (seed : Crc16) (r : SampleRecord) (l : List SampleRecord) :
    ChainFrom seed (r :: l) ↔
      r.check = recordCheck seed r ∧ (∀ q, l.head? = some q → q.number = r.number + 1) ∧ ChainFrom r.check l := by
  cases l <;> simp [ChainFrom]

/-- A record that follows a chain in number and check makes it longer. -/
theorem chainFrom_concat {seed : Crc16} {l : List SampleRecord} {r : SampleRecord} (chain : ChainFrom seed l)
    (check : r.check = recordCheck (seedAfter seed l) r) (number : ∀ q, l.getLast? = some q → r.number = q.number + 1) :
    ChainFrom seed (l ++ [r]) := by
  induction l generalizing seed with
  | nil => exact check
  | cons x l ih =>
    rw [chainFrom_cons] at chain
    obtain ⟨checked, rises, rest⟩ := chain
    rw [List.cons_append, chainFrom_cons]
    refine ⟨checked, ?_, ih rest (by simpa using check) fun q last => number q ?_⟩
    · cases l with
      | nil => simpa using number x
      | cons y l => simpa using rises
    · cases l with
      | nil => simp at last
      | cons y l => simpa [List.getLast?_cons_cons] using last

/-- What is left of a chain after its oldest records is a chain from the check of the newest of these. -/
theorem chainFrom_drop {seed : Crc16} {l : List SampleRecord} (chain : ChainFrom seed l) (k : Nat) :
    ChainFrom (seedAfter seed (l.take k)) (l.drop k) := by
  induction l generalizing seed k with
  | nil => simpa using chain
  | cons x l ih =>
    cases k with
    | zero => exact chain
    | succ k => simpa using ih ((chainFrom_cons _ _ _).mp chain).2.2 k

/-- R208: a walk that finds no failure has walked a chain. -/
theorem chainFrom_of_walk {i : Nat} {seed : Crc16} {before : Option Nat} {l : List SampleRecord}
    (walked : walkFrom i seed before l = none) :
    ChainFrom seed l ∧ ∀ n r, before = some n → l.head? = some r → r.number = n + 1 := by
  induction l generalizing i seed before with
  | nil => simp [ChainFrom]
  | cons x l ih =>
    simp only [walkFrom] at walked
    split at walked
    · next fits =>
      obtain ⟨rest, follows⟩ := ih walked
      refine ⟨(chainFrom_cons _ _ _).mpr ⟨fits.1.symm, fun q head => follows _ q rfl head, rest⟩, ?_⟩
      rintro n r before' head
      obtain rfl := Option.some.inj head
      exact fits.2 n before'
    · exact absurd walked (by simp)

/-! ### The retained memory -/

/-- R196: a record is sealed with its own check, which is not over itself. -/
theorem sealRecord_check (m : Retained) (r : SampleRecord) :
    (sealRecord m r).check = recordCheck (chainSeed m) (sealRecord m r) := by
  have words : recordWords (sealRecord m r) = recordWords { r with number := m.next } := rfl
  rw [recordCheck, words, sealRecord, recordCheck]

theorem chainSound_write {m : Retained} (h : ChainSound m) (r : SampleRecord) : ChainSound (writeRecord m r) := by
  obtain ⟨chain, next⟩ := h
  refine ⟨chainFrom_concat chain (sealRecord_check m r) fun q last => next q last, ?_⟩
  simp [writeRecord, sealRecord]

theorem chainSound_take {m : Retained} (h : ChainSound m) (k : Nat) : ChainSound (takeRecords m k) := by
  obtain ⟨chain, next⟩ := h
  refine ⟨chainFrom_drop chain k, fun r last => next r ?_⟩
  simp only [takeRecords, List.getLast?_drop] at last
  split at last
  · cases last
  · exact last

theorem chainSound_rebase {m : Retained} (empty : m.records = []) (n : Nat) : ChainSound (rebase m n) := by
  simp [ChainSound, rebase, empty, ChainFrom]

/-- R208: a walk that finds no failure leaves a sound chain. -/
theorem chainSound_of_walk {m : Retained} (walked : walkRetained m = none) : ChainSound (boundedRecords m) := by
  simp only [walkRetained] at walked
  split at walked
  · cases walked
  · next chain =>
    simp only [ite_eq_right_iff, reduceCtorEq, imp_false, not_or, not_lt, Bool.not_eq_true', Bool.not_eq_false] at walked
    obtain ⟨few, follows⟩ := walked
    refine ⟨(chainFrom_of_walk chain).1, fun r last => ?_⟩
    simp only [boundedRecords, List.take_of_length_le few] at last ⊢
    simpa [nextFollows, last] using follows

/-! ### The register -/

/-- R197: the chain of a READY register is sound. -/
def Register.Sound (r : Register) : Prop := r.state = .ready → ChainSound r.retained

theorem registerSound_walked (r : Register) : r.walked.Sound := by
  simp only [Register.walked]
  split
  · next walked => exact fun _ => chainSound_of_walk walked
  · intro ready
    cases ready

theorem registerSound_powerOn (m : Retained) (held : Bool) : (Register.powerOn m held).Sound := by
  simp only [Register.powerOn, Register.unsetState]
  (repeat' split) <;> exact fun ready => nomatch ready

end Sys2Proof.Machine

/-! SUPPORT. What every operation on the floor keeps: the bounds and keys of the insertion queue (R17, R18) and the chain of a
READY register (R196). -/

namespace Sys2Proof.Machine

/-- From `f` to `g` the insertion queue and the chain of the register stay sound. -/
structure Floor.Keeps (f g : Floor) : Prop where
  queue : f.queue.Sound → g.queue.Sound
  register : f.register.Sound → g.register.Sound

section Keeps

variable {base f g : Floor}

theorem Floor.Keeps.refl (f : Floor) : f.Keeps f := ⟨id, id⟩

theorem Floor.Keeps.trans {h : Floor} (a : f.Keeps g) (b : g.Keeps h) : f.Keeps h :=
  ⟨b.queue ∘ a.queue, b.register ∘ a.register⟩

/-- Offers alone, with the register as it was. -/
theorem Floor.Keeps.offers (h : base.Keeps f) (o : f.queue.Offered g.queue) (r : g.register = f.register) : base.Keeps g :=
  ⟨fun sound => (h.queue sound).offered o, fun sound => by rw [r]; exact h.register sound⟩

/-- Neither the queue nor the register is touched. -/
theorem Floor.Keeps.same (h : base.Keeps f) (q : g.queue = f.queue) (r : g.register = f.register) : base.Keeps g :=
  h.offers (by rw [q]; exact .refl) r

/-- A change of the register that keeps the chain sound. -/
theorem Floor.Keeps.reg (h : base.Keeps f) {r : Register → Register} (sound : f.register.Sound → (r f.register).Sound) :
    base.Keeps (f.reg r) := ⟨h.queue, sound ∘ h.register⟩

/-- A record is written, and the register keeps its state. -/
theorem Floor.Keeps.written (h : base.Keeps f) (q : g.queue = f.queue) (state : g.register.state = f.register.state)
    (record : ∃ m, g.register.retained = writeRecord f.register.retained m) : base.Keeps g := by
  obtain ⟨m, retained⟩ := record
  refine ⟨fun sound => q ▸ h.queue sound, fun sound ready => ?_⟩
  rw [retained]
  exact chainSound_write (h.register sound (state ▸ ready)) m

theorem keeps_foldl {α : Type} {op : Floor → α → Floor} (keeps : ∀ g a, base.Keeps g → base.Keeps (op g a)) (l : List α)
    (h : base.Keeps f) : base.Keeps (l.foldl op f) := foldl_inv (fun g => base.Keeps g) op keeps l f h

theorem raiseEvent_keeps {e : Env} {code index : Nat} {v : Int} (h : base.Keeps f) :
    base.Keeps (raiseEvent e code index v f) := h.offers (raiseEvent_offered .refl) (by simp)

theorem offerReply_keeps {e : Env} {dest func tag : Byte} {v : Int} {qual : Nat} (h : base.Keeps f) :
    base.Keeps (offerReply e dest func tag v qual f) := h.offers (offerReply_offered .refl) rfl

theorem replyTo_keeps {e : Env} {fn : Function} {r : Req} {st : Status} {v : Int} (h : base.Keeps f) :
    base.Keeps (replyTo e fn r st v f) := offerReply_keeps h

/-! ### The register's reports, and the transfers that wait -/

theorem reportRegister_keeps {e : Env} {before : Register} (h : base.Keeps f) : base.Keeps (reportRegister e before f) := by
  have stated : base.Keeps (reportState e before f) := by
    simp only [reportState]
    split
    · exact h
    · exact raiseEvent_keeps h
  simp only [reportRegister, reportHigh]
  split
  · exact raiseEvent_keeps stated
  · exact stated

theorem writeTransfer_keeps {e : Env} {b : Fin 20} {x : Batch} {votes : Vote × Vote} {told : Bool} (h : base.Keeps f) :
    base.Keeps (writeTransfer e b x votes told f) := by
  simp only [writeTransfer]
  apply reportRegister_keeps
  (repeat' split) <;> repeat' apply raiseEvent_keeps
  all_goals exact h.written rfl rfl ⟨_, rfl⟩

theorem attemptOnce_keeps {e : Env} {b : Fin 20} {told : Bool} (h : base.Keeps f) :
    base.Keeps (attemptOnce e b told f) := by
  simp only [attemptOnce]
  (repeat' split) <;> first | exact h | exact writeTransfer_keeps h | exact h.same rfl rfl

theorem expireWait_keeps {e : Env} {b : Fin 20} (h : base.Keeps f) : base.Keeps (expireWait e b f) := by
  simp only [expireWait]
  split
  · exact attemptOnce_keeps (h.same rfl rfl)
  · exact h

theorem attemptSlot_keeps {e : Env} {b : Fin 20} (h : base.Keeps f) : base.Keeps (attemptSlot e f b) :=
  expireWait_keeps (attemptOnce_keeps h)

theorem registerChanged_keeps {e : Env} (h : base.Keeps f) : base.Keeps (registerChanged e f) :=
  keeps_foldl (fun _ _ kept => attemptSlot_keeps kept) _ h

theorem noticeIfWritten_keeps {e : Env} {op : Floor → Floor} (h : base.Keeps (op f)) :
    base.Keeps (noticeIfWritten e op f) := by
  simp only [noticeIfWritten]
  split
  · exact h
  · exact registerChanged_keeps h

theorem transferAttempt_keeps {e : Env} {b : Fin 20} (h : base.Keeps f) : base.Keeps (transferAttempt e b f) :=
  noticeIfWritten_keeps (attemptSlot_keeps h)

theorem voteWaitExpiry_keeps {e : Env} {b : Fin 20} (h : base.Keeps f) : base.Keeps (voteWaitExpiry e b f) :=
  noticeIfWritten_keeps (expireWait_keeps h)

theorem batchNotice_keeps {e : Env} {p : Nat} (h : base.Keeps f) : base.Keeps (batchNotice e p f) :=
  keeps_foldl (fun _ _ kept => transferAttempt_keeps kept) _ h

theorem transferOverdue_keeps {e : Env} {b : Fin 20} (h : base.Keeps f) : base.Keeps (transferOverdue e b f) := by
  simp only [transferOverdue]
  (repeat' split) <;> first | exact h | exact raiseEvent_keeps (h.same rfl rfl)

/-! ### Notices -/

theorem arbiterSample_keeps {e : Env} {p : Nat} (h : base.Keeps f) : base.Keeps (arbiterSample e p f) :=
  h.offers (arbiterSample_offered .refl) (by simp)

theorem sampleNotice_keeps {e : Env} {p : Fin 192} (h : base.Keeps f) : base.Keeps (sampleNotice e p f) := by
  have metered : base.Keeps ((List.finRange 12).foldl (channelNotice e p) f) :=
    keeps_foldl (fun _ _ kept => kept.offers (channelNotice_offered .refl) (by simp)) _ h
  exact arbiterSample_keeps (batchNotice_keeps metered)

theorem boxQuality_keeps {e : Env} {p : Nat} {b : Fin 12} (h : base.Keeps f) : base.Keeps (boxQuality e p b f) :=
  h.offers (boxQuality_offered .refl) (by simp)

theorem maskChannel_keeps {e : Env} {c : Fin 12} {p : Nat} (h : base.Keeps f) :
    base.Keeps (maskChannel (ownerStopped e c) e c p f) :=
  h.offers (maskChannel_offered .refl) (by simp)

theorem staleNotice_keeps {e : Env} {p : Nat} (h : base.Keeps f) : base.Keeps (staleNotice e p f) := by
  have boxes : base.Keeps ((List.finRange 12).foldl (fun f b => boxQuality e p b f) f) :=
    keeps_foldl (fun _ _ kept => boxQuality_keeps kept) _ h
  have kilns := keeps_foldl (op := kilnQuality e p)
    (fun _ _ kept => kept.offers (kilnQuality_offered .refl) (by simp)) (List.finRange 2) boxes
  have channels := keeps_foldl (op := fun f c => maskChannel (ownerStopped e c) e c p f)
    (fun _ _ kept => maskChannel_keeps kept) (List.finRange 12) kilns
  have noticed := batchNotice_keeps (e := e) (p := p)
    (channels.offers (arbiterQuality_offered (e := e) (p := p) (st := true) .refl) (by simp))
  simp only [staleNotice]
  split
  · exact raiseEvent_keeps noticed
  · exact noticed

theorem backNotice_keeps {e : Env} {p : Nat} (h : base.Keeps f) : base.Keeps (backNotice e p f) := by
  have noticed := h.offers (arbiterQuality_offered (e := e) (p := p) (st := false) .refl) (by simp)
  simp only [backNotice]
  split
  · exact raiseEvent_keeps noticed
  · exact noticed

/-! ### The Batch Table's and the officer's functions -/

section Served

variable {e : Env} {reply : Status → Int → Floor → Floor}
  (replies : ∀ st v g, base.Keeps g → base.Keeps (reply st v g))

include replies

theorem serveTransfer_keeps {id : Nat} {qual : Byte} (h : base.Keeps f) :
    base.Keeps (serveTransfer e id qual reply f) := by
  have accepted {b : Fin 20} {x : Batch} {dest : Option PlantUnit} : base.Keeps (acceptTransfer e b x dest f) := by
    cases dest <;> exact h.same (by simp [acceptTransfer]) (by simp [acceptTransfer])
  have begun {b : Fin 20} {g : Floor} (kept : base.Keeps g) : base.Keeps (transferBegins e b id reply g) := by
    simp only [transferBegins]
    split
    · exact registerChanged_keeps (replies _ _ _ (attemptOnce_keeps kept))
    · exact voteWaitExpiry_keeps (replies _ _ _ (attemptOnce_keeps kept))
  simp only [serveTransfer]
  (repeat' split) <;> first | exact replies _ _ _ h | exact begun accepted

omit replies in
theorem emptyUnit_keeps {u : PlantUnit} (h : base.Keeps f) : base.Keeps (emptyUnit e u f) :=
  h.offers (by cases u <;> simp -implicitDefEqProofs [emptyUnit, unitEmptied, Queue.Offered.refl]) (by simp)

omit replies in
theorem freeBatch_keeps {b : Fin 20} {x : Batch} (h : base.Keeps f) : base.Keeps (freeBatch e b x f) :=
  raiseEvent_keeps (h.same rfl rfl)

theorem serveTransferDone_keeps {id : Nat} (h : base.Keeps f) : base.Keeps (serveTransferDone e id reply f) := by
  have completed {b : Fin 20} {x : Batch} {t : Transfer} : base.Keeps (completeTransfer e b x t f) := by
    have emptied : base.Keeps (emptyUnit e x.location (releaseReservation x t f)) := emptyUnit_keeps (h.reg fun sound => sound)
    simp only [completeTransfer]
    split
    · exact emptied.same (by simp) (by simp)
    · exact freeBatch_keeps emptied
  simp only [serveTransferDone]
  (repeat' split) <;> first | exact replies _ _ _ h | exact registerChanged_keeps (replies _ _ _ completed)

theorem serveTransferAbort_keeps {id : Nat} (h : base.Keeps f) : base.Keeps (serveTransferAbort e id reply f) := by
  have voided {b : Fin 20} {t : Transfer} : base.Keeps (writeVoid e b t f).1 := by
    simp only [writeVoid]
    split
    · exact h
    · exact h.written rfl rfl ⟨_, rfl⟩
  have aborted {b : Fin 20} {x : Batch} {t : Transfer} : base.Keeps (abortTransfer e b x t f).1 := by
    simp only [abortTransfer]
    have started : base.Keeps (if t.phase = .inTransit then writeVoid e b t f else (f, 0)).1 := by
      split
      · exact voided
      · exact h
    split
    · exact started.same (by simp) (by simp)
    · exact started.same (by simp) (by simp)
  simp only [serveTransferAbort]
  (repeat' split) <;>
    first | exact replies _ _ _ h | exact registerChanged_keeps (replies _ _ _ aborted) | exact replies _ _ _ aborted

theorem serveBase_keeps {n : Nat} (h : base.Keeps f) : base.Keeps (serveBase e n reply f) := by
  simp only [serveBase]
  split
  · exact replies _ _ _ h
  · split
    · exact replies _ _ _ h
    · next empty =>
      obtain ⟨records, -⟩ := not_or.mp empty
      have based := replies .ok n _ (reportRegister_keeps (e := e) (before := f.register)
        (h.reg (r := fun r => { r with state := .ready, retained := rebase r.retained n, firstFailed := none })
          fun _ _ => chainSound_rebase (not_not.mp records) n))
      split
      · exact based
      · exact registerChanged_keeps based

theorem serveTake_keeps {k : Int} {second : Int → Floor → Floor}
    (seconds : ∀ v g, base.Keeps g → base.Keeps (second v g)) (h : base.Keeps f) :
    base.Keeps (serveTake e k reply second f) := by
  simp only [serveTake]
  (repeat' split) <;> try exact replies _ _ _ h
  exact registerChanged_keeps (seconds _ _ (replies _ _ _ (h.reg fun sound ready => chainSound_take (sound ready) _)))

theorem serveSpot_keeps {officer qual : Byte} (h : base.Keeps f) : base.Keeps (serveSpot e officer qual reply f) := by
  have written {b : Fin 20} {id : Nat} {u : PlantUnit} : base.Keeps (writeSpot e b id u officer f) :=
    reportRegister_keeps (h.written rfl rfl ⟨_, rfl⟩)
  simp only [serveSpot]
  (repeat' split) <;> first | exact replies _ _ _ h | exact registerChanged_keeps (replies _ _ _ written)

theorem serveHold_keeps {id : Nat} {flag : Bool} (h : base.Keeps f) : base.Keeps (serveHold id flag reply f) := by
  simp only [serveHold]
  split
  · exact replies _ _ _ h
  · exact replies _ _ _ (h.same rfl rfl)

/-! ### The functions on channels and the turner -/

theorem serveDoseStart_keeps {qual : Byte} {v : Int} (h : base.Keeps f) :
    base.Keeps (serveDoseStart e qual v reply f) := by
  simp only [serveDoseStart]
  (repeat' split)
  · exact replies _ _ _ h
  · exact replies _ _ _ h
  · exact replies _ _ _ (h.offers (beginDose_offered (maskRule_offered .refl)) (by simp))
  · exact replies _ _ _ (h.offers (maskRule_offered .refl) (by simp))

theorem serveUnmask_keeps {qual : Byte} (h : base.Keeps f) : base.Keeps (serveUnmask e qual reply f) := by
  simp only [serveUnmask]
  (repeat' split) <;> exact replies _ _ _ (h.same rfl rfl)

theorem serveDoseClear_keeps (h : base.Keeps f) : base.Keeps (serveDoseClear e reply f) :=
  replies _ _ _ (keeps_foldl (fun _ _ kept => kept.offers (clearChannel_offered .refl) (by simp)) _ h)

theorem serveTurnerEnable_keeps (h : base.Keeps f) : base.Keeps (serveTurnerEnable e reply f) :=
  replies _ _ _ (h.offers (turnerEnable_offered .refl) (by simp))

/-! ### Unit commands -/

theorem unitCommand_keeps {qual : Byte} {serve : PlantUnit → Floor → Floor × Answer}
    (serves : ∀ u, base.Keeps (serve u f).1) (h : base.Keeps f) : base.Keeps (unitCommand qual serve reply f) := by
  simp only [unitCommand]
  split
  · exact replies _ _ _ h
  · split
    · exact replies _ _ _ h
    · exact replies _ _ _ (serves _)

end Served

variable {e : Env}

theorem serveStart_keeps {p id : Nat} {u : PlantUnit} (h : base.Keeps f) : base.Keeps (serveStart e p id u f).1 := by
  have created {v : Fin 6} {slot : Fin 20} {mass : Int} : base.Keeps (createBatch e v p id slot mass f) := by
    simp only [createBatch]
    split
    · exact h.same rfl rfl
    · refine Floor.Keeps.offers (h.same (g := Floor.vessel { f with
        batches := f.batches.set slot (some (newBatch id (.vessel v) mass)) } v fun x =>
          { x with ctx := { x.ctx.enter .loaded with batch := some id } }) rfl rfl) (startVessel_offered .refl) (by simp)
  simp only [serveStart]
  split
  · exact h.offers (startLoaded_offered .refl) (by simp)
  · simp only [startEmpty]
    (repeat' split) <;> first | exact h | exact created
  · exact h

theorem serveDiscard_keeps {u : PlantUnit} (h : base.Keeps f) : base.Keeps (serveDiscard e u f).1 := by
  have discarded {v : Fin 6} : base.Keeps (discardBatch e v f).1 := by
    simp only [discardBatch]
    (repeat' split) <;> first | exact h | exact freeBatch_keeps (emptyUnit_keeps h)
  simp only [serveDiscard]
  split
  · exact discarded
  · exact discarded
  · exact h

/-! ### RESTART, the swap, the second and the end of the walk -/

theorem restartUnit_keeps {u : PlantUnit} (h : base.Keeps f) : base.Keeps (restartUnit e f u) := by
  simp only [restartUnit]
  split
  · exact h.offers (enterHeld_offered .refl) (by simp)
  · exact h.offers (enterHeld_offered .refl) (by simp)
  · exact h

theorem restartArbiter_keeps (h : base.Keeps f) : base.Keeps (restartArbiter e f) :=
  h.offers (restartArbiter_offered .refl) (by simp)

theorem restartFloor_keeps (h : base.Keeps f) : base.Keeps (restartFloor e f) := by
  have emptied : base.Keeps { f with queue := f.queue.emptied, channels := f.channels.map (restartChannel e.second) } :=
    ⟨fun _ => Queue.Sound.emptied _, h.register⟩
  have held := keeps_foldl (fun _ u kept => restartUnit_keeps (e := e) (u := u) kept) allUnits emptied
  have vessels := keeps_foldl (op := fun f v => f.vessel v (restartVessel e v)) (fun _ _ kept => kept.same rfl rfl)
    (List.finRange 6) held
  have boxes := keeps_foldl (op := fun f b => f.box b restartBox) (fun _ _ kept => kept.same rfl rfl)
    (List.finRange 12) vessels
  have kilns := keeps_foldl (op := fun f k => f.kiln k restartKiln) (fun _ _ kept => kept.same rfl rfl)
    (List.finRange 2) boxes
  simp only [restartFloor]
  exact restartArbiter_keeps kilns

theorem reportSwap_keeps {node tag : Byte} (h : base.Keeps f) : base.Keeps (reportSwap node tag e f) := by
  simp only [reportSwap]
  exact (raiseEvent_keeps (offerReply_keeps h)).offers (grantDecision_offered .refl) (by simp)

theorem parkingSecond_keeps (h : base.Keeps f) : base.Keeps (parkingSecond e f) :=
  h.offers (parkingSecond_offered .refl) (by simp)

theorem vesselSecond_keeps {v : Fin 6} (h : base.Keeps f) : base.Keeps (vesselSecond e v f) :=
  h.offers (vesselSecond_offered .refl) (by simp)

theorem kilnSecond_keeps {k : Fin 2} (h : base.Keeps f) : base.Keeps (kilnSecond e k f) :=
  h.offers (kilnSecond_offered .refl) (by simp)

theorem floorSecond_keeps (h : base.Keeps f) : base.Keeps (floorSecond e f) := by
  have vessels := keeps_foldl (op := fun f v => vesselSecond e v f)
    (fun _ _ kept => vesselSecond_keeps kept) (List.finRange 6) h
  have boxes := keeps_foldl (op := fun f b => f.box b (boxSecond (f.arbiter.grant == some b)))
    (fun _ _ kept => kept.same rfl rfl) (List.finRange 12) vessels
  have kilns := keeps_foldl (op := fun f k => kilnSecond e k f)
    (fun _ _ kept => kilnSecond_keeps kept) (List.finRange 2) boxes
  exact parkingSecond_keeps kilns

theorem walkEnds_keeps (h : base.Keeps f) : base.Keeps (walkEnds e f) := by
  simp only [walkEnds]
  split
  · exact registerChanged_keeps (reportRegister_keeps (h.reg fun _ => registerSound_walked _))
  · exact h

end Keeps

end Sys2Proof.Machine

/-! SUPPORT. What every command keeps: the bounds and keys of the insertion queue (R17, R18), the chain of a READY register (R196)
and the canonical form of the banks (R65); and the output lines that every event ends with (R13, R188, R223). -/

namespace Sys2Proof.Machine

/-- From `s` to `t` the floor keeps what every floor operation keeps, and the banks stay canonical. -/
structure State.Keeps (s t : State) : Prop where
  floor : s.floor.Keeps t.floor
  banks : s.BanksCanonical → t.BanksCanonical

section Keeps

variable {base s t : State}

theorem State.Keeps.refl (s : State) : s.Keeps s := ⟨.refl _, id⟩

theorem State.Keeps.trans {u : State} (a : s.Keeps t) (b : t.Keeps u) : s.Keeps u :=
  ⟨a.floor.trans b.floor, b.banks ∘ a.banks⟩

/-- Only the floor has changed. -/
theorem State.Keeps.onFloor (h : base.Keeps s) {op : Env → Floor → Floor} (k : ∀ e f, Floor.Keeps f (op e f)) :
    base.Keeps (s.onFloor op) := ⟨h.floor.trans (k _ _), h.banks⟩

/-- Neither the floor nor a bank has changed. -/
theorem State.Keeps.same (h : base.Keeps s) (floor : t.floor = s.floor) (active : t.tables.active = s.tables.active)
    (shadow : t.tables.shadow = s.tables.shadow) : base.Keeps t := by
  refine ⟨floor ▸ h.floor, fun canonical => ?_⟩
  rw [State.BanksCanonical, active, shadow]
  exact h.banks canonical

/-- A change of the Table Bank that keeps the banks canonical. -/
theorem State.Keeps.loads (h : base.Keeps s) {b : TableBank}
    (canonical : s.BanksCanonical → b.active.wf = true ∧ b.shadow.wf = true) : base.Keeps { s with tables := b } :=
  ⟨h.floor, canonical ∘ h.banks⟩

theorem reply_keeps {fn : Function} {r : Req} {st : Status} {v : Int} (h : base.Keeps s) : base.Keeps (reply fn r st v s) :=
  h.onFloor fun _ _ => replyTo_keeps (.refl _)

/-! ### Polls and points -/

theorem answerPoll_keeps {i : Fin 4} (h : base.Keeps s) : base.Keeps (answerPoll i s) := by
  simp only [answerPoll]
  split
  · exact h
  · exact ⟨h.floor.trans (keeps_foldl (fun _ _ kept => offerReply_keeps kept) _ (.refl _)), h.banks⟩

theorem pollAnswered_keeps {p : Fin 192} (h : base.Keeps s) : base.Keeps (pollAnswered p s) := by
  simp only [pollAnswered]
  split
  · exact answerPoll_keeps h
  · exact h

theorem offerPoll_keeps {i : Fin 4} (h : base.Keeps s) : base.Keeps (offerPoll i s) := by
  simp only [offerPoll]
  (repeat' split) <;> try exact h
  exact ⟨h.floor.offers (offerCommand_offered .refl) rfl, h.banks⟩

theorem takeSample_keeps {p : Fin 192} {raw : Int} {suspect : Bool} (h : base.Keeps s) :
    base.Keeps (takeSample p raw suspect s) := by
  simp only [takeSample]
  refine State.Keeps.onFloor (pollAnswered_keeps ?_) fun _ _ => sampleNotice_keeps (.refl _)
  split
  · refine State.Keeps.onFloor ?_ fun _ _ => backNotice_keeps (.refl _)
    exact h.same rfl rfl rfl
  · exact h.same rfl rfl rfl

theorem becomeStale_keeps {p : Fin 192} (h : base.Keeps s) : base.Keeps (becomeStale p s) := by
  refine State.Keeps.onFloor ?_ fun _ _ => staleNotice_keeps (.refl _)
  exact h.same rfl rfl rfl

theorem sampleArrives_keeps {p : Fin 192} {v : Word} {status : Byte} (h : base.Keeps s) :
    base.Keeps (sampleArrives p v status s) := by
  simp only [sampleArrives, faultSample]
  (repeat' split) <;> first | exact takeSample_keeps h | exact becomeStale_keeps h | exact h

/-! ### The management functions -/

theorem serveWrite_keeps {r : Req} (h : base.Keeps s) : base.Keeps (serveWrite r s) := by
  simp only [serveWrite]
  (repeat' split) <;> try exact reply_keeps h
  exact reply_keeps (h.loads fun canonical => ⟨canonical.1, Bank.wf_write _ _ _ canonical.2⟩)

theorem serveRead_keeps {r : Req} (h : base.Keeps s) : base.Keeps (serveRead r s) := by
  have cleared {u : State} (kept : base.Keeps u) : base.Keeps (clearTc u) := by
    simp only [clearTc]
    (repeat' split) <;> first | exact kept | exact ⟨kept.floor.same rfl rfl, kept.banks⟩
  simp only [serveRead]
  (repeat' split) <;> first | exact cleared (reply_keeps h) | exact reply_keeps h

theorem serveRefresh_keeps {r : Req} (h : base.Keeps s) : base.Keeps (serveRefresh r s) := by
  have captured : base.Keeps (captureRequest .unmappedPoll .refresh r s) := by
    simp only [captureRequest, capture]
    split <;> exact h.same rfl rfl rfl
  have polled {p : Fin 192} : base.Keeps (newPoll r p s) := by
    simp only [newPoll]
    split
    · exact offerPoll_keeps (h.same rfl rfl rfl)
    · exact reply_keeps h
  simp only [serveRefresh]
  split
  · exact reply_keeps h
  · split
    · exact ⟨h.floor.offers (offerReply_offered .refl) rfl, h.banks⟩
    · split
      · split
        · exact h.same rfl rfl rfl
        · exact reply_keeps h
      · split
        · exact polled
        · exact reply_keeps captured

theorem serveRestart_keeps {r : Req} (h : base.Keeps s) : base.Keeps (serveRestart r s) := by
  refine reply_keeps (State.Keeps.onFloor ?_ fun _ _ => restartFloor_keeps (.refl _))
  exact h.same rfl rfl rfl

/-- A unit command that keeps the floor's invariants. -/
theorem unitFunction_keeps {fn : Function} {r : Req} {serve : Env → PlantUnit → Floor → Floor × Answer} (h : base.Keeps s)
    (serves : ∀ e u f, Floor.Keeps f (serve e u f).1) : base.Keeps (unitFunction fn r serve s) := by
  simp only [unitFunction, servedBy]
  exact h.onFloor fun e f => unitCommand_keeps (fun _ _ _ => replyTo_keeps) (fun u => serves e u f) (.refl _)

/-- A unit command that offers cells and leaves the register alone. -/
theorem Floor.Keeps.of_offered {f g : Floor} (o : f.queue.Offered g.queue) (r : g.register = f.register) : f.Keeps g :=
  (Floor.Keeps.refl f).offers o r

theorem serveCursor_keeps {r : Req} (h : base.Keeps s) : base.Keeps (serveCursor r s) := by
  simp only [serveCursor, moveCursor]
  split
  · next moved =>
    split at moved
    · obtain rfl := Option.some.inj moved
      exact reply_keeps (h.same rfl rfl rfl)
    · cases moved
  · exact reply_keeps h

theorem serveClearShadow_keeps {r : Req} (h : base.Keeps s) : base.Keeps (serveClearShadow r s) := by
  simp only [serveClearShadow]
  split
  · exact reply_keeps h
  · exact reply_keeps (h.loads fun canonical => ⟨canonical.1, rfl⟩)

theorem serveCopyActive_keeps {r : Req} (h : base.Keeps s) : base.Keeps (serveCopyActive r s) := by
  simp only [serveCopyActive]
  split
  · exact reply_keeps h
  · exact reply_keeps (h.loads fun canonical => ⟨canonical.1, canonical.1⟩)

theorem serveActivate_keeps {r : Req} (h : base.Keeps s) : base.Keeps (serveActivate r s) := by
  simp only [serveActivate]
  split
  · exact reply_keeps h
  · exact h.same rfl rfl rfl

theorem serveTimeSet_keeps {r : Req} (h : base.Keeps s) : base.Keeps (serveTimeSet r s) := by
  simp only [serveTimeSet]
  refine reply_keeps ?_
  exact h.same rfl rfl rfl

theorem serveCaptureClear_keeps {r : Req} (h : base.Keeps s) : base.Keeps (serveCaptureClear r s) := by
  simp only [serveCaptureClear]
  refine reply_keeps ?_
  exact h.same rfl rfl rfl

/-- A function that a block of the floor serves keeps what the block keeps. -/
theorem servedBy_keeps {fn : Function} {r : Req} {op : Env → (Status → Int → Floor → Floor) → Floor → Floor} (h : base.Keeps s)
    (serves : ∀ {e : Env} {f : Floor} {reply : Status → Int → Floor → Floor}, (∀ st v g, f.Keeps g → f.Keeps (reply st v g)) →
      f.Keeps (op e reply f)) : base.Keeps (servedBy fn r op s) :=
  h.onFloor fun _ _ => serves fun _ _ _ => replyTo_keeps

theorem serveFunction_keeps {fn : Function} {r : Req} (h : base.Keeps s) : base.Keeps (serveFunction fn r s) := by
  unfold serveFunction
  split
  · exact serveCursor_keeps h
  · exact serveWrite_keeps h
  · exact serveRead_keeps h
  · exact serveClearShadow_keeps h
  · exact serveCopyActive_keeps h
  · exact serveActivate_keeps h
  · exact unitFunction_keeps h fun _ _ _ => serveStart_keeps (.refl _)
  · exact unitFunction_keeps h fun _ _ _ => .of_offered (serveHoldUnit_offered .refl) (by simp)
  · exact unitFunction_keeps h fun _ _ _ => .of_offered (serveResume_offered .refl) (by simp)
  · exact unitFunction_keeps h fun _ _ _ => .of_offered (serveManual_offered .refl) (by simp)
  · exact unitFunction_keeps h fun _ _ _ => .of_offered (serveAuto_offered .refl) (by simp)
  · exact unitFunction_keeps h fun _ _ _ => .of_offered (serveStopProgram_offered .refl) (by simp)
  · exact unitFunction_keeps h fun _ _ _ => serveDiscard_keeps (.refl _)
  · exact servedBy_keeps h fun replies => serveTransfer_keeps replies (.refl _)
  · exact servedBy_keeps h fun replies => serveTransferDone_keeps replies (.refl _)
  · exact servedBy_keeps h fun replies => serveTransferAbort_keeps replies (.refl _)
  · exact servedBy_keeps h fun replies => serveDoseStart_keeps replies (.refl _)
  · exact servedBy_keeps h fun replies => serveUnmask_keeps replies (.refl _)
  · exact servedBy_keeps h fun replies => serveDoseClear_keeps replies (.refl _)
  · exact servedBy_keeps h fun replies => serveTurnerEnable_keeps replies (.refl _)
  · exact serveRefresh_keeps h
  · exact serveTimeSet_keeps h
  · exact serveRestart_keeps h
  · exact serveCaptureClear_keeps h
  · exact servedBy_keeps h fun replies => serveBase_keeps replies (.refl _)
  · exact servedBy_keeps h fun replies => serveTake_keeps replies (fun _ _ => offerReply_keeps) (.refl _)
  · exact servedBy_keeps h fun replies => serveSpot_keeps replies (.refl _)
  · exact servedBy_keeps h fun replies => serveHold_keeps replies (.refl _)
  · exact servedBy_keeps h fun replies => serveHold_keeps replies (.refl _)

theorem capture_keeps {reason : CaptureReason} {dest source kind func : Byte} (h : base.Keeps s) :
    base.Keeps (capture reason dest source kind func s) := by
  simp only [capture]
  split <;> exact h.same rfl rfl rfl

theorem serveManagement_keeps {code : Byte} {r : Req} (h : base.Keeps s) : base.Keeps (serveManagement code r s) := by
  simp only [serveManagement, serveKnown]
  (repeat' split)
  · exact serveFunction_keeps h
  · exact reply_keeps (capture_keeps h)
  · exact serveFunction_keeps h
  · exact reply_keeps h
  · exact h.onFloor fun _ _ => offerReply_keeps (.refl _)

/-! ### Judged commands and slots -/

theorem interlockReply_keeps {slot : Slot} {st : Status} {v : Int} (h : base.Keeps s) :
    base.Keeps (interlockReply slot st v s) := h.onFloor fun _ _ => offerReply_keeps (.refl _)

theorem judgeCommand_keeps {slot : Slot} (h : base.Keeps s) : base.Keeps (judgeCommand slot s).1 := by
  have freed : base.Keeps (retryFree slot.source slot.dest slot.func s) := by
    simp only [retryFree]
    split
    · exact h.same rfl rfl rfl
    · exact h
  have retried : base.Keeps (retryVerdict slot (limitOf s.tables.active slot.dest) s) := by
    simp only [retryVerdict]
    (repeat' split)
    · exact interlockReply_keeps h
    · exact interlockReply_keeps (h.same rfl rfl rfl)
    · exact h
    · exact interlockReply_keeps (h.same rfl rfl rfl)
    · exact interlockReply_keeps (capture_keeps (h.same rfl rfl rfl))
  simp only [judgeCommand]
  split
  · exact freed
  · exact interlockReply_keeps h
  · exact retried
  · split
    · exact freed
    · exact interlockReply_keeps freed

theorem handleSlot_keeps {slot : Slot} (h : base.Keeps s) : base.Keeps (handleSlot slot s).1 := by
  have sampled : base.Keeps (sampleCellArrives slot s).1 := by
    simp only [sampleCellArrives]
    (repeat' split) <;> first | exact h | exact sampleArrives_keeps h
  have commanded : base.Keeps (commandArrives slot s).1 := by
    simp only [commandArrives, denyCommand]
    (repeat' split) <;> first | exact judgeCommand_keeps h | exact interlockReply_keeps (capture_keeps h) | exact h
  have timed : base.Keeps (timeCellArrives slot s).1 := by
    simp only [timeCellArrives]
    split
    · exact h.same rfl rfl rfl
    · exact h
  have good : base.Keeps (handleGood slot s).1 := by
    simp only [handleGood]
    (repeat' split) <;>
      first
        | exact h | exact capture_keeps h | exact serveManagement_keeps h | exact sampled | exact commanded | exact timed
  simp only [handleSlot, handleTransparent]
  (repeat' split) <;> first | exact h | exact capture_keeps h | exact good | exact serveManagement_keeps h

theorem goSilent_keeps (h : base.Keeps s) : base.Keeps (goSilent s) := by
  refine State.Keeps.onFloor ?_ fun _ _ => .of_offered (floorSilent_offered .refl) (by simp)
  exact h.same rfl rfl rfl

theorem goUp_keeps (h : base.Keeps s) : base.Keeps (goUp s) := by
  refine State.Keeps.onFloor ?_ fun _ _ => raiseEvent_keeps (.refl _)
  exact h.same rfl rfl rfl

theorem countSlot_keeps {slot : Slot} (h : base.Keeps s) : base.Keeps (countSlot slot s) := by
  have counted : base.Keeps (countRuns (classify slot == .bad) s) := h.same rfl rfl rfl
  simp only [countSlot]
  (repeat' split)
  · exact goUp_keeps counted
  · exact goSilent_keeps counted
  · exact counted

theorem fillSlot_keeps {slot : Slot} (h : base.Keeps s) : base.Keeps (fillSlot slot s).1 := by
  simp only [fillSlot]
  split
  · next popped => exact ⟨h.floor.trans ⟨fun sound => sound.popped popped, id⟩, h.banks⟩
  · exact h

theorem passSlot_keeps {slot : Slot} {ff : Bool} (h : base.Keeps s) : base.Keeps (passSlot slot ff s) := by
  simp only [passSlot]
  (repeat' split)
  · exact State.Keeps.same (handleSlot_keeps (countSlot_keeps h)) rfl rfl rfl
  · exact State.Keeps.same (handleSlot_keeps (countSlot_keeps (fillSlot_keeps h))) rfl rfl rfl
  · exact State.Keeps.same (fillSlot_keeps (handleSlot_keeps (countSlot_keeps h))) rfl rfl rfl

/-! ### Events -/

theorem setLines_keeps (h : base.Keeps s) : base.Keeps (setLines s) := h.same (by simp) (by simp) (by simp)

theorem finish_keeps {s0 : State} (h : base.Keeps s) : base.Keeps (finish s0 s) := by
  simp only [finish]
  exact setLines_keeps (h.onFloor fun _ _ => .of_offered (tellOwners_offered .refl) (by simp))

theorem reoffer_keeps {who : ReofferTarget} (h : base.Keeps s) : base.Keeps (reoffer who s) := by
  cases who with
  | valve c =>
    simp only [reoffer]
    refine h.onFloor fun _ _ => ?_
    simp only [reofferValve]
    split
    · exact .of_offered (offerValve_offered .refl) (by simp)
    · exact .refl _
  | turner =>
    simp only [reoffer]
    exact h.onFloor fun _ _ => .of_offered (reofferTurner_offered .refl) (by simp)
  | poll i =>
    simp only [reoffer, reofferPoll]
    (repeat' split) <;> first | exact h | exact offerPoll_keeps h
  | unit u =>
    simp only [reoffer]
    split
    · exact h.onFloor fun _ _ => .of_offered (reofferUnit_offered .refl) (by simp)
    · exact h

theorem qualityHeld_keeps {p : Fin 192} (h : base.Keeps s) : base.Keeps (qualityHeld p s) := by
  simp only [qualityHeld]
  split
  · exact h.same rfl rfl rfl
  · exact h

theorem qualityStale_keeps {p : Fin 192} (h : base.Keeps s) : base.Keeps (qualityStale p s) := by
  simp only [qualityStale]
  split
  · exact becomeStale_keeps h
  · exact h

theorem pollDeadline_keeps {i : Fin 4} (h : base.Keeps s) : base.Keeps (pollDeadline i s) := by
  simp only [pollDeadline]
  split
  · exact answerPoll_keeps h
  · exact h

theorem testCongestion_keeps (h : base.Keeps s) : base.Keeps (testCongestion s) :=
  ⟨h.floor.trans ⟨fun sound => ⟨sound.bounded, sound.distinct⟩, id⟩, h.banks⟩

/-- A floor operation that only offers cells and leaves the register. -/
theorem State.Keeps.offering (h : base.Keeps s) (op : Env → Floor → Floor)
    (quiet : ∀ e f, f.queue.Offered (op e f).queue ∧ (op e f).register = f.register) : base.Keeps (s.onFloor op) :=
  h.onFloor fun e f => .of_offered (quiet e f).1 (quiet e f).2

theorem dueStep_keeps {i : Instr} (h : base.Keeps s) : base.Keeps (dueStep i s) := by
  cases i
  case pendingReoffer => exact reoffer_keeps h
  case congested => exact testCongestion_keeps h
  case qualityHeld => exact qualityHeld_keeps h
  case qualityStale => exact qualityStale_keeps h
  case pollDeadline => exact pollDeadline_keeps h
  case voteWaitExpiry x => exact h.onFloor (op := fun e => voteWaitExpiry e x) fun _ _ => voteWaitExpiry_keeps (.refl _)
  case transferOverdue x => exact h.onFloor (op := fun e => transferOverdue e x) fun _ _ => transferOverdue_keeps (.refl _)
  case vesselEvaluation x => exact h.offering (fun e => vesselEvaluate e x) fun _ _ => ⟨vesselEvaluate_offered .refl, by simp⟩
  case stepMaximum x => exact h.offering (fun e => stepMaximum e x) fun _ _ => ⟨stepMaximum_offered .refl, by simp⟩
  case boxEvaluation x => exact h.offering (fun e => boxEvaluate e x) fun _ _ => ⟨boxEvaluate_offered .refl, by simp⟩
  case dayEnded x => exact h.offering (fun e => dayEnded e x) fun _ _ => ⟨dayEnded_offered .refl, by simp⟩
  case turnIntervalReached x =>
    exact h.offering (fun e => turnIntervalReached e x) fun _ _ => ⟨turnIntervalReached_offered .refl, by simp⟩
  case prepTimeout => exact h.offering prepTimeout fun _ _ => ⟨prepTimeout_offered .refl, by simp⟩
  case startTimeout => exact h.offering startTimeout fun _ _ => ⟨startTimeout_offered .refl, by simp⟩
  case turnOverrun => exact h.offering turnOverrun fun _ _ => ⟨turnOverrun_offered .refl, by simp⟩
  case sprayTrailExpiry => exact h.offering sprayTrailExpiry fun _ _ => ⟨sprayTrailExpiry_offered .refl, by simp⟩
  case parkDelayExpiry => exact h.offering parkDelayExpiry fun _ _ => ⟨parkDelayExpiry_offered .refl, by simp⟩
  case kilnEvaluation x => exact h.offering (fun e => kilnEvaluate e x) fun _ _ => ⟨kilnEvaluate_offered .refl, by simp⟩
  case phaseMaximum x => exact h.offering (fun e => phaseMaximum e x) fun _ _ => ⟨phaseMaximum_offered .refl, by simp⟩
  case flameLost x => exact h.offering (fun e => flameLost e x) fun _ _ => ⟨flameLost_offered .refl, by simp⟩
  all_goals exact h

theorem takeDue_keeps {i : Instr} (h : base.Keeps s) : base.Keeps (takeDue i (dueStep i) s) := by
  simp only [takeDue]
  (repeat' split) <;> first | exact h | exact finish_keeps (dueStep_keeps (h.same rfl rfl rfl))

theorem takeNow_keeps {op : State → State} (h : base.Keeps s) (keeps : ∀ {u}, base.Keeps u → base.Keeps (op u)) :
    base.Keeps (takeNow op s) := by
  simp only [takeNow]
  split
  · exact h
  · exact finish_keeps (keeps h)

theorem settle_keeps (h : base.Keeps s) : base.Keeps (settle s) :=
  State.Keeps.same (foldl_inv (fun u => base.Keeps u) _ (fun _ _ kept => takeDue_keeps kept) _ _ h) rfl rfl rfl

theorem ownEvent_keeps {op : State → State} (h : base.Keeps s) (keeps : ∀ {u}, base.Keeps u → base.Keeps (op u)) :
    base.Keeps (ownEvent op s) := by
  simp only [ownEvent]
  split
  · exact h
  · exact finish_keeps (keeps (settle_keeps h))

theorem arrive_keeps {slot : Slot} {ff : Bool} (h : base.Keeps s) : base.Keeps (arrive slot ff s) := by
  simp only [arrive]
  split
  · exact h
  · exact finish_keeps (passSlot_keeps (settle_keeps h))

theorem endOfCheck_keeps (h : base.Keeps s) : base.Keeps (endOfCheck s) := by
  have swapped : base.Keeps (swapBanks s) :=
    ⟨h.floor.same rfl rfl, fun canonical => (h.banks canonical).symm⟩
  simp only [endOfCheck]
  (repeat' split)
  · exact h
  · refine State.Keeps.onFloor ?_ fun _ _ => offerReply_keeps (.refl _)
    exact h.same rfl rfl rfl
  · exact swapped.onFloor fun _ _ => reportSwap_keeps (.refl _)

theorem timeBaseSecond_keeps (h : base.Keeps s) : base.Keeps (timeBaseSecond s) := by
  have advanced : base.Keeps (advanceClocks (settle s)) := (settle_keeps h).same rfl rfl rfl
  simp only [timeBaseSecond]
  (repeat' split)
  · exact h
  · exact finish_keeps (State.Keeps.same (advanced.onFloor (fun _ _ => floorSecond_keeps (.refl _))) rfl rfl rfl)
  · exact finish_keeps (advanced.same rfl rfl rfl)

theorem endPowerOn_keeps {straps : Byte} {held : Bool} : base.Keeps (endPowerOn straps held s) := by
  refine ⟨⟨fun _ => ?_, fun _ => ?_⟩, fun _ => ⟨?_, ?_⟩⟩
  · simpa [endPowerOn, State.powerOn] using Queue.Sound.initial
  · simpa [endPowerOn, State.powerOn] using registerSound_powerOn _ _
  · rfl
  · rfl

end Keeps

end Sys2Proof.Machine

/-! SUPPORT. Every command comes out as one of these events; and the four statements about every step: O46, O57, O58, O59. -/

namespace Sys2Proof.Machine

/-- How a command comes out: as the arrival of a slot, a step that was due, an event of the part's own, one that follows from an
arrival, a second, or the beginning of a reset. -/
inductive CameTo (s : State) : State → Prop
  | arrival (slot : Slot) (ff : Bool) : CameTo s (arrive slot ff s)
  | due (i : Instr) : CameTo s (takeDue i (dueStep i) s)
  | own (op : State → State) (keeps : ∀ u : State, u.Keeps (op u)) : CameTo s (ownEvent op s)
  | now (op : State → State) (keeps : ∀ u : State, u.Keeps (op u)) : CameTo s (takeNow op s)
  | second : CameTo s (timeBaseSecond s)
  | reset (torn : Option Retained) : CameTo s (assertReset torn s)

theorem now_offering {s : State} (op : Env → Floor → Floor)
    (quiet : ∀ e f, f.queue.Offered (op e f).queue ∧ (op e f).register = f.register) :
    CameTo s (takeNow (fun s => s.onFloor op) s) := .now _ fun u => (State.Keeps.refl u).offering op quiet

theorem loopSilent_keeps {elapsed : Nat} {s : State} : s.Keeps (if silentDue elapsed s then goSilent s else s) := by
  split
  · exact goSilent_keeps (.refl s)
  · exact .refl s

theorem loopUp_keeps {s : State} : s.Keeps (if upDue s then goUp s else s) := by
  split
  · exact goUp_keeps (.refl s)
  · exact .refl s

theorem pollAnsweredTest_keeps {p : Fin 192} {s : State} :
    s.Keeps (if s.points[p].quality = .fresh then pollAnswered p s else s) := by
  split
  · exact pollAnswered_keeps (.refl s)
  · exact .refl s

theorem terminalCountTest_keeps {c : Fin 12} {s : State} :
    s.Keeps (if terminalDue s.floor c then s.onFloor fun e => terminalCount e c else s) := by
  split
  · exact (State.Keeps.refl s).offering _ fun _ _ => ⟨terminalCount_offered .refl, by simp⟩
  · exact .refl s

/-- Every command but the end of power-on reset. -/
theorem exec_cameTo (i : Instr) (s : State) (other : ∀ straps held, i ≠ .powerOnReset straps held) :
    ∃ t, exec i s = .next t ∧ CameTo s t := by
  cases i
  case powerOnReset straps held => exact absurd rfl (other straps held)
  case resetAssert torn => exact ⟨_, rfl, .reset torn⟩
  case timeBaseSecond => exact ⟨_, rfl, .second⟩
  case loopSilent => exact ⟨_, rfl, .own _ fun _ => loopSilent_keeps⟩
  case loopUp => exact ⟨_, rfl, .now _ fun _ => loopUp_keeps⟩
  case pollAnswered => exact ⟨_, rfl, .now _ fun _ => pollAnsweredTest_keeps⟩
  case terminalCount => exact ⟨_, rfl, .now _ fun _ => terminalCountTest_keeps⟩
  case endOfCheck => exact ⟨_, rfl, .own _ fun u => endOfCheck_keeps (.refl u)⟩
  case walkEnd => exact ⟨_, rfl, .own _ fun u => (State.Keeps.refl u).onFloor fun _ _ => walkEnds_keeps (.refl _)⟩
  case transferAttempt b =>
    exact ⟨_, rfl, .now _ fun u =>
      (State.Keeps.refl u).onFloor (op := fun e => transferAttempt e b) fun _ _ => transferAttempt_keeps (.refl _)⟩
  case grant => exact ⟨_, rfl, now_offering grantDecision fun _ _ => ⟨grantDecision_offered .refl, by simp⟩⟩
  case fanFeedbackMet => exact ⟨_, rfl, now_offering fanTest fun _ _ => ⟨fanTest_offered .refl, by simp⟩⟩
  case turnerAtBox => exact ⟨_, rfl, now_offering turningTest fun _ _ => ⟨turningTest_offered .refl, by simp⟩⟩
  case turnerFinished => exact ⟨_, rfl, now_offering finishTest fun _ _ => ⟨finishTest_offered .refl, by simp⟩⟩
  case release => exact ⟨_, rfl, now_offering releaseTest fun _ _ => ⟨releaseTest_offered .refl, by simp⟩⟩
  case parkPositionReached => exact ⟨_, rfl, now_offering parkingTest fun _ _ => ⟨parkingTest_offered .refl, by simp⟩⟩
  case pendingReoffer who => exact ⟨_, rfl, .due (.pendingReoffer who)⟩
  case congested => exact ⟨_, rfl, .due .congested⟩
  case qualityHeld p => exact ⟨_, rfl, .due (.qualityHeld p)⟩
  case qualityStale p => exact ⟨_, rfl, .due (.qualityStale p)⟩
  case pollDeadline p => exact ⟨_, rfl, .due (.pollDeadline p)⟩
  case voteWaitExpiry b => exact ⟨_, rfl, .due (.voteWaitExpiry b)⟩
  case transferOverdue b => exact ⟨_, rfl, .due (.transferOverdue b)⟩
  case vesselEvaluation v => exact ⟨_, rfl, .due (.vesselEvaluation v)⟩
  case stepMaximum v => exact ⟨_, rfl, .due (.stepMaximum v)⟩
  case boxEvaluation b => exact ⟨_, rfl, .due (.boxEvaluation b)⟩
  case dayEnded b => exact ⟨_, rfl, .due (.dayEnded b)⟩
  case turnIntervalReached b => exact ⟨_, rfl, .due (.turnIntervalReached b)⟩
  case prepTimeout => exact ⟨_, rfl, .due .prepTimeout⟩
  case startTimeout => exact ⟨_, rfl, .due .startTimeout⟩
  case turnOverrun => exact ⟨_, rfl, .due .turnOverrun⟩
  case sprayTrailExpiry => exact ⟨_, rfl, .due .sprayTrailExpiry⟩
  case parkDelayExpiry => exact ⟨_, rfl, .due .parkDelayExpiry⟩
  case kilnEvaluation k => exact ⟨_, rfl, .due (.kilnEvaluation k)⟩
  case phaseMaximum k => exact ⟨_, rfl, .due (.phaseMaximum k)⟩
  case flameLost k => exact ⟨_, rfl, .due (.flameLost k)⟩
  all_goals exact ⟨_, rfl, .arrival _ _⟩

/-- In reset a command does nothing. -/
theorem CameTo.inReset {s t : State} (h : CameTo s t) (reset : s.inReset = true) : t = s := by
  cases h with
  | arrival => simp [arrive, reset]
  | due => simp [takeDue, reset]
  | own => simp [ownEvent, reset]
  | now => simp [takeNow, reset]
  | second => simp [timeBaseSecond, reset]
  | reset => simp [assertReset, reset]

end Sys2Proof.Machine

/-! SUPPORT. What every step keeps (O46, O58, O59), and the lines after every step (O57). -/

namespace Sys2Proof.Machine

theorem assertReset_keeps (torn : Option Retained) (s : State) :
    (assertReset torn s).inReset = true ∧ (assertReset torn s).floor.queue = s.floor.queue ∧
      (assertReset torn s).tables = s.tables := by
  simp only [assertReset]
  split
  · next inReset => exact ⟨inReset, rfl, rfl⟩
  · exact ⟨rfl, rfl, rfl⟩

/-- Every command keeps what `State.Keeps` says, but for the register that a reset tears. -/
theorem CameTo.keeps {s t : State} (h : CameTo s t) :
    s.Keeps t ∨ t.inReset = true ∧ t.floor.queue = s.floor.queue ∧ t.tables = s.tables := by
  cases h with
  | arrival => exact .inl (arrive_keeps (.refl s))
  | due => exact .inl (takeDue_keeps (.refl s))
  | own op keeps => exact .inl (ownEvent_keeps (.refl s) fun kept => kept.trans (keeps _))
  | now op keeps => exact .inl (takeNow_keeps (.refl s) fun kept => kept.trans (keeps _))
  | second => exact .inl (timeBaseSecond_keeps (.refl s))
  | reset torn => exact .inr (assertReset_keeps torn s)

/-- A step idles, or is a command on the state with the queue's rest: the end of power-on reset, or another. -/
theorem step_cases {s t : State} (h : step s = .next t) :
    t = s ∨ (∃ rest straps held, t = endPowerOn straps held { s with pending := rest }) ∨
      ∃ rest, CameTo { s with pending := rest } t := by
  unfold step at h
  split at h
  · exact .inl (Host.Outcome.next.inj h).symm
  · next i rest _ =>
    by_cases powerOn : ∃ straps held, i = .powerOnReset straps held
    · obtain ⟨straps, held, rfl⟩ := powerOn
      exact .inr (.inl ⟨rest, straps, held, (Host.Outcome.next.inj h).symm⟩)
    · obtain ⟨u, came, how⟩ := exec_cameTo i { s with pending := rest } fun a b e => powerOn ⟨a, b, e⟩
      obtain rfl := Host.Outcome.next.inj (came.symm.trans h)
      exact .inr (.inr ⟨rest, how⟩)

theorem step_keeps {s t : State} (h : step s = .next t) :
    s.Keeps t ∨ t.inReset = true ∧ t.floor.queue = s.floor.queue ∧ t.tables = s.tables := by
  have rested (rest : List Instr) : s.Keeps { s with pending := rest } := (State.Keeps.refl s).same rfl rfl rfl
  obtain rfl | ⟨rest, straps, held, rfl⟩ | ⟨rest, how⟩ := step_cases h
  · exact .inl (.refl _)
  · exact .inl ((rested rest).trans endPowerOn_keeps)
  · exact how.keeps.imp (rested rest).trans id

theorem step_queueSound {s t : State} (h : step s = .next t) (sound : s.floor.queue.Sound) : t.floor.queue.Sound := by
  obtain kept | ⟨-, same, -⟩ := step_keeps h
  · exact kept.floor.queue sound
  · exact same ▸ sound

/-! ### The output lines -/

section Lines

variable {s t : State}

theorem takeDue_follow {i : Instr} {op : State → State} (h : s.LinesFollow) : (takeDue i op s).LinesFollow := by
  simp only [takeDue]
  split_ifs
  · exact h
  · exact finish_follow _ _
  · exact h

theorem ownEvent_follow {op : State → State} (h : s.LinesFollow) : (ownEvent op s).LinesFollow := by
  simp only [ownEvent]
  split_ifs
  · exact h
  · exact finish_follow _ _

theorem CameTo.follow (h : CameTo s t) (follow : s.LinesFollow) : t.LinesFollow := by
  cases h with
  | arrival slot ff =>
    simp only [arrive]
    split_ifs
    · exact follow
    · exact finish_follow _ _
  | due => exact takeDue_follow follow
  | own => exact ownEvent_follow follow
  | now =>
    simp only [takeNow]
    split_ifs
    · exact follow
    · exact finish_follow _ _
  | second =>
    simp only [timeBaseSecond]
    split_ifs
    · exact follow
    all_goals exact finish_follow _ _
  | reset torn =>
    simp only [assertReset]
    split_ifs
    · exact follow
    · rfl

theorem linesOf_permits (s : State) (k : Fin 2) : (linesOf s).permits[k] = permit s.env s.floor k := by
  fin_cases k <;> rfl

theorem firingConsent_of_permit {k : Fin 2} (h : permit s.env s.floor k = true) : s.FiringConsent k := by
  simp only [permit, Ctx.firing, Point.usable, Bool.and_eq_true, Bool.or_eq_true, beq_iff_eq, bne_iff_ne,
    Option.isSome_iff_exists] at h
  obtain ⟨⟨⟨⟨firing, pos, held⟩, notCool⟩, usable⟩, up⟩ := h
  refine ⟨firing, ⟨pos, held, ?_⟩, usable, up⟩
  rwa [Ctx.fields, held] at notCool

theorem consent_of_high (follow : s.LinesFollow) (k : Fin 2) (high : s.pins.permits[k] = true) :
    s.inReset = false ∧ s.FiringConsent k := by
  rw [follow, State.lines] at high
  split at high
  · simp [linesInReset] at high
  · next awake =>
    refine ⟨by simpa using awake, firingConsent_of_permit ?_⟩
    rw [linesOf_permits] at high
    exact high

end Lines

/-! ### The statements -/

/-- Settles O46. -/
theorem queueKeepsItsBounds : Obligations.QueueKeepsItsBounds := by
  refine ⟨fun s t h bounded distinct => ?_, fun e code index v f => ⟨?_, ?_, ?_⟩, fun q c bounded distinct => ?_⟩
  · have sound := step_queueSound h ⟨bounded, distinct⟩
    exact ⟨sound.bounded, sound.distinct⟩
  · exact raiseEvent_transparent _ _ _
  · intro operating room
    rw [raiseEvent_operating _ _ _ operating, Queue.offerEvent, if_pos room]
    rfl
  · intro operating full
    rw [raiseEvent_operating _ _ _ operating, Queue.offerEvent, if_neg full]
  · have sound : q.Sound := ⟨bounded, distinct⟩
    have command := sound.command c
    have trip := sound.trip c
    have reply := sound.reply c
    have event := sound.event c
    exact ⟨command.bounded, command.distinct, trip.bounded, trip.distinct, reply.bounded, reply.distinct, event.bounded,
      event.distinct, fun _ _ popped => ⟨(sound.popped popped).bounded, (sound.popped popped).distinct⟩,
      offerCommand_merges, offerReply_full c, offerEvent_full c⟩

/-- Settles O57. -/
theorem permitsNeedConsent : Obligations.PermitsNeedConsent := by
  intro s t h follow
  have after : t.LinesFollow := by
    obtain rfl | ⟨rest, straps, held, rfl⟩ | ⟨rest, how⟩ := step_cases h
    · exact follow
    · exact setLines_follow _
    · exact how.follow follow
  exact ⟨after, consent_of_high after⟩

/-- Settles O58. -/
theorem banksStayCanonical : Obligations.BanksStayCanonical := by
  intro s t h canonical
  obtain kept | ⟨-, -, same⟩ := step_keeps h
  · exact kept.banks canonical
  · rw [State.BanksCanonical, same]
    exact canonical

/-- Settles O59. -/
theorem readyChainStaysSound : Obligations.ReadyChainStaysSound := by
  intro s t h _ awake sound
  obtain kept | ⟨inReset, -⟩ := step_keeps h
  · exact kept.floor.register sound
  · exact absurd inReset (by simp [awake])

/-- Settles O1. -/
theorem stepTakesFrontCommand : Obligations.StepTakesFrontCommand := fun _ _ _ => ⟨rfl, rfl⟩

/-- Settles O60. -/
theorem resetMeetsTheInvariants : Obligations.ResetMeetsTheInvariants := by
  have follow : State.reset.LinesFollow := by rfl
  have unset : State.reset.floor.register.state = .unset := rfl
  refine ⟨follow, fun k high => (consent_of_high follow k high).2, ⟨rfl, rfl⟩, Queue.Sound.initial.bounded,
    Queue.Sound.initial.distinct, fun ready => ?_, rfl, rfl⟩
  cases unset.symm.trans ready

end Sys2Proof.Machine

/-! SUPPORT. Resets (R13, R207), and slots of the loop whose arrival does no work on the floor (R4, R5, R9, R10, R11, R23, R51). -/

namespace Sys2Proof.Machine

/-! ### Resets -/

/-- R13, R207: RESET# goes low. -/
theorem assertReset_awake {torn : Option Retained} {s : State} (awake : s.inReset = false) :
    assertReset torn s =
      { s with
        inReset := true
        pins := linesInReset
        due := []
        floor := { s.floor with register := tornRegister torn s.floor.register } } := by
  simp [assertReset, awake]

/-- Settles O2: RESET# low by its definition; in reset every command finds the part inert. -/
theorem resetSilencesThePart : Obligations.ResetSilencesThePart := by
  refine ⟨fun torn s awake => ?_, fun i s reset other => ?_⟩
  · rw [show exec (.resetAssert torn) s = .next (assertReset torn s) from rfl, assertReset_awake awake]
    cases torn <;> rfl
  · obtain ⟨t, came, how⟩ := exec_cameTo i s other
    rw [came, how.inReset reset]

/-- R188: no kiln of a part at the end of power-on reset has its permit high. -/
theorem linesOf_powerOn_permits (straps : Byte) (r : Register) (pending : List Instr) :
    (linesOf (State.powerOn straps r pending)).permits = .replicate 2 false := rfl

/-- R207: what the retained memory and the retention indication make of the register. -/
theorem registerPowerOn_cases (m : Retained) (held : Bool) :
    let r := Register.powerOn m held
    (held = false → r.state = .unset ∧ r.retained.records = [] ∧ r.retained.next = 0 ∧ r.retained.baseCheck = 0xFFFF#16 ∧
      r.retained.based = false) ∧
    (held = true → r.retained = { m with
      records := if m.valid = true ∧ m.based = true then m.records else m.records.take 256
      next := min (2 ^ 32) m.next }) ∧
    (held = true → m.valid = false → r.state = .faulted ∧ r.firstFailed = some 256) ∧
    (held = true → m.valid = true → m.based = false → m.records = [] → r.state = .unset) ∧
    (held = true → m.valid = true → m.based = false → m.records ≠ [] → r.state = .faulted ∧ r.firstFailed = some 256) ∧
    (held = true → m.valid = true → m.based = true → r.state = .checking) := by
  cases held with
  | false => simp [Register.powerOn, Register.unsetState, retainedCleared]
  | true =>
    cases valid : m.valid with
    | false => simp [Register.powerOn, boundedRecords, valid]
    | true =>
      cases based : m.based with
      | true => simp [Register.powerOn, valid, based]
      | false =>
        by_cases empty : m.records = []
        · simp [Register.powerOn, valid, based, empty]
        · simp [Register.powerOn, boundedRecords, valid, based, empty]

/-- Settles O3: the state that every block is set to, and the register by cases on what is retained. -/
theorem powerOnResetLeaves : Obligations.PowerOnResetLeaves := by
  refine ⟨fun straps held s => ⟨_, rfl, rfl, rfl, rfl, linesOf_powerOn_permits .., rfl, rfl, rfl, rfl, rfl, ?_⟩,
    fun straps held s => ⟨_, rfl, registerPowerOn_cases s.floor.register.retained held⟩⟩
  have unreserved : (Register.powerOn s.floor.register.retained held).reservations = [] := by
    simp only [Register.powerOn, Register.unsetState]
    (repeat' split) <;> rfl
  refine ⟨?_, ?_, ?_, rfl, ?_, ?_, ?_, ?_, rfl, ?_, unreserved⟩
  all_goals
    intro i
    exact Vector.getElem_replicate i.isLt

/-! ### Slots that do no work on the floor -/

theorem captureSlot_eq (why : CaptureReason) (slot : Slot) (s : State) :
    captureSlot why slot s = { s with capture := capturedBy s.capture s.time why slot } := by
  simp only [captureSlot, capture, capturedBy]
  split <;> rfl

theorem setCapture_quiet (c : Capture) : QuietWork fun t => { t with capture := c } := by
  constructor <;> intro t <;> rfl

/-- R215: the process clock is read by no line and no owner. -/
theorem setClock_quiet (t : Word) : QuietWork (setClock t) := by
  constructor <;> intro t <;> rfl

/-- R9: a TIME cell that meets the part. -/
theorem handleSlot_time {slot : Slot} {s : State} (h : s.Meets slot 4#8) : handleSlot slot s = timeCellArrives slot s := by
  obtain ⟨present, good, full, kind, source, dest⟩ := h
  simp [handleSlot, handleGood, present, good, full, kind, source, dest, codeMarked]

section Arrivals

variable {slot : Slot} {ff : Bool} {s : State}

/-- A good or EMPTY slot that is taken off the loop for a quiet work. -/
theorem arrive_takenOff (awake : s.Awake) (steady : s.GoodSteady) (lines : s.LinesFollow) (good : classify slot ≠ .bad)
    {op : State → State} (quiet : QuietWork op)
    (handled : ∀ t : State, t.tables = s.tables → t.loop.node = s.loop.node → t.capture = s.capture → t.time = s.time →
      t.retries = s.retries → t.second = s.second → t.points = s.points →
      t.floor = { s.floor with queue := t.floor.queue } → t.env = s.env → handleSlot slot t = (op t, none)) :
    arrive slot ff s = s.takenOff slot ff op := by
  rw [arrive_awake slot ff s awake, passSlot_takenOff slot ff s good steady op handled,
    finish_takenOff s slot ff op lines quiet]

/-- A good slot that is passed on with a quiet work, to which the out-port makes no difference. -/
theorem arrive_forwards (awake : s.Awake) (steady : s.GoodSteady) (lines : s.LinesFollow) (good : classify slot ≠ .bad)
    {op : State → State} (quiet : QuietWork op) (out : Slot)
    (port : op (s.passedOn out) = { op (s.counted false) with outPort := some out })
    (handled : handleSlot slot (s.counted false) = (op (s.counted false), some out)) :
    arrive slot ff s = op (s.passedOn out) := by
  rw [arrive_awake slot ff s awake, passSlot_forward slot ff s _ good steady out handled, ← port,
    finish_passedOn_quiet s out lines quiet]

/-- A good slot that is passed on with no work. -/
theorem arrive_passedOn (awake : s.Awake) (steady : s.GoodSteady) (lines : s.LinesFollow) (good : classify slot ≠ .bad)
    (out : Slot) (handled : handleSlot slot (s.counted false) = (s.counted false, some out)) :
    arrive slot ff s = s.passedOn out :=
  arrive_forwards awake steady lines good id_quiet out rfl handled

/-- R10, R14: an EMPTY slot in either mode. -/
theorem handleSlot_empty (empty : classify slot = .empty) : handleSlot slot s = (s, none) := by
  simp [handleSlot, handleTransparent, empty]

theorem arrive_empty (awake : s.Awake) (steady : s.GoodSteady) (lines : s.LinesFollow) (empty : classify slot = .empty) :
    arrive slot ff s = s.takenOff slot ff id :=
  arrive_takenOff awake steady lines (by simp [empty]) id_quiet fun _ _ _ _ _ _ _ _ _ _ => handleSlot_empty empty

/-- R10: a slot that is filled from the queue, the count before or after. -/
theorem takenOff_id_filled {c : QCell} {q : Queue} (head : s.floor.queue.pop = some (c, q)) :
    s.takenOff slot ff id = { s.passedOn (insertedSlot s c) with floor := { s.floor with queue := q } } := by
  cases ff <;> simp [State.takenOff, fillSlot, State.counted, countRuns, silenceTime, head, State.passedOn, insertedSlot]

theorem takenOff_id_unfilled (none : s.floor.queue.pop = none) :
    s.takenOff slot ff id = s.passedOn (unfilledSlot s slot) := by
  cases ff <;> simp [State.takenOff, fillSlot, State.counted, countRuns, none, State.passedOn, unfilledSlot]

/-- R4, R14: a bad cell in a steady loop, the slot filled before or after the counting and the capture. -/
theorem passSlot_bad (steady : s.BadSteady) (present : s.tables.present = true) (bad : classify slot = .bad) :
    passSlot slot ff s =
      { (fillSlot slot s).1.counted true with
        capture := capturedBy s.capture s.time .badCell slot
        outPort := some (fillSlot slot s).2 } := by
  have handled (t : State) (tables : t.tables = s.tables) :
      handleSlot slot t = ({ t with capture := capturedBy t.capture t.time .badCell slot }, none) := by
    simp [handleSlot, tables, present, bad, captureSlot_eq]
  have first := handled (s.counted true) rfl
  have steady' : (fillSlot slot s).1.BadSteady := by
    rw [fillSlot_fields]
    exact steady
  have second := handled ((fillSlot slot s).1.counted true) (by rw [fillSlot_fields]; rfl)
  simp only [passSlot, countSlot_bad slot s bad steady, countSlot_bad slot _ bad steady', first, second]
  simp only [fillSlot]
  cases head : s.floor.queue.pop <;> cases ff <;>
    simp [State.counted, countRuns, silenceTime, head, insertedSlot, unfilledSlot, bad]

theorem arrive_bad (awake : s.Awake) (steady : s.BadSteady) (lines : s.LinesFollow) (present : s.tables.present = true)
    (bad : classify slot = .bad) :
    arrive slot ff s =
      { (fillSlot slot s).1.counted true with
        capture := capturedBy s.capture s.time .badCell slot
        outPort := some (fillSlot slot s).2 } := by
  rw [arrive_awake slot ff s awake, passSlot_bad steady present bad]
  exact finish_of_endInputs lines (fillSlot_endInputs slot s)

end Arrivals

/-- Settles O4: the EMPTY slot, the bad cell and the capture record, with the queue's head or without. -/
theorem emptyAndBadSlotsAreFilled : Obligations.EmptyAndBadSlotsAreFilled := by
  refine ⟨fun slot ff s awake steady lines empty => ⟨fun c q head => ?_, fun none => ?_⟩,
    fun slot ff s awake steady lines present bad => ⟨fun c q head => ?_, fun none => ?_⟩, fun c now why slot => ⟨?_, ?_, ?_⟩⟩
  · refine congrArg Host.Outcome.next ((arrive_empty awake steady lines empty).trans ?_)
    exact takenOff_id_filled head
  · refine congrArg Host.Outcome.next ((arrive_empty awake steady lines empty).trans ?_)
    rw [takenOff_id_unfilled none]
    cases present : s.tables.present <;> simp [unfilledSlot, present, empty]
  · refine congrArg Host.Outcome.next ((arrive_bad awake steady lines present bad).trans ?_)
    simp only [fillSlot, head]
    rfl
  · refine congrArg Host.Outcome.next ((arrive_bad awake steady lines present bad).trans ?_)
    simp [fillSlot, none, unfilledSlot, bad]
  · intro first
    simp [capturedBy, first]
  · intro later room
    rw [capturedBy, if_neg later]
    congr 1
    omega
  · intro later full
    rw [capturedBy, if_neg later, full]
    cases c
    exact congrArg (Capture.mk _ _ _ _ _ _) full.symm

/-- Settles O5: a good cell by its source, slot byte, destination and kind. -/
theorem cellForwardedOrStripped : Obligations.CellForwardedOrStripped := by
  refine ⟨fun slot ff s awake steady lines present good => ⟨?own, ?orphan, ?badKind, ?forward⟩,
    fun slot ff s awake steady lines present good full kind source dest => ⟨?station, ?other⟩⟩
  all_goals have fine : classify slot ≠ .bad := by simp [good]
  case own =>
    intro source
    refine congrArg Host.Outcome.next (arrive_takenOff awake steady lines fine id_quiet ?_)
    intro t tables node _ _ _ _ _ _ _
    simp [handleSlot, handleGood, tables, node, present, good, source]
  case orphan =>
    intro source marked
    refine congrArg Host.Outcome.next (arrive_takenOff awake steady lines fine (setCapture_quiet _) ?_)
    intro t tables node capture time _ _ _ _ _
    simp [handleSlot, handleGood, tables, node, present, good, source, marked, codeMarked, captureSlot_eq, capture, time]
  case badKind =>
    intro source full dest kind
    refine congrArg Host.Outcome.next (arrive_takenOff awake steady lines fine (setCapture_quiet _) ?_)
    intro t tables node capture time _ _ _ _ _
    rw [← dest] at source node
    simp [handleSlot, handleGood, tables, node, present, good, source, full, kind, codeMarked, captureSlot_eq, capture,
      time]
  case forward =>
    intro source full dest sample command time
    refine congrArg Host.Outcome.next (arrive_passedOn awake steady lines fine _ ?_)
    simp [handleSlot, handleGood, State.counted, countRuns, present, good, source, full, dest, sample, command, time,
      codeMarked, Slot.marked]
  case station =>
    intro station
    refine congrArg Host.Outcome.next (arrive_forwards awake steady lines fine (setClock_quiet slot.value) _ rfl ?_)
    rw [handleSlot_time (s := s.counted false) ⟨present, good, full, kind, source, dest⟩]
    exact congrArg (·, some (Slot.marked slot)) (if_pos station)
  case other =>
    intro other
    refine congrArg Host.Outcome.next (arrive_passedOn awake steady lines fine _ ?_)
    rw [handleSlot_time (s := s.counted false) ⟨present, good, full, kind, source, dest⟩]
    exact congrArg (·, some (Slot.marked slot)) (if_neg other)

/-! ### TRANSPARENT mode, and commands of other nodes -/

/-- Settles O6: a slot that is no request and not EMPTY is only counted. -/
theorem transparentSlotPassesUnchanged : Obligations.TransparentSlotPassesUnchanged := by
  intro slot ff s awake lines transparent
  refine ⟨fun bad steady => ?_, fun good steady request => ?_⟩
  · have handled : handleSlot slot (s.counted true) = (s.counted true, some slot) := by
      simp [handleSlot, handleTransparent, State.counted, countRuns, transparent, bad]
    refine congrArg Host.Outcome.next ((arrive_awake slot ff s awake).trans ?_)
    simp only [passSlot, countSlot_bad slot s bad steady, handled]
    exact finish_of_endInputs lines rfl
  · have passes : arrive slot ff s = s.passedOn slot := by
      refine arrive_passedOn awake steady lines (by simp [good]) slot ?_
      have unserved : ¬(classify slot = .good ∧ slot.code = codeFull ∧ isRequest (s.counted false) slot = true) := by
        simpa [codeFull, isRequest, State.counted, countRuns, State.nodeValid, good, and_assoc] using request
      have present : (s.counted false).tables.present = false := transparent
      simp only [handleSlot, present, handleTransparent, if_neg unserved]
      simp [good]
    exact ⟨congrArg _ passes, congrArg _ passes, congrArg _ passes, congrArg _ passes⟩

/-- Settles O8: a command into a judged window is denied and answered; into another it is forwarded. -/
theorem commandDeniedOrForwarded : Obligations.CommandDeniedOrForwarded := by
  intro slot ff s awake steady lines arrives b judged
  refine ⟨fun window source => ?_, fun other => ?_⟩
  · refine congrArg Host.Outcome.next (arrive_takenOff awake steady lines (meets_good arrives)
      ((setCapture_quiet _).comp (told_quiet _ _ _ _ _)) ?_)
    intro t tables node capture time _ _ _ _ _
    have dest := (guarded_iff b slot.dest).mpr window
    have denied : commandArrives slot t = (denyCommand slot t, none) := by
      simp only [commandArrives, tables]
      rw [if_pos dest, if_neg source]
    have captured : denyCommand slot t = (captureSlot .denied slot t).told slot.source slot.func slot.tag slot.value.toInt
        Status.denied.code := rfl
    rw [handleSlot_command (meets_congr arrives tables node), denied, captured, captureSlot_eq, capture, time]
  · refine congrArg Host.Outcome.next (arrive_passedOn awake steady lines (meets_good arrives) _ ?_)
    have unguarded : ¬guarded b slot.dest = true := fun dest => other ((guarded_iff b slot.dest).mp dest)
    rw [handleSlot_command (meets_congr (t := s.counted false) arrives rfl rfl)]
    exact if_neg unguarded

end Sys2Proof.Machine

/-! SUPPORT. The RETRY verdict and the retry list (R59, R60, R61). -/

namespace Sys2Proof.Machine

/-! ### The entry with the earliest last attempt -/

/-- A search that keeps the best so far, over a rising list whose members follow the best: what is found is least, and the first
such. -/
theorem foldl_earliest {n : Nat} (f : Fin n → Nat) (l : List (Fin n)) (best : Fin n) (rising : l.Pairwise (· < ·))
    (follow : ∀ k ∈ l, best ≤ k) (seen : ∀ j, j ∉ l → f best ≤ f j ∧ (j < best → f best < f j)) (j : Fin n) :
    let found := l.foldl (fun best i => if f i < f best then i else best) best
    f found ≤ f j ∧ (j < found → f found < f j) := by
  induction l generalizing best with
  | nil => exact seen j List.not_mem_nil
  | cons i rest ih =>
    obtain ⟨above, rising⟩ := List.pairwise_cons.mp rising
    rw [List.foldl_cons]
    split
    · next better =>
      refine ih i rising (fun k hk => (above k hk).le) fun j unseen => ?_
      by_cases same : j = i
      · subst same
        exact ⟨le_rfl, fun h => absurd h (lt_irrefl _)⟩
      · have least := (seen j (by simp [same, unseen])).1
        exact ⟨by omega, fun _ => by omega⟩
    · next worse =>
      have first : best ≤ i := follow i (by simp)
      refine ih best rising (fun k hk => follow k (by simp [hk])) fun j unseen => ?_
      by_cases same : j = i
      · subst same
        exact ⟨by omega, fun h => absurd first (not_le.mpr h)⟩
      · exact seen j (by simp [same, unseen])

/-- R61: the entry with the earliest last attempt, the lowest-numbered of several. -/
theorem retryOldest_eq {s : State} {i : Fin 8}
    (earliest : ∀ j : Fin 8, retryLast s i ≤ retryLast s j ∧ (j < i → retryLast s i < retryLast s j)) : retryOldest s = i := by
  have found := foldl_earliest (retryLast s) (List.finRange 8) 0 (List.pairwise_lt_finRange 8) (fun k _ => Fin.zero_le k)
    (fun j unseen => absurd (List.mem_finRange j) unseen)
  change ∀ j, retryLast s (retryOldest s) ≤ retryLast s j ∧
    (j < retryOldest s → retryLast s (retryOldest s) < retryLast s j) at found
  obtain ⟨mine, before⟩ := earliest (retryOldest s)
  obtain ⟨its, before'⟩ := found i
  refine le_antisymm (not_lt.mp fun h => ?_) (not_lt.mp fun h => ?_)
  · have := before' h
    omega
  · have := before h
    omega

/-! ### What the verdict does to the list -/

section Verdict

variable {slot : Slot} {limit : Nat} {s t : State}

theorem retryFind_congr (retries : t.retries = s.retries) (source dest func : Byte) :
    retryFind t source dest func = retryFind s source dest func := by rw [retryFind, retryFind, retries]

theorem retryPlace_congr (retries : t.retries = s.retries) : retryPlace t = retryPlace s := by
  have last : retryLast t = retryLast s := funext fun i => by rw [retryLast, retryLast, retries]
  rw [retryPlace, retryPlace, retryOldest, retryOldest, retries, last]

theorem retryVerdict_refuses : retryVerdict slot 0 s = s.told slot.source slot.func slot.tag slot.value.toInt
    Status.refused.code := rfl

/-- R59, R61: a command without an entry takes a place. -/
theorem retryVerdict_takes (some : 0 < limit) (absent : retryFind s slot.source slot.dest slot.func = none) :
    retryVerdict slot limit s =
      ({ s with retries := s.retries.set (retryPlace s) (.some ⟨slot.source, slot.dest, slot.func, 1, s.second⟩) } : State).told
        slot.source slot.func slot.tag 1 Status.retry.code := by
  simp only [retryVerdict, if_neg some.ne', absent, interlockReply_told]

variable {i : Fin 8} {x : Retry}

/-- R60: a further attempt within the limit. -/
theorem retryVerdict_counts (some : 0 < limit) (found : retryFind s slot.source slot.dest slot.func = .some i)
    (entry : s.retries[i] = .some x) (room : x.count < limit) :
    retryVerdict slot limit s =
      ({ s with retries := s.retries.set i (.some { x with count := x.count + 1, last := s.second }) } : State).told
        slot.source slot.func slot.tag (x.count + 1 : Nat) Status.retry.code := by
  simp only [retryVerdict, if_neg some.ne', found, entry]
  rw [if_pos (by omega)]
  rfl

/-- R60: an attempt beyond the limit. -/
theorem retryVerdict_exhausts (some : 0 < limit) (found : retryFind s slot.source slot.dest slot.func = .some i)
    (entry : s.retries[i] = .some x) (beyond : limit ≤ x.count) :
    retryVerdict slot limit s =
      ({ s with
        retries := s.retries.set i none
        capture := capturedBy s.capture s.time .retryExhausted slot } : State).told
        slot.source slot.func slot.tag slot.value.toInt Status.refused.code := by
  simp only [retryVerdict, if_neg some.ne', found, entry]
  rw [if_neg (by omega)]
  exact congrArg (State.told · _ _ _ _ _) (captureSlot_eq .retryExhausted slot _)

end Verdict

/-- A change of the retry list and of the capture record is read by no line and no owner. -/
theorem setRetries_quiet (retries : Vector (Option Retry) 8) : QuietWork fun t => { t with retries := retries } := by
  constructor <;> intro t <;> rfl

/-- R59: a RETRY verdict strips the command, with whatever its verdict does. -/
theorem State.Judges.retries {slot : Slot} {ff : Bool} {s : State} (h : s.Judges slot)
    (verdict : judge s.env s.floor slot.dest slot.func = .retry) {w : Nat} (window : s.tables.active.windowOf slot.dest = some w)
    {op : State → State} (quiet : QuietWork op)
    (does : ∀ t : State, t.retries = s.retries → t.second = s.second → t.capture = s.capture → t.time = s.time →
      retryVerdict slot (s.tables.active.retryLimit w) t = op t) :
    exec (.commandCell slot ff) s = .next (s.takenOff slot ff op) := by
  refine congrArg Host.Outcome.next (arrive_takenOff h.awake h.steady h.lines (meets_good h.arrives) quiet ?_)
  intro t tables node capture time retries second _ floor env
  rw [h.handled tables node]
  simp only [judgeCommand, env]
  rw [floor, judge_queue, verdict]
  simp only [tables, limitOf, window]
  rw [does t retries second capture time]

/-- Settles O11: by the limit and the entry of the command's key. -/
theorem retryVerdictCounts : Obligations.RetryVerdictCounts := by
  intro slot ff s w awake steady lines arrives b window source verdict covers answer
  have judges : s.Judges slot := ⟨awake, steady, lines, arrives, (guarded_iff b slot.dest).mpr window, source⟩
  have takes (i : Fin 8) (some : 0 < b.retryLimit w) (absent : retryFind s slot.source slot.dest slot.func = none)
      (place : retryPlace s = i) :
      exec (.commandCell slot ff) s = .next (s.takenOff slot ff fun t =>
        answer .retry 1 { t with
          retries := s.retries.set i (.some ⟨slot.source, slot.dest, slot.func, 1, s.second⟩) }) := by
    refine judges.retries verdict covers ((setRetries_quiet _).comp (told_quiet _ _ _ _ _)) ?_
    intro t retries second _ _
    rw [retryVerdict_takes some ((retryFind_congr retries _ _ _).trans absent)]
    simp only [retryPlace_congr retries, place, retries, second]
    rfl
  refine ⟨fun limit => ?_, fun i some absent free => ?_, fun i some absent full earliest => ?_,
    fun i x some found entry => ⟨fun room => ?_, fun beyond => ?_⟩⟩
  · exact judges.retries verdict covers (told_quiet _ _ _ _ _) fun t _ _ _ _ => limit ▸ retryVerdict_refuses
  · exact takes i some absent (by simp only [retryPlace, free])
  · exact takes i some absent (by simp only [retryPlace, full, retryOldest_eq earliest])
  · refine judges.retries verdict covers ((setRetries_quiet _).comp (told_quiet _ _ _ _ _)) ?_
    intro t retries second _ _
    rw [retryVerdict_counts some ((retryFind_congr retries _ _ _).trans found) (retries ▸ entry) room, retries, second]
  · refine judges.retries verdict covers
      (((setRetries_quiet _).comp (setCapture_quiet _)).comp (told_quiet _ _ _ _ _)) ?_
    intro t retries _ capture time
    rw [retryVerdict_exhausts some ((retryFind_congr retries _ _ _).trans found) (retries ▸ entry) beyond, retries, capture, time]

end Sys2Proof.Machine

/-! SUPPORT. Requests to the Station Dialogue: what one finds as it arrives, the end of one served on the floor, and the functions
that only answer or set a register of the part (R14, R211, R212, R215, R220, R91). -/

namespace Sys2Proof.Machine

/-! ### What a request finds -/

/-- R10: the queue once an EMPTY slot has taken its head. -/
def Queue.filled (q : Queue) : Queue := (q.pop.map (·.2)).getD q

def Floor.filled (f : Floor) : Floor := { f with queue := f.queue.filled }

theorem fillSlot_floor (slot : Slot) (s : State) : (fillSlot slot s).1 = { s with floor := s.floor.filled } := by
  simp only [fillSlot, Floor.filled, Queue.filled]
  cases head : s.floor.queue.pop <;> simp

/-- The state in which the function of a request is carried out: counted, and the queue as it stood or without its head. -/
structure State.Arrived (s t : State) : Prop where
  same : t = { s.counted false with floor := { s.floor with queue := t.floor.queue } }
  queue : t.floor.queue = s.floor.queue ∨ t.floor.queue = s.floor.queue.filled

theorem arrived_counted (s : State) : s.Arrived (s.counted false) := ⟨rfl, .inl rfl⟩

theorem arrived_filled (slot : Slot) (s : State) : s.Arrived ((fillSlot slot s).1.counted false) := by
  rw [fillSlot_floor]
  exact ⟨rfl, .inr rfl⟩

namespace State.Arrived

variable {s t : State}

theorem env (h : s.Arrived t) : t.env = s.env := by rw [h.same]; rfl

theorem tables (h : s.Arrived t) : t.tables = s.tables := by rw [h.same]; rfl

theorem capture (h : s.Arrived t) : t.capture = s.capture := by rw [h.same]; rfl

theorem time (h : s.Arrived t) : t.time = s.time := by rw [h.same]; rfl

theorem second (h : s.Arrived t) : t.second = s.second := by rw [h.same]; rfl

theorem points (h : s.Arrived t) : t.points = s.points := by rw [h.same]; rfl

theorem polls (h : s.Arrived t) : t.polls = s.polls := by rw [h.same]; rfl

theorem node (h : s.Arrived t) : t.loop.node = s.loop.node := by rw [h.same]; rfl

theorem floor (h : s.Arrived t) : t.floor = { s.floor with queue := t.floor.queue } := by rw [h.same]

theorem ctx (h : s.Arrived t) (u : PlantUnit) : t.floor.ctx u = s.floor.ctx u := by
  rw [h.floor]
  cases u <;> rfl

end State.Arrived

section Requests

variable {fn : Function} {r : Req} {s : State}

/-- Two works that agree on what the request finds agree on the slot taken off the loop. -/
theorem takenOff_congr_arrived (s : State) (slot : Slot) (ff : Bool) {op op' : State → State}
    (agree : ∀ t, s.Arrived t → op t = op' t) : s.takenOff slot ff op = s.takenOff slot ff op' := by
  simp only [State.takenOff, agree _ (arrived_filled slot s), agree _ (arrived_counted s)]

theorem takenOff_endInputs_arrived (s : State) (slot : Slot) (ff : Bool) {op : State → State}
    (keeps : ∀ t, s.Arrived t → (op t).endInputs = t.endInputs) : (s.takenOff slot ff op).endInputs = s.endInputs := by
  cases ff with
  | true => exact (keeps _ (arrived_filled slot s)).trans (by simp)
  | false => exact (fillSlot_endInputs ..).trans (keeps _ (arrived_counted s))

/-- A request whose function is, on what it finds, a work that leaves what the end of the event reads. -/
theorem exec_ready_does (h : s.Ready fn r) {op : State → State}
    (does : ∀ t, s.Arrived t → serveFunction fn { r with fillFirst := false } t = op t)
    (keeps : ∀ t, s.Arrived t → (op t).endInputs = t.endInputs) :
    exec (fn.command r) s = .next (s.afterRequest fn r op) := by
  rw [exec_ready fn r s h, State.afterRequest, takenOff_congr_arrived s _ _ does,
    finish_of_endInputs h.reaches.lines (takenOff_endInputs_arrived s _ _ keeps)]
  rfl

/-- The same for a quiet work. -/
theorem exec_ready_quietly (h : s.Ready fn r) {op : State → State} (quiet : QuietWork op)
    (does : ∀ t, s.Arrived t → serveFunction fn { r with fillFirst := false } t = op t) :
    exec (fn.command r) s = .next (s.afterRequest fn r op) :=
  exec_ready_does h does fun t _ => quiet.endInputs t

/-- A request that is answered and nothing else. -/
theorem exec_ready_told (h : s.Ready fn r) {st : Status} {v : Int}
    (does : ∀ t, s.Arrived t → serveFunction fn { r with fillFirst := false } t = t.answer fn r st v) :
    exec (fn.command r) s = .next (s.afterRequest fn r fun t => t.answer fn r st v) :=
  exec_ready_quietly h (answer_quiet fn r st v) does

/-- The floor after a request whose function is `op` on the floor, its slot filled before or after that work. -/
def requestFloor (ff : Bool) (op : Env → Floor → Floor) (e : Env) (f : Floor) : Floor :=
  if ff then op e f.filled else (op e f).filled

/-- A request that a block of the floor serves: the floor as the block leaves it, and the owners told. -/
theorem exec_ready_floor (h : s.Ready fn r) {op : Env → Floor → Floor}
    (serves : ∀ t, serveFunction fn { r with fillFirst := false } t = t.onFloor op) :
    ∃ t, exec (fn.command r) s = .next t ∧ s.ServedOn t ∧
      t.floor = tellOwners s.env s.floor s.env (requestFloor r.fillFirst op s.env s.floor) := by
  refine ⟨_, exec_ready fn r s h, ⟨?_, finish_follow _ _⟩, ?_⟩
  · cases ff : r.fillFirst <;> simp [finish, setLines, State.onFloor, State.afterRequest, State.takenOff, serves, ff,
      fillSlot_floor, State.counted, countRuns, silenceTime]
  · cases ff : r.fillFirst <;> simp [State.afterRequest, State.takenOff, serves, fillSlot_floor, requestFloor, ff] <;> rfl

/-- A floor with another queue. -/
def Floor.withQueue (f : Floor) (q : Queue) : Floor := { f with queue := q }

theorem requestFloor_eq (ff : Bool) (op : Env → Floor → Floor) (e : Env) (f : Floor) :
    ∃ q q', requestFloor ff op e f = (op e (f.withQueue q)).withQueue q' := by
  cases ff with
  | true => exact ⟨f.queue.filled, (op e f.filled).queue, rfl⟩
  | false => exact ⟨f.queue, (op e f).queue.filled, rfl⟩

end Requests

/-! ### Functions of the part itself -/

/-- Settles O20: TIME_SET and CAPTURE_CLEAR set a register of the part and answer. -/
theorem clockSetAndCaptureCleared : Obligations.ClockSetAndCaptureCleared := by
  refine fun r s => ⟨fun h => ?_, fun h => ?_⟩
  · exact exec_ready_quietly h ((setClock_quiet r.value).comp (answer_quiet .timeSet r .ok r.value.toNat)) fun _ _ => rfl
  · refine exec_ready_quietly h ((setCapture_quiet .cleared).comp (answer_quiet .captureClear r .ok s.capture.further)) ?_
    intro t arrived
    have served : serveFunction .captureClear { r with fillFirst := false } t =
        ({ t with capture := .cleared } : State).answer .captureClear r .ok t.capture.further := rfl
    rw [served, arrived.capture]
    rfl

/-! ### Codes and rights -/

theorem functionOf_eq_some (code : Byte) (fn : Function) : functionOf code = some fn ↔ fn.code = code := by
  constructor
  · intro named
    simpa using List.find?_some named
  · rintro rfl
    exact functionOf_code fn

theorem stationMay_iff (fn : Function) : fn.stationMay = true ↔ fn ∉ [Function.base, .take, .spot, .holdClear] := by
  cases fn <;> decide

theorem servedTransparent_iff (fn : Function) :
    fn.servedTransparent = true ↔ fn ∈ [Function.cursor, .write, .read, .clearShadow, .copyActive, .activate, .restart] := by
  cases fn <;> decide

theorem officerMay_iff (b : TableBank) (qual : Byte) (fn : Function) :
    fn.officerMay b qual = true ↔
      fn ∈ [Function.refresh, .base, .take, .spot, .holdSet, .holdClear] ∨
        (fn = .cursor ∧ 32 ≤ qual.toNat ∧ qual.toNat ≤ 40) ∨ (fn = .read ∧ 32 ≤ b.cursorNumber) := by
  cases fn <;> simp [Function.officerMay, TableBank.onView]

theorem mayCall_iff (s : State) (fn : Function) (r : Req) :
    mayCall s fn r = true ↔
      (s.tables.active.nodeClass r.source = .station ∧ fn ∉ [Function.base, .take, .spot, .holdClear]) ∨
        (s.tables.active.nodeClass r.source = .officer ∧
          (fn ∈ [Function.refresh, .base, .take, .spot, .holdSet, .holdClear] ∨
            (fn = .cursor ∧ 32 ≤ r.qual.toNat ∧ r.qual.toNat ≤ 40) ∨ (fn = .read ∧ 32 ≤ s.tables.cursorNumber))) := by
  rw [← stationMay_iff, ← officerMay_iff, mayCall]
  cases s.tables.active.nodeClass r.source <;> simp

section Turned

variable {r : Req} {s : State}

/-- A request that reaches the part is served, and its service is a quiet work. -/
theorem arriveRequest_quiet {code : Byte} (h : s.Reaches r) {op : State → State} (quiet : QuietWork op)
    (serves : ∀ t, s.Arrived t → serveManagement code { r with fillFirst := false } t = op t) :
    arriveRequest code r s = s.takenOff (mgmtSlot s.loop.node code r) r.fillFirst op := by
  rw [arriveRequest_reaches code r s h, takenOff_congr_arrived s _ _ serves, finish_takenOff s _ _ _ h.lines quiet]

/-- R23: the cell of a request is an offence. -/
theorem captureRequest_eq (why : CaptureReason) (fn : Function) (r : Req) (t : State) :
    captureRequest why fn r t =
      { t with capture := capturedBy t.capture t.time why (mgmtSlot t.loop.node fn.code r) } :=
  captureSlot_eq why (mgmtSlot t.loop.node fn.code r) t

end Turned

/-- Settles O14: the codes, the rights by class, and a request that is not served. -/
theorem rightsAndModeDecideService : Obligations.RightsAndModeDecideService := by
  refine ⟨⟨functionOf_eq_some, rfl, rfl, rfl, rfl, rfl, rfl, rfl, rfl⟩, fun fn r s => ⟨mayCall_iff s fn r, servedTransparent_iff fn⟩,
    fun r s h => ⟨fun code unknown => ?_, fun fn present barred => ?_, fun fn transparent unserved => ?_⟩⟩
  · refine congrArg Host.Outcome.next (arriveRequest_quiet h (told_quiet _ _ _ _ _) fun t _ => ?_)
    rw [serveManagement, unknown]
    rfl
  · refine (exec_command fn r s).trans (congrArg Host.Outcome.next
      (arriveRequest_quiet h ((setCapture_quiet _).comp (answer_quiet fn r .denied 0)) fun t arrived => ?_))
    have barred' : ¬mayCall t fn { r with fillFirst := false } = true := by
      simpa [mayCall, arrived.tables] using barred
    rw [serveManagement, functionOf_code]
    simp only [serveKnown, arrived.tables, present, if_true, if_neg barred', captureRequest_eq, arrived.capture, arrived.time,
      arrived.node]
    rfl
  · refine (exec_command fn r s).trans (congrArg Host.Outcome.next
      (arriveRequest_quiet h (answer_quiet fn r .notActive 0) fun t arrived => ?_))
    rw [serveManagement, functionOf_code]
    simp only [serveKnown, arrived.tables, transparent, unserved]
    rfl

/-! ### Unit commands that are turned away -/

section UnitCommands

variable {qual : Byte} {serve : PlantUnit → Floor → Floor × Answer} {answer : Status → Int → Floor → Floor} {f : Floor}

theorem unitCommand_unnamed (unnamed : unitOf qual.toNat = none) :
    unitCommand qual serve answer f = answer .badArgument 0 f := by
  simp only [unitCommand, unitOfByte, unnamed]

variable {u : PlantUnit}

theorem unitCommand_moving (named : unitOf qual.toNat = some u) (moving : (f.ctx u).state.moving = true) :
    unitCommand qual serve answer f = answer .busy 0 f := by
  simp only [unitCommand, unitOfByte, named, moving, if_true]

theorem unitCommand_served (named : unitOf qual.toNat = some u) (still : (f.ctx u).state.moving = false) :
    unitCommand qual serve answer f =
      answer (serve u f).2.status (if (serve u f).2.withState then ((serve u f).1.ctx u).replyValue else 0) (serve u f).1 := by
  simp [unitCommand, unitOfByte, named, still]

theorem unitCommand_refused (named : unitOf qual.toNat = some u) (still : (f.ctx u).state.moving = false)
    (refused : serve u f = (f, .refused)) : unitCommand qual serve answer f = answer .refused (f.ctx u).replyValue f := by
  rw [unitCommand_served named still, refused]
  rfl

end UnitCommands

/-- What a unit command does to its unit. -/
def serveUnit (fn : Function) (r : Req) (e : Env) (u : PlantUnit) (f : Floor) : Floor × Answer :=
  match fn with
  | .start => serveStart e (Req.upper r) (Req.lower r) u f
  | .hold => serveHoldUnit e u f
  | .resume => serveResume e u f
  | .manual => serveManual e u f
  | .auto => serveAuto e u f
  | .stopProgram => serveStopProgram e u f
  | _ => serveDiscard e u f

/-- R91: the unit commands. -/
def unitFunctions : List Function := [.start, .hold, .resume, .manual, .auto, .stopProgram, .discard]

theorem serveFunction_unit {fn : Function} (command : fn ∈ unitFunctions) (r : Req) (t : State) :
    serveFunction fn r t = t.onFloor fun e => unitCommand r.qual (serveUnit fn r e) (replyTo e fn r) := by
  simp only [unitFunctions, List.mem_cons, List.not_mem_nil, or_false] at command
  obtain rfl | rfl | rfl | rfl | rfl | rfl | rfl := command <;> rfl

/-- R91 to R98: the states in which a unit command is refused, but for START of an EMPTY vessel. -/
def refusedStates : List (Function × UnitState) :=
  [(.start, .empty), (.start, .running), (.start, .held), (.start, .manual), (.start, .done), (.start, .tripped),
    (.hold, .empty), (.hold, .loaded), (.hold, .manual), (.hold, .done), (.hold, .tripped), (.resume, .empty),
    (.resume, .loaded), (.resume, .manual), (.resume, .done), (.manual, .empty), (.manual, .tripped), (.stopProgram, .empty),
    (.stopProgram, .loaded), (.stopProgram, .done), (.discard, .empty), (.discard, .running), (.discard, .held),
    (.discard, .manual), (.discard, .tripped)]

theorem refusedStates_still : ∀ q ∈ refusedStates, q.2.moving = false := by decide

theorem serveUnit_refused {fn : Function} {r : Req} {e : Env} {u : PlantUnit} {f : Floor}
    (state : (fn, (f.ctx u).state) ∈ refusedStates)
    (notEmpty : fn = .start → ∀ v, u = .vessel v → (f.ctx u).state ≠ .empty) : serveUnit fn r e u f = (f, .refused) := by
  simp only [refusedStates, List.mem_cons, List.not_mem_nil, or_false, Prod.mk.injEq] at state
  rcases state with ⟨rfl, state⟩ | state
  · have noVessel : ∀ v, u ≠ .vessel v := fun v named => notEmpty rfl v named state
    cases u with
    | vessel v => exact absurd rfl (noVessel v)
    | box b => simp only [serveUnit, serveStart, state]
    | kiln k => simp only [serveUnit, serveStart, state]
  · rcases state with ⟨rfl, state⟩ | ⟨rfl, state⟩ | ⟨rfl, state⟩ | ⟨rfl, state⟩ | ⟨rfl, state⟩ | ⟨rfl, state⟩ | ⟨rfl, state⟩ |
      ⟨rfl, state⟩ | ⟨rfl, state⟩ | ⟨rfl, state⟩ | ⟨rfl, state⟩ | ⟨rfl, state⟩ | ⟨rfl, state⟩ | ⟨rfl, state⟩ | ⟨rfl, state⟩ |
      ⟨rfl, state⟩ | ⟨rfl, state⟩ | ⟨rfl, state⟩ | ⟨rfl, state⟩ | ⟨rfl, state⟩ | ⟨rfl, state⟩ | ⟨rfl, state⟩ | ⟨rfl, state⟩ |
      ⟨rfl, state⟩ <;>
    simp [serveUnit, serveStart, serveHoldUnit, serveResume, serveManual, manualResume, serveStopProgram, serveDiscard, state]

/-- Settles O22: no unit, a unit in a transfer, and a state that the command does not take. -/
theorem unitCommandsTurnedAway : Obligations.UnitCommandsTurnedAway := by
  refine fun fn r s command h => ⟨fun unnamed => ?_, fun u named moving => ?_, fun u named state notEmpty => ?_⟩
  all_goals
    refine exec_ready_told h fun t arrived => ?_
    rw [serveFunction_unit command]
    refine congrArg (fun f => { t with floor := f }) ?_
  · exact unitCommand_unnamed unnamed
  · refine unitCommand_moving named ?_
    rw [arrived.ctx, UnitState.moving_iff]
    simpa using moving
  · rw [← arrived.ctx] at state notEmpty ⊢
    exact unitCommand_refused named (refusedStates_still _ state) (serveUnit_refused state notEmpty)

end Sys2Proof.Machine

/-! SUPPORT. The poll list: REFRESH, and how an entry is answered (R41, R42, R43, R44, R45). -/

namespace Sys2Proof.Machine

/-! ### Answering an entry -/

/-- R213: the reply to a requester of a point's record. -/
def pollReply (p : Point) (second : Nat) (n : Byte × Byte) : QCell :=
  ⟨n.1, 6#8, 48#8, n.2, Word.ofValue p.value, BitVec.ofNat 8 (pointDetail p), second⟩

theorem answerRequester_eq (e : Env) (p : Point) (f : Floor) (n : Byte × Byte) :
    answerRequester e p f n = { f with queue := f.queue.offerReply (pollReply p e.second n) } := rfl

theorem answerRequesters_eq (e : Env) (p : Point) (l : List (Byte × Byte)) (f : Floor) :
    l.foldl (answerRequester e p) f =
      { f with queue := l.foldl (fun u n => u.offerReply (pollReply p e.second n)) f.queue } := by
  induction l generalizing f with
  | nil => rfl
  | cons n rest ih => rw [List.foldl_cons, List.foldl_cons, ih, answerRequester_eq]

theorem offerReplies_congested (p : Point) (second : Nat) (l : List (Byte × Byte)) (q : Queue) :
    (l.foldl (fun u n => u.offerReply (pollReply p second n)) q).congested = q.congested := by
  induction l generalizing q with
  | nil => rfl
  | cons n rest ih => rw [List.foldl_cons, ih, offerReply_congested]

section Answers

variable {s : State} {i : Fin 4} {q : Poll}

theorem answerPoll_entry (entry : s.polls[i] = some q) :
    answerPoll i s =
      { s with
        polls := s.polls.set i none
        floor := { s.floor with
          queue := q.requesters.foldl (fun u n => u.offerReply (pollReply s.points[q.point] s.second n)) s.floor.queue } } := by
  simp only [answerPoll, entry, answerRequesters_eq]
  rfl

/-- The answers are read by no line and no owner. -/
theorem answerPoll_endInputs : (answerPoll i s).endInputs = s.endInputs := by
  cases entry : s.polls[i] with
  | none => simp only [answerPoll, entry]
  | some q =>
    rw [answerPoll_entry entry]
    exact congrArg (fun c => { s.endInputs with congested := c }) (offerReplies_congested ..)

/-- The quality and the flags of a point, as R213 numbers them. -/
theorem pointDetail_eq (x : Point) :
    pointDetail x = 128 + (match x.quality with | .none => 0 | .fresh => 1 | .held => 2 | .stale => 3) +
      (if x.clamped then 4 else 0) + if x.suspect then 8 else 0 := by
  obtain ⟨value, quality, clamped, suspect, age⟩ := x
  cases quality <;> cases clamped <;> cases suspect <;> rfl

end Answers

/-- Settles O45: an entry answered by a sample and one at its deadline. -/
theorem pollsAreAnswered : Obligations.PollsAreAnswered := by
  intro s i q awake lines entry x quality detail answered
  have answers (l : List Instr) : answerPoll i { s with due := l } = { answered with due := l } := by
    refine (answerPoll_entry (s := { s with due := l }) entry).trans ?_
    simp only [pollReply, pointDetail_eq]
    rfl
  have ends (l : List Instr) : finish s (answerPoll i { s with due := l }) = { answered with due := l } := by
    have same : (answerPoll i { s with due := l }).endInputs = s.endInputs := answerPoll_endInputs (s := { s with due := l })
    rw [finish_of_endInputs lines same, answers]
  refine ⟨fun fresh found => ?_, fun due passed => ?_⟩
  · refine congrArg Host.Outcome.next ((takeNow_taken _ s awake).trans ?_)
    have answers_now : (if s.points[q.point].quality = .fresh then pollAnswered q.point s else s) = answerPoll i s := by
      rw [if_pos fresh, pollAnswered, found]
    rw [answers_now]
    exact ends s.due
  · refine congrArg Host.Outcome.next ((takeDue_taken _ _ s awake due).trans ?_)
    have come : pollDue { s with due := s.due.erase (.pollDeadline i) } i = true := by
      simpa [pollDue, entry] using passed
    rw [pollDeadline, if_pos come]
    exact ends _

/-! ### REFRESH -/

theorem setPolls_quiet (polls : Vector (Option Poll) 4) : QuietWork fun t => { t with polls := polls } := by
  constructor <;> intro t <;> rfl

section Refresh

variable {r : Req} {s : State} {p : Fin 192}

theorem pollFor_congr {t : State} (polls : t.polls = s.polls) : pollFor t p = pollFor s p := by rw [pollFor, pollFor, polls]

/-- The value of a request that names a point. -/
theorem indexOf_natCast {n : Nat} (p : Fin n) : indexOf n ((p : Nat) : Int) = some p := by
  simp [indexOf]

theorem indexOf_beyond {n : Nat} {i : Int} (beyond : ¬(0 ≤ i ∧ i < n)) : indexOf n i = none := by
  rw [indexOf, dif_neg]
  omega

theorem serveRefresh_beyond (beyond : ¬(0 ≤ r.value.toInt ∧ r.value.toInt < 192)) :
    serveRefresh r s = s.answer .refresh r .badArgument 0 := by
  simp only [serveRefresh, Req.signed, indexOf_beyond (n := 192) beyond, reply_answer]

variable (names : r.value.toInt = (p : Nat))

include names

/-- R41: a FRESH point is answered at once. -/
theorem serveRefresh_fresh (fresh : s.points[p].quality = .fresh) :
    serveRefresh r s = s.told r.source 48#8 r.tag s.points[p].value (pointDetail s.points[p]) := by
  simp only [serveRefresh, Req.signed, names, indexOf_natCast, fresh, if_true]
  rfl

variable (old : s.points[p].quality ≠ .fresh)

include old

/-- R43: a request for a point that is polled joins the entry. -/
theorem serveRefresh_joins {i : Fin 4} {q joined : Poll} (found : pollFor s p = some i) (entry : s.polls[i] = some q)
    (joins : joinPoll (r.source, r.tag) q = some joined) :
    serveRefresh r s = { s with polls := s.polls.set i (some joined) } := by
  simp only [serveRefresh, Req.signed, names, indexOf_natCast, if_neg old, found, entry, Option.bind_some, joins]

/-- R43: a fifth requester of an entry. -/
theorem serveRefresh_crowded {i : Fin 4} {q : Poll} (found : pollFor s p = some i) (entry : s.polls[i] = some q)
    (full : joinPoll (r.source, r.tag) q = none) : serveRefresh r s = s.answer .refresh r .busy 0 := by
  simp only [serveRefresh, Req.signed, names, indexOf_natCast, if_neg old, found, entry, Option.bind_some, full, reply_answer]

theorem serveRefresh_unmapped (absent : pollFor s p = none) (unmapped : s.tables.active.mapOfPoint p = none) :
    serveRefresh r s =
      ({ s with capture := capturedBy s.capture s.time .unmappedPoll (mgmtSlot s.loop.node 48#8 r) } : State).answer .refresh r
        .badArgument 0 := by
  simp only [serveRefresh, Req.signed, names, indexOf_natCast, if_neg old, absent, unmapped, Option.isSome_none,
    captureRequest_eq, reply_answer]
  rfl

variable {m : Nat} (absent : pollFor s p = none) (mapped : s.tables.active.mapOfPoint p = some m)

include absent mapped

theorem serveRefresh_full (full : firstIndex s.polls (·.isNone) = none) :
    serveRefresh r s = s.answer .refresh r .busy 0 := by
  simp only [serveRefresh, Req.signed, names, indexOf_natCast, if_neg old, absent, mapped, Option.isSome_some, if_true, newPoll,
    full, reply_answer]

/-- R42: a new entry, and the offer of its POLL cell. -/
theorem serveRefresh_polls {i : Fin 4} (free : firstIndex s.polls (·.isNone) = some i) :
    serveRefresh r s =
      let o := s.floor.queue.offerCommand
        ⟨mapByte (s.tables.active.field 1 m 1), 3#8, mapByte (s.tables.active.field 1 m 2), BitVec.ofNat 8 i, 0#32, 0#8,
          s.second⟩
      { s with
        floor := { s.floor with queue := o.1 }
        polls := s.polls.set i (some ⟨p, s.second, [(r.source, r.tag)], o.2⟩) } := by
  simp only [serveRefresh, Req.signed, names, indexOf_natCast, if_neg old, absent, mapped, Option.isSome_some, if_true, newPoll,
    free]
  simp only [offerPoll, Fin.getElem_fin, Vector.getElem_set_self, mapped, offerCommand, Vector.set_set]

end Refresh

/-- Settles O19: by the point's quality, the poll list and the Channel Map. -/
theorem refreshAnswersJoinsOrPolls : Obligations.RefreshAnswersJoinsOrPolls := by
  refine fun r s h => ⟨fun beyond => exec_ready_told h fun t _ => serveRefresh_beyond beyond, fun p names => ?_⟩
  have unfresh (t : State) (arrived : s.Arrived t) (old : s.points[p].quality ≠ .fresh) : t.points[p].quality ≠ .fresh := by
    rwa [arrived.points]
  refine ⟨fun fresh => ?_, fun old i q found entry => ⟨fun known => ?_, fun new room => ?_, fun new full => ?_⟩,
    fun old absent unmapped => ?_, fun old absent m mapped => ⟨fun full => ?_, fun i free => ?_⟩⟩
  · refine exec_ready_quietly h (told_quiet _ _ _ _ _) fun t arrived => ?_
    refine (serveRefresh_fresh names (by rwa [arrived.points])).trans ?_
    rw [arrived.points, pointDetail_eq, fresh]
  · refine exec_ready_quietly h id_quiet fun t arrived => ?_
    have joined : joinPoll (r.source, r.tag) q = some q := by simp [joinPoll, known]
    have polled := arrived.polls
    refine (serveRefresh_joins names (unfresh t arrived old) ((pollFor_congr polled).trans found) (polled ▸ entry)
      joined).trans ?_
    rw [show t.polls.set i (some q) = t.polls from ?_]
    · rfl
    · rw [polled, ← entry]
      simp
  · refine exec_ready_quietly h (setPolls_quiet _) fun t arrived => ?_
    have joined : joinPoll (r.source, r.tag) q = some { q with requesters := q.requesters ++ [(r.source, r.tag)] } := by
      simp [joinPoll, new, room]
    have polled := arrived.polls
    refine (serveRefresh_joins names (unfresh t arrived old) ((pollFor_congr polled).trans found) (polled ▸ entry)
      joined).trans ?_
    rw [polled]
  · refine exec_ready_told h fun t arrived => ?_
    have busy : joinPoll (r.source, r.tag) q = none := by
      simp [joinPoll, new, full]
    have polled := arrived.polls
    exact serveRefresh_crowded names (unfresh t arrived old) ((pollFor_congr polled).trans found) (polled ▸ entry) busy
  · refine exec_ready_quietly h ((setCapture_quiet _).comp (answer_quiet .refresh r .badArgument 0)) fun t arrived => ?_
    have polled := pollFor_congr (p := p) arrived.polls
    refine (serveRefresh_unmapped names (unfresh t arrived old) (polled.trans absent) (arrived.tables ▸ unmapped)).trans ?_
    rw [arrived.capture, arrived.time, arrived.node]
  · refine exec_ready_told h fun t arrived => ?_
    have polled := pollFor_congr (p := p) arrived.polls
    exact serveRefresh_full names (unfresh t arrived old) (polled.trans absent) (arrived.tables ▸ mapped) (arrived.polls ▸ full)
  · refine exec_ready_does h (fun t arrived => ?_) fun t _ => ?_
    · have polled := pollFor_congr (p := p) arrived.polls
      refine (serveRefresh_polls names (unfresh t arrived old) (polled.trans absent) (arrived.tables ▸ mapped)
        (arrived.polls ▸ free)).trans ?_
      rw [arrived.tables, arrived.second, arrived.polls]
    · exact congrArg (fun c => { t.endInputs with congested := c }) (offerCommand_congested _ _)

end Sys2Proof.Machine

/-! SUPPORT. The common context of a unit (R88, R90): how each operation of the floor leaves the contexts, said by the unit and not
by the vector that holds it. -/

namespace Sys2Proof.Machine

/-! ### The context of a unit -/

theorem ctx_vessel (f : Floor) (v : Fin 6) : f.ctx (.vessel v) = f.vessels[v].ctx := rfl

theorem ctx_box (f : Floor) (b : Fin 12) : f.ctx (.box b) = f.boxes[b].ctx := rfl

theorem ctx_kiln (f : Floor) (k : Fin 2) : f.ctx (.kiln k) = f.kilns[k].ctx := rfl

section Contexts

variable {f g : Floor} (u : PlantUnit)

theorem ctx_congr (vessels : g.vessels = f.vessels) (boxes : g.boxes = f.boxes) (kilns : g.kilns = f.kilns) :
    g.ctx u = f.ctx u := by
  cases u <;> simp only [Floor.ctx, vessels, boxes, kilns]

theorem vessel_ctx (f : Floor) (v : Fin 6) (h : Vessel → Vessel) :
    (f.vessel v h).ctx u = if u = .vessel v then (h f.vessels[v]).ctx else f.ctx u := by
  cases u with
  | vessel w =>
    simp only [Floor.ctx, vessel_vessels, upd_get, PlantUnit.vessel.injEq]
    by_cases same : v = w
    · simp [same]
    · simp [same, Ne.symm same]
  | box b => rfl
  | kiln k => rfl

theorem box_ctx (f : Floor) (b : Fin 12) (h : Box → Box) :
    (f.box b h).ctx u = if u = .box b then (h f.boxes[b]).ctx else f.ctx u := by
  cases u with
  | box w =>
    simp only [Floor.ctx, box_boxes, upd_get, PlantUnit.box.injEq]
    by_cases same : b = w
    · simp [same]
    · simp [same, Ne.symm same]
  | vessel v => rfl
  | kiln k => rfl

theorem kiln_ctx (f : Floor) (k : Fin 2) (h : Kiln → Kiln) :
    (f.kiln k h).ctx u = if u = .kiln k then (h f.kilns[k]).ctx else f.ctx u := by
  cases u with
  | kiln w =>
    simp only [Floor.ctx, kiln_kilns, upd_get, PlantUnit.kiln.injEq]
    by_cases same : k = w
    · simp [same]
    · simp [same, Ne.symm same]
  | vessel v => rfl
  | box b => rfl

/-- A change of a unit that keeps its context. -/
theorem vessel_ctx_same (f : Floor) (v : Fin 6) {h : Vessel → Vessel} (same : ∀ x, (h x).ctx = x.ctx) :
    (f.vessel v h).ctx u = f.ctx u := by
  rw [vessel_ctx, same]
  split
  · next named => rw [named, ctx_vessel]
  · rfl

theorem box_ctx_same (f : Floor) (b : Fin 12) {h : Box → Box} (same : ∀ x, (h x).ctx = x.ctx) :
    (f.box b h).ctx u = f.ctx u := by
  rw [box_ctx, same]
  split
  · next named => rw [named, ctx_box]
  · rfl

theorem kiln_ctx_same (f : Floor) (k : Fin 2) {h : Kiln → Kiln} (same : ∀ x, (h x).ctx = x.ctx) :
    (f.kiln k h).ctx u = f.ctx u := by
  rw [kiln_ctx, same]
  split
  · next named => rw [named, ctx_kiln]
  · rfl

@[simp] theorem arb_ctx (f : Floor) (h : Arbiter → Arbiter) : (f.arb h).ctx u = f.ctx u := rfl

@[simp] theorem channel_ctx (f : Floor) (c : Fin 12) (h : Channel → Channel) : (f.channel c h).ctx u = f.ctx u := rfl

@[simp] theorem withQueue_ctx (f : Floor) (q : Queue) : (f.withQueue q).ctx u = f.ctx u := rfl

@[simp] theorem reg_ctx (f : Floor) (h : Register → Register) : (f.reg h).ctx u = f.ctx u := rfl

@[simp] theorem batch_ctx (f : Floor) (b : Fin 20) (h : Batch → Batch) : (f.batch b h).ctx u = f.ctx u := rfl

@[simp] theorem output_ctx (f : Floor) (v : Fin 6) (o : Fin 5) (h : Output → Output) : (f.output v o h).ctx u = f.ctx u :=
  vessel_ctx_same u f v (by intro; rfl)

theorem updCtx_ctx (f : Floor) (w : PlantUnit) (h : Ctx → Ctx) :
    (f.updCtx w h).ctx u = if u = w then h (f.ctx w) else f.ctx u := by
  cases w
  · exact vessel_ctx ..
  · exact box_ctx ..
  · exact kiln_ctx ..

end Contexts

/-! ### Operations that leave every context -/

section Offers

variable {e : Env} {f : Floor} (u : PlantUnit)

@[simp] theorem offerCommand_ctx (c : QCell) : (offerCommand c f).1.ctx u = f.ctx u := rfl

@[simp] theorem offerTrip_ctx (c : QCell) : (offerTrip c f).ctx u = f.ctx u := rfl

@[simp] theorem offerReply_ctx (dest func tag : Byte) (v : Int) (qual : Nat) :
    (offerReply e dest func tag v qual f).ctx u = f.ctx u := rfl

@[simp] theorem replyTo_ctx (fn : Function) (r : Req) (st : Status) (v : Int) : (replyTo e fn r st v f).ctx u = f.ctx u := rfl

@[simp] theorem raiseEvent_ctx (code index : Nat) (v : Int) : (raiseEvent e code index v f).ctx u = f.ctx u :=
  ctx_congr u (by simp) (by simp) (by simp)

theorem enterHeld_ctx (w : PlantUnit) (r : HoldReason) (back : ResumeState) :
    (enterHeld e w r back f).ctx u = if u = w then (f.ctx w).enterHeld r back else f.ctx u := by
  rw [enterHeld, raiseEvent_ctx, updCtx_ctx]

end Offers

section Channels

variable {e : Env} {f : Floor} (u : PlantUnit) (c : Fin 12)

@[simp] theorem offerValve_ctx : (offerValve e c f).ctx u = f.ctx u := ctx_congr u (by simp) (by simp) (by simp)

@[simp] theorem setValve_ctx (w : ValveDecision) : (setValve e c w f).ctx u = f.ctx u :=
  ctx_congr u (by simp) (by simp) (by simp)

@[simp] theorem enterChannel_ctx (st : ChannelState) : (enterChannel e c st f).ctx u = f.ctx u :=
  ctx_congr u (by simp) (by simp) (by simp)

@[simp] theorem tellDemand_ctx (d : Bool) : (tellDemand e c d f).ctx u = f.ctx u :=
  ctx_congr u (by simp) (by simp) (by simp)

@[simp] theorem maskRule_ctx : (maskRule e c f).1.ctx u = f.ctx u := ctx_congr u (by simp) (by simp) (by simp)

@[simp] theorem beginDose_ctx (base : Nat) : (beginDose e c base f).1.ctx u = f.ctx u :=
  ctx_congr u (by simp) (by simp) (by simp)

@[simp] theorem startChannel_ctx (w : PlantUnit) (q : Int) : (startChannel e w c q f).1.ctx u = f.ctx u :=
  ctx_congr u (by simp) (by simp) (by simp)

@[simp] theorem continueChannel_ctx (w : PlantUnit) : (continueChannel e w c f).1.ctx u = f.ctx u :=
  ctx_congr u (by simp) (by simp) (by simp)

@[simp] theorem stopChannel_ctx : (stopChannel e c f).ctx u = f.ctx u := ctx_congr u (by simp) (by simp) (by simp)

@[simp] theorem stopUnitChannel_ctx (w : PlantUnit) : (stopUnitChannel e w f).ctx u = f.ctx u :=
  ctx_congr u (by simp) (by simp) (by simp)

@[simp] theorem stopChannelsOf_ctx (w : PlantUnit) : (stopChannelsOf e w f).ctx u = f.ctx u :=
  ctx_congr u (by simp) (by simp) (by simp)

@[simp] theorem endDemandOf_ctx (w : PlantUnit) : (endDemandOf e w f).ctx u = f.ctx u :=
  ctx_congr u (by simp) (by simp) (by simp)

@[simp] theorem stopSpray_ctx (b : Fin 12) : (stopSpray e b f).ctx u = f.ctx u := ctx_congr u (by simp) (by simp) (by simp)

@[simp] theorem meterChannel_ctx (r : Nat) : (meterChannel e c r f).1.ctx u = f.ctx u :=
  ctx_congr u (by simp) (by simp) (by simp)

end Channels

section Vessels

variable {e : Env} {v : Fin 6} {f : Floor} (u : PlantUnit)

@[simp] theorem offerOutput_ctx (o : Fin 5) : (offerOutput e v o f).ctx u = f.ctx u := by
  simp only [offerOutput]
  split <;> simp

@[simp] theorem decideOutput_ctx (o : Fin 5) (d : Decision) : (decideOutput e v o d f).ctx u = f.ctx u := by
  simp only [decideOutput]
  split_ifs <;> simp

@[simp] theorem reofferOutput_ctx (o : Fin 5) : (reofferOutput e v f o).ctx u = f.ctx u := by
  simp only [reofferOutput]
  split_ifs <;> simp

@[simp] theorem reofferVessel_ctx : (reofferVessel e v f).ctx u = f.ctx u :=
  foldl_keeps (fun f : Floor => f.ctx u) _ (fun _ _ => by simp) _ _

@[simp] theorem offerAllOutputs_ctx : (offerAllOutputs e v f).ctx u = f.ctx u :=
  foldl_keeps (fun f : Floor => f.ctx u) _ (fun _ _ => by simp) _ _

@[simp] theorem roundOutput_ctx (o : Fin 5) : (roundOutput e v f o).ctx u = f.ctx u := by
  simp only [roundOutput]
  split <;> simp

@[simp] theorem vesselRound_ctx : (vesselRound e v f).ctx u = f.ctx u :=
  foldl_keeps (fun f : Floor => f.ctx u) _ (fun _ _ => by simp) _ _

@[simp] theorem startFill_ctx : (startFill e v f).1.ctx u = f.ctx u := by
  have asked : (match e.bank.unitChannel (.vessel v) with
      | some c => startChannel e (.vessel v) c (stepFillVolume f.vessels[v].ctx.fields) f
      | none => (f, Granting.refused)).1.ctx u = f.ctx u := by
    cases e.bank.unitChannel (.vessel v) <;> simp
  simp only [startFill]
  split_ifs <;> exact (vessel_ctx_same u _ v (by intro; rfl)).trans asked

@[simp] theorem stopFillForHold_ctx : (stopFillForHold e v f).ctx u = f.ctx u := by
  simp only [stopFillForHold]
  split_ifs <;> simp

theorem holdVessel_ctx (r : HoldReason) :
    (holdVessel e v r f).ctx u = if u = .vessel v then (f.ctx u).enterHeld r .running else f.ctx u := by
  rw [holdVessel, stopFillForHold_ctx, enterHeld_ctx]
  split
  · next named => rw [named]
  · rfl

@[simp] theorem vesselSecond_ctx : (vesselSecond e v f).ctx u = f.ctx u := by
  simp only [vesselSecond]
  split_ifs <;> simp [vessel_ctx_same]

@[simp] theorem vesselManual_ctx : (vesselManual e v f).ctx u = f.ctx u := by
  simp only [vesselManual]
  split_ifs <;> exact (vessel_ctx_same u _ v (by intro; rfl)).trans (by simp)

@[simp] theorem restOutput_ctx (o : Fin 5) : (restOutput e v f o).ctx u = f.ctx u := by
  simp only [restOutput]
  split_ifs <;> simp

@[simp] theorem vesselEmptied_ctx : (vesselEmptied e v f).ctx u = f.ctx u :=
  (vessel_ctx_same u _ v (by intro; rfl)).trans (foldl_keeps (fun f : Floor => f.ctx u) _ (fun _ _ => by simp) _ _)

end Vessels

section Boxes

variable {e : Env} {b : Fin 12} {f : Floor} (u : PlantUnit)

@[simp] theorem offerFan_ctx : (offerFan e b f).ctx u = f.ctx u := by
  simp only [offerFan]
  split
  · exact (box_ctx_same u _ b (by intro; rfl)).trans (by simp)
  · rfl

@[simp] theorem decideFan_ctx (v : Int) : (decideFan e b v f).ctx u = f.ctx u := by
  simp only [decideFan]
  split_ifs
  · rfl
  · exact box_ctx_same u _ b (by intro; rfl)
  · rw [offerFan_ctx]
    exact box_ctx_same u _ b (by intro; rfl)

@[simp] theorem boxRound_ctx : (boxRound e b f).ctx u = f.ctx u := by
  have drawn : (if (fanDecision e f b).2 = true then { f with freeCount := f.freeCount + 1 } else f).ctx u = f.ctx u := by
    split_ifs <;> rfl
  simp only [boxRound]
  split
  · rw [decideFan_ctx, drawn]
  · exact drawn

@[simp] theorem reofferFan_ctx : (reofferFan e b f).ctx u = f.ctx u := by
  simp only [reofferFan]
  split_ifs <;> simp

@[simp] theorem dropRequest_ctx : (dropRequest b f).ctx u = f.ctx u := ctx_congr u (by simp) (by simp) (by simp)

@[simp] theorem turnerStop_ctx : (turnerStop e f).ctx u = f.ctx u := ctx_congr u (by simp) (by simp) (by simp)

@[simp] theorem turnerStep_ctx (l : List TurnerCommand) : (turnerStep e l f).ctx u = f.ctx u :=
  ctx_congr u (by simp) (by simp) (by simp)

@[simp] theorem turnerNext_ctx (t : TurnerCommand) : (turnerNext e t f).ctx u = f.ctx u :=
  ctx_congr u (by simp) (by simp) (by simp)

@[simp] theorem reofferTurner_ctx : (reofferTurner e f).ctx u = f.ctx u := ctx_congr u (by simp) (by simp) (by simp)

@[simp] theorem fanTest_ctx : (fanTest e f).ctx u = f.ctx u := ctx_congr u (by simp) (by simp) (by simp)

@[simp] theorem enterPreparing_ctx : (enterPreparing e b f).ctx u = f.ctx u := by simp [enterPreparing]

@[simp] theorem grantDecision_ctx : (grantDecision e f).ctx u = f.ctx u := by
  simp only [grantDecision]
  split_ifs
  · split <;> simp
  · rfl

@[simp] theorem enterIdle_ctx : (enterIdle e f).ctx u = f.ctx u := by simp [enterIdle]

@[simp] theorem withdraw_ctx : (withdraw e b f).ctx u = f.ctx u := by
  simp only [withdraw]
  split_ifs <;> simp

@[simp] theorem afterFault_ctx : (afterFault e f).ctx u = f.ctx u := by
  simp only [afterFault]
  split_ifs <;> simp

@[simp] theorem releaseTurn_ctx : (releaseTurn e f).ctx u = f.ctx u := by
  simp only [releaseTurn]
  split
  · rfl
  · rw [enterIdle_ctx]
    split_ifs
    · rw [raiseEvent_ctx, arb_ctx, box_ctx_same u _ _ (by intro; rfl)]
      simp
    · simp

@[simp] theorem trailExpired_ctx (c : Fin 12) : (trailExpired e b c f).ctx u = f.ctx u := by simp [trailExpired]

@[simp] theorem enterReleasing_ctx (r : TurnResult) : (enterReleasing e r f).ctx u = f.ctx u := by
  simp only [enterReleasing]
  split
  · rfl
  · split
    · simp
    · split_ifs <;> simp

@[simp] theorem turningTest_ctx : (turningTest e f).ctx u = f.ctx u := ctx_congr u (by simp) (by simp) (by simp)

@[simp] theorem finishTest_ctx : (finishTest e f).ctx u = f.ctx u := by
  simp only [finishTest]
  split_ifs <;> simp

@[simp] theorem releaseTest_ctx : (releaseTest e f).ctx u = f.ctx u := by
  simp only [releaseTest]
  split
  · split_ifs <;> simp
  · rfl

@[simp] theorem sprayReport_ctx : (sprayReport e b f).ctx u = f.ctx u := by
  simp only [sprayReport]
  split_ifs <;> simp

@[simp] theorem prepTimeout_ctx : (prepTimeout e f).ctx u = f.ctx u := by
  simp only [prepTimeout]
  split
  · split_ifs <;> simp
  · rfl

@[simp] theorem startTimeout_ctx : (startTimeout e f).ctx u = f.ctx u := by
  simp only [startTimeout]
  split
  · split_ifs <;> simp
  · rfl

@[simp] theorem turnOverrun_ctx : (turnOverrun e f).ctx u = f.ctx u := by
  simp only [turnOverrun]
  split
  · split_ifs <;> simp
  · rfl

@[simp] theorem sprayTrailExpiry_ctx : (sprayTrailExpiry e f).ctx u = f.ctx u := by
  simp only [sprayTrailExpiry]
  split
  · split_ifs
    · split <;> simp
    · rfl
  · rfl

@[simp] theorem turnerFault_ctx (v : Int) : (turnerFault e v f).ctx u = f.ctx u := by
  simp only [turnerFault]
  split <;> simp

@[simp] theorem boxLeaves_ctx : (boxLeaves e b f).ctx u = f.ctx u := by
  simp only [boxLeaves]
  split_ifs
  · split <;> simp
  · rfl

@[simp] theorem turnerEnable_ctx : (turnerEnable e f).ctx u = f.ctx u := by
  simp only [turnerEnable]
  split_ifs <;> simp

@[simp] theorem parkingTest_ctx : (parkingTest e f).ctx u = f.ctx u := by
  simp only [parkingTest]
  split_ifs <;> simp

@[simp] theorem parkDelayExpiry_ctx : (parkDelayExpiry e f).ctx u = f.ctx u := ctx_congr u (by simp) (by simp) (by simp)

@[simp] theorem arbiterSample_ctx (p : Nat) : (arbiterSample e p f).ctx u = f.ctx u := by
  simp only [arbiterSample]
  split
  · simp
  · split
    · split <;> simp
    · split <;> simp
    · split <;> simp
    · split <;> simp
    · split <;> simp
    · rfl

@[simp] theorem arbiterQuality_ctx (p : Nat) (stale : Bool) : (arbiterQuality e p stale f).ctx u = f.ctx u := by
  simp only [arbiterQuality]
  split_ifs <;> simp

@[simp] theorem restartArbiter_ctx : (restartArbiter e f).ctx u = f.ctx u := by
  simp only [restartArbiter]
  split <;> simp

theorem holdBox_ctx (r : HoldReason) :
    (holdBox e b r f).ctx u = if u = .box b then (f.ctx u).enterHeld r .running else f.ctx u := by
  rw [holdBox, boxLeaves_ctx, enterHeld_ctx]
  split
  · next named => rw [named]
  · rfl

@[simp] theorem urgentTest_ctx : (urgentTest e b f).ctx u = f.ctx u := by
  simp only [urgentTest]
  split_ifs
  · split
    · simp
    · split_ifs <;> simp
  · rfl

@[simp] theorem turnIntervalReached_ctx : (turnIntervalReached e b f).ctx u = f.ctx u := by
  simp only [turnIntervalReached]
  split_ifs <;> simp

@[simp] theorem boxManual_ctx : (boxManual e b f).ctx u = f.ctx u := by
  simp only [boxManual, boxLeaves_ctx]
  exact box_ctx_same u _ b (by intro; rfl)

@[simp] theorem boxStopped_ctx (day : Option (List Int)) : (boxStopped e b day f).ctx u = f.ctx u := by
  simp only [boxStopped]
  split <;> simp

@[simp] theorem boxEmptied_ctx : (boxEmptied e b f).ctx u = f.ctx u := by simp [boxEmptied]

end Boxes

section Kilns

variable {e : Env} {k : Fin 2} {f : Floor} (u : PlantUnit)

@[simp] theorem withRecord_ctx (x : Kiln) (o : KilnOutput) (r : SetRecord) : (x.withRecord o r).ctx = x.ctx := by cases o <;> rfl

@[simp] theorem offerKiln_ctx (o : KilnOutput) : (offerKiln e k o f).ctx u = f.ctx u := by
  simp only [offerKiln]
  split
  · exact (kiln_ctx_same u _ k (fun x => withRecord_ctx x o _)).trans (by simp)
  · rfl

@[simp] theorem sendKiln_ctx (o : KilnOutput) (v : Int) : (sendKiln e k o v f).ctx u = f.ctx u := by
  rw [sendKiln, offerKiln_ctx]
  exact kiln_ctx_same u _ k (fun x => withRecord_ctx x o _)

@[simp] theorem decideKiln_ctx (o : KilnOutput) (v : Int) : (decideKiln e k o v f).ctx u = f.ctx u := by
  simp only [decideKiln]
  split_ifs <;> simp

@[simp] theorem decideBoth_ctx (s n : Int) : (decideBoth e k s n f).ctx u = f.ctx u := by simp [decideBoth]

@[simp] theorem decidePhase_ctx : (decidePhase e k f).ctx u = f.ctx u := by simp [decidePhase]

@[simp] theorem reofferRecord_ctx (o : KilnOutput) : (reofferRecord e k o f).ctx u = f.ctx u := by
  simp only [reofferRecord]
  split_ifs <;> simp

@[simp] theorem reofferKiln_ctx : (reofferKiln e k f).ctx u = f.ctx u := by simp [reofferKiln]

@[simp] theorem kilnReofferAfter_ctx : (kilnReofferAfter e k f).ctx u = f.ctx u := by
  simp only [kilnReofferAfter]
  split_ifs <;> simp

@[simp] theorem tellKiln_ctx : (tellKiln e k f).ctx u = f.ctx u := by
  simp only [tellKiln]
  split <;> simp

@[simp] theorem kilnTerminal_ctx (d : Nat) : (kilnTerminal k d f).ctx u = f.ctx u :=
  kiln_ctx_same u _ k fun x => by split_ifs <;> rfl

@[simp] theorem endPeat_ctx : (endPeat e k f).ctx u = f.ctx u := by
  refine (kiln_ctx_same u _ k (by intro; rfl)).trans ?_
  split
  · rw [tellDemand_ctx]
    split_ifs
    · exact (kiln_ctx_same u _ k (by intro; rfl)).trans (by simp)
    · rfl
  · rfl

theorem terminalCountWith_ctx {report : Nat → Floor → Floor} {c : Fin 12} (keeps : ∀ n g, (report n g).ctx u = g.ctx u) :
    (terminalCountWith report e c f).ctx u = f.ctx u := by
  simp [terminalCountWith, keeps]

@[simp] theorem startPeat_ctx (c : Fin 12) : (startPeat e k c f).1.ctx u = f.ctx u := by
  have feeding : (f.kiln k fun x => { x with peat := .filling }).ctx u = f.ctx u := kiln_ctx_same u _ k (by intro; rfl)
  simp only [startPeat]
  split
  · exact (kiln_ctx_same u _ k (by intro; rfl)).trans (by rw [startChannel_ctx, feeding])
  · rw [startChannel_ctx, feeding]
  · rw [terminalCountWith_ctx u fun _ _ => kilnTerminal_ctx u _, startChannel_ctx, feeding]

@[simp] theorem resumePeat_ctx : (resumePeat e k f).1.ctx u = f.ctx u := by
  simp only [resumePeat]
  split
  · rfl
  · split
    · simp
    · split_ifs <;> simp
    · simp

@[simp] theorem offerTripCell_ctx (o : KilnOutput) (v : Int) : (offerTripCell e k o v f).ctx u = f.ctx u := by
  simp only [offerTripCell]
  split
  · rw [offerTrip_ctx]
    exact kiln_ctx_same u _ k (fun x => withRecord_ctx x o _)
  · exact kiln_ctx_same u _ k (fun x => withRecord_ctx x o _)

theorem tripKiln_ctx (cause : TripCause) :
    (tripKiln e k cause f).ctx u =
      if u = .kiln k ∧ ((f.ctx u).state = .running ∨ (f.ctx u).state = .held) then (f.ctx u).enter .tripped else f.ctx u := by
  by_cases live : f.kilns[k].ctx.state = .running ∨ f.kilns[k].ctx.state = .held
  · simp only [tripKiln, if_pos live]
    rw [raiseEvent_ctx, kiln_ctx_same u _ k (by intro; rfl), stopUnitChannel_ctx]
    have entered : (f.kiln k fun x => { x with ctx := x.ctx.enter .tripped }).ctx u =
        if u = .kiln k ∧ ((f.ctx u).state = .running ∨ (f.ctx u).state = .held) then (f.ctx u).enter .tripped
          else f.ctx u := by
      rw [kiln_ctx]
      by_cases named : u = .kiln k
      · subst named
        rw [if_pos rfl, if_pos ⟨rfl, live⟩]
        rfl
      · rw [if_neg named, if_neg fun h => named h.1]
    rw [← entered]
    split <;> simp
  · simp only [tripKiln, if_neg live]
    rw [if_neg]
    rintro ⟨rfl, now⟩
    exact live now

@[simp] theorem kilnManual_ctx : (kilnManual e k f).ctx u = f.ctx u :=
  (kiln_ctx_same u _ k (by intro; rfl)).trans (by simp)

@[simp] theorem kilnStopProgram_ctx : (kilnStopProgram e k f).ctx u = f.ctx u := by
  simp only [kilnStopProgram]
  split <;> split <;> simp

@[simp] theorem kilnEmptied_ctx : (kilnEmptied e k f).ctx u = f.ctx u :=
  (kiln_ctx_same u _ k (by intro; rfl)).trans (by simp)

end Kilns

/-- The owners change no context as they tell their channels. -/
@[simp] theorem tellOwners_ctx (e0 : Env) (before : Floor) (e : Env) (f : Floor) (u : PlantUnit) :
    (tellOwners e0 before e f).ctx u = f.ctx u := ctx_congr u (by simp) (by simp) (by simp)

end Sys2Proof.Machine

/-! SUPPORT. A kiln's trip (R190), and the state of the loop: silence and coming up (R14, R15, R16). -/

namespace Sys2Proof.Machine

/-! ### Folds over the units -/

theorem upd_val_ne {α : Type} {n : Nat} (v : Vector α n) {i j : Fin n} (f : α → α) (h : i ≠ j) :
    (upd v i f)[(j : Nat)] = v[(j : Nat)] := upd_get_ne v f h

/-- A fold that treats each part of the state once: the parts of the list are treated, the others as they were. -/
theorem foldl_each {σ α κ β : Type} [DecidableEq κ] (get : σ → κ → β) (key : α → κ) (treat : β → β) (op : σ → α → σ)
    (each : ∀ s a u, get (op s a) u = if u = key a then treat (get s u) else get s u) (l : List α)
    (nodup : (l.map key).Nodup) (s : σ) (u : κ) :
    get (l.foldl op s) u = if u ∈ l.map key then treat (get s u) else get s u := by
  induction l generalizing s with
  | nil => simp
  | cons a rest ih =>
    rw [List.map_cons, List.nodup_cons] at nodup
    obtain ⟨fresh, nodup⟩ := nodup
    rw [List.foldl_cons, ih nodup, each]
    by_cases here : u = key a
    · subst here
      simp [fresh]
    · simp [here]

theorem nodup_units {n : Nat} {key : Fin n → PlantUnit} (inj : Function.Injective key) :
    ((List.finRange n).map key).Nodup := (List.nodup_finRange n).map inj

/-! ### The kiln that trips -/

/-- R190: what a trip leaves of a kiln that is RUNNING or HELD. -/
def Kiln.tripped (e : Env) (k : Fin 2) (cause : TripCause) (x : Kiln) : Kiln :=
  { x with
    ctx := x.ctx.enter .tripped
    burner := ⟨some 0, false⟩
    fan := if x.ctx.pos.isSome = true then ⟨some (entryPurge x.ctx.entry), false⟩ else x.fan
    trip := some ⟨cause, x.ctx.item, e.time, e.timeUnset, if (e.ton k).usable = true then (e.ton k).value else 0⟩ }

section Trips

variable {e : Env} {k : Fin 2} {f : Floor}

theorem offerTripCell_kilns (o : KilnOutput) (v : Int) :
    (offerTripCell e k o v f).kilns = upd f.kilns k fun x => x.withRecord o ⟨some v, false⟩ := by
  simp only [offerTripCell]
  split <;> simp

theorem tripKiln_live (cause : TripCause) (live : f.kilns[k].ctx.state = .running ∨ f.kilns[k].ctx.state = .held) :
    (tripKiln e k cause f).kilns[k] = f.kilns[k].tripped e k cause := by
  simp only [tripKiln, if_pos live, Kiln.tripped]
  split <;> simp [offerTripCell_kilns, Kiln.withRecord]

theorem tripKiln_dead (cause : TripCause) (dead : ¬(f.kilns[k].ctx.state = .running ∨ f.kilns[k].ctx.state = .held)) :
    tripKiln e k cause f = f := by
  simp only [tripKiln, if_neg dead]

theorem tripKiln_other {j : Fin 2} (other : j ≠ k) (cause : TripCause) : (tripKiln e k cause f).kilns[j] = f.kilns[j] := by
  simp only [tripKiln]
  split
  · split <;> simp [offerTripCell_kilns, upd_val_ne, other.symm]
  · rfl

/-- R190: a kiln after the cause, whatever its state. -/
def Kiln.afterCause (e : Env) (k : Fin 2) (cause : TripCause) (x : Kiln) : Kiln :=
  if x.ctx.state = .running ∨ x.ctx.state = .held then x.tripped e k cause else x

theorem tripKiln_get (cause : TripCause) (j : Fin 2) :
    (tripKiln e k cause f).kilns[j] = if j = k then f.kilns[j].afterCause e k cause else f.kilns[j] := by
  by_cases same : j = k
  · subst same
    rw [if_pos rfl, Kiln.afterCause]
    split
    · next live => exact tripKiln_live cause live
    · next dead => rw [tripKiln_dead cause dead]
  · rw [if_neg same, tripKiln_other same]

end Trips

/-! ### The silence of the loop on the floor (R16) -/

/-- R90: a context once a RUNNING unit is HELD(LOOP). -/
def Ctx.silenced (c : Ctx) : Ctx := if c.state = .running then c.enterHeld .loop .running else c

section Silence

variable {e : Env} {f : Floor}

theorem vesselSilent_ctx (v : Fin 6) (u : PlantUnit) :
    (vesselSilent e f v).ctx u = if u = .vessel v then (f.ctx u).silenced else f.ctx u := by
  simp only [vesselSilent, Ctx.silenced]
  by_cases running : f.vessels[v].ctx.state = .running
  · rw [if_pos running, holdVessel_ctx]
    split
    · next named => rw [named, ctx_vessel, if_pos running]
    · rfl
  · rw [if_neg running]
    split
    · next named => rw [named, ctx_vessel, if_neg running]
    · rfl

theorem boxSilent_ctx (b : Fin 12) (u : PlantUnit) :
    (boxSilent e f b).ctx u = if u = .box b then (f.ctx u).silenced else f.ctx u := by
  simp only [boxSilent, Ctx.silenced]
  by_cases running : f.boxes[b].ctx.state = .running
  · rw [if_pos running, holdBox_ctx]
    split
    · next named => rw [named, ctx_box, if_pos running]
    · rfl
  · rw [if_neg running]
    split
    · next named => rw [named, ctx_box, if_neg running]
    · rfl

theorem vesselSilent_kilns (v : Fin 6) : (vesselSilent e f v).kilns = f.kilns := by
  simp only [vesselSilent]
  split <;> simp

/-- R16: the kilns trip, and the other units do nothing to them. -/
theorem floorSilent_kilns (k : Fin 2) : (floorSilent e f).kilns[k] = f.kilns[k].afterCause e k .loop := by
  have others : (floorSilent e f).kilns = ((List.finRange 2).foldl (fun f k => tripKiln e k .loop f) f).kilns := by
    simp only [floorSilent, raiseEvent_frame]
    rw [foldl_keeps Floor.kilns (boxSilent e) (fun _ _ => by simp), foldl_keeps Floor.kilns (vesselSilent e)
      (fun _ _ => vesselSilent_kilns _)]
  have trips : ((List.finRange 2).foldl (fun f k => tripKiln e k .loop f) f) = tripKiln e 1 .loop (tripKiln e 0 .loop f) := rfl
  rw [others, trips, tripKiln_get, tripKiln_get]
  fin_cases k <;> rfl

/-- R16: RUNNING vessels and boxes are held. -/
theorem floorSilent_ctx {u : PlantUnit} (notKiln : ∀ k, u ≠ .kiln k) : (floorSilent e f).ctx u = (f.ctx u).silenced := by
  simp only [floorSilent, raiseEvent_ctx]
  have trips : ((List.finRange 2).foldl (fun f k => tripKiln e k .loop f) f).ctx u = f.ctx u :=
    foldl_keeps (fun f : Floor => f.ctx u) _ (fun g k => by rw [tripKiln_ctx, if_neg fun h => notKiln k h.1]) _ _
  rw [foldl_each Floor.ctx PlantUnit.box Ctx.silenced (boxSilent e) (fun _ _ _ => boxSilent_ctx _ _) _
      (nodup_units fun _ _ => PlantUnit.box.inj),
    foldl_each Floor.ctx PlantUnit.vessel Ctx.silenced (vesselSilent e) (fun _ _ _ => vesselSilent_ctx _ _) _
      (nodup_units fun _ _ => PlantUnit.vessel.inj), trips]
  cases u with
  | vessel v => simp
  | box b => simp
  | kiln k => exact absurd rfl (notKiln k)

end Silence

end Sys2Proof.Machine

/-! SUPPORT. Loop silence and the coming up of the loop, as events (R14, R15, R16). -/

namespace Sys2Proof.Machine

/-! ### Silence -/

theorem linesOf_permits_silent {s : State} (silent : s.loop.up = false) : (linesOf s).permits = .replicate 2 false := by
  have low (k : Fin 2) : permit s.env s.floor k = false := by simp [permit, silent]
  simp only [linesOf, low]
  rfl

theorem linesOf_alert {s : State} (alert : alertConditions s ≠ 0) : (linesOf s).alertLow = true := by
  simpa [linesOf] using alert

theorem alertConditions_silence {s : State} (alert : s.loop.silenceAlert = true) : alertConditions s ≠ 0 := by
  simp [alertConditions, alert]

/-- R16: the end of an event that has silenced the loop, whatever has been taken from the queue before or after. -/
theorem finish_silenced {s x : State} {e : Env} {q q' : Queue} (awake : x.inReset = false) (silent : x.loop.up = false)
    (alert : x.loop.silenceAlert = true) (time : e.time = s.time) (unset : e.timeUnset = s.timeUnset)
    (floor : x.floor = (floorSilent e (s.floor.withQueue q)).withQueue q') :
    (finish s x).pins.permits = .replicate 2 false ∧ (finish s x).pins.alertLow = true ∧
      (∀ k : Fin 2, s.floor.kilns[k].ctx.state = .running ∨ s.floor.kilns[k].ctx.state = .held →
        (finish s x).floor.kilns[k].ctx.state = .tripped ∧
          ∃ ton, (finish s x).floor.kilns[k].trip = some ⟨.loop, s.floor.kilns[k].ctx.item, s.time, s.timeUnset, ton⟩) ∧
      (∀ k : Fin 2, s.floor.kilns[k].ctx.state ≠ .running → s.floor.kilns[k].ctx.state ≠ .held →
        (finish s x).floor.kilns[k] = s.floor.kilns[k]) ∧
      (∀ v : Fin 6, (finish s x).floor.vessels[v].ctx = s.floor.vessels[v].ctx.silenced) ∧
      (∀ b : Fin 12, (finish s x).floor.boxes[b].ctx = s.floor.boxes[b].ctx.silenced) ∧
      (finish s x).floor.batches = s.floor.batches ∧ (finish s x).floor.register = s.floor.register := by
  have ends : (finish s x).floor = tellOwners s.env s.floor x.env x.floor := finish_floor s x
  have pins : (finish s x).pins = linesOf (x.onFloor (tellOwners s.env s.floor)) := by
    rw [finish, setLines_pins, State.lines]
    simp [awake]
  have kilns : (finish s x).floor.kilns = (floorSilent e (s.floor.withQueue q)).kilns := by
    rw [ends, floor]
    simp [Floor.withQueue]
  have ctx (u : PlantUnit) : (finish s x).floor.ctx u = (floorSilent e (s.floor.withQueue q)).ctx u := by
    rw [ends, tellOwners_ctx, floor, withQueue_ctx]
  refine ⟨?_, ?_, fun k live => ?_, fun k notRunning notHeld => ?_, fun v => ?_, fun b => ?_, ?_, ?_⟩
  · rw [pins]
    exact linesOf_permits_silent silent
  · rw [pins]
    exact linesOf_alert (alertConditions_silence alert)
  · have tripped : (finish s x).floor.kilns[k] = s.floor.kilns[k].tripped e k .loop := by
      rw [kilns, floorSilent_kilns]
      exact if_pos live
    rw [tripped]
    exact ⟨rfl, _, by rw [Kiln.tripped, time, unset]⟩
  · rw [kilns, floorSilent_kilns]
    exact if_neg fun live => live.elim notRunning notHeld
  · exact (ctx (.vessel v)).trans (floorSilent_ctx (by simp))
  · exact (ctx (.box b)).trans (floorSilent_ctx (by simp))
  · rw [ends, floor]
    simp [Floor.withQueue]
  · rw [ends, floor]
    simp [Floor.withQueue]

section Silence

variable {s : State}

/-- R16: the bad cell that brings the run to 16. -/
theorem countSlot_silences {slot : Slot} (up : s.loop.up = true) (run : s.loop.badRun = 15) (bad : classify slot = .bad) :
    countSlot slot s = goSilent (s.counted true) := by
  have counted : (classify slot == .bad) = true := by simp [bad]
  simp only [countSlot, counted]
  rw [if_neg (by simp [upDue, countRuns]), if_pos (by simp [countRuns, up, run])]
  rfl

theorem fillSlot_withQueue (slot : Slot) (t : State) :
    (fillSlot slot t).1 = { t with floor := t.floor.withQueue t.floor.queue.filled } := fillSlot_floor slot t

/-- What the floor sees once the loop is SILENT. -/
def State.silentEnv (s : State) : Env := { s.env with loopUp := false }

/-- R16: the loop has become SILENT with a bad-cell run count, on a floor. -/
def State.silence (s : State) (run : Nat) (floor : Floor) : State :=
  { s with
    loop := { s.loop with up := false, goodRun := 0, badRun := run, silence := none, silenceAlert := true }
    floor := floor }

theorem goSilent_eq (t : State) : goSilent t = t.silence t.loop.badRun (floorSilent t.silentEnv t.floor) := rfl

theorem setLines_onFloor (x : State) (op : Env → Floor → Floor) : setLines (x.onFloor op) =
    { x with floor := (setLines (x.onFloor op)).floor, pins := (setLines (x.onFloor op)).pins } := rfl

/-- What the end of an event changes. -/
theorem finish_eq (s x : State) : finish s x = { x with floor := (finish s x).floor, pins := (finish s x).pins } :=
  setLines_onFloor x _

theorem withQueue_self (f : Floor) : f.withQueue f.queue = f := rfl

theorem setLines_onFloor_outPort (x : State) (op : Env → Floor → Floor) : (setLines (x.onFloor op)).outPort = x.outPort := rfl

theorem finish_outPort (s x : State) : (finish s x).outPort = x.outPort := setLines_onFloor_outPort x _

/-- R4, R16: what has passed where a bad cell silences the loop: the silence, the capture, and the slot that leaves. -/
theorem passSlot_silences {slot : Slot} (ff : Bool) (up : s.loop.up = true) (run : s.loop.badRun = 15)
    (bad : classify slot = .bad) :
    ∃ (out : Option Slot) (q q' : Queue), passSlot slot ff s = { s with
      loop := { s.loop with up := false, goodRun := 0, badRun := 16, silence := none, silenceAlert := true }
      capture := if s.tables.present = true then capturedBy s.capture s.time .badCell slot else s.capture
      outPort := out
      floor := (floorSilent s.silentEnv (s.floor.withQueue q)).withQueue q' } := by
  have silences (f : Floor) :
      countSlot slot { s with floor := f } = s.silence 16 (floorSilent s.silentEnv f) := by
    have counted : (State.counted { s with floor := f } true).loop.badRun = 16 := by simp [State.counted, countRuns, run]
    rw [countSlot_silences (s := { s with floor := f }) up run bad, goSilent_eq, counted]
    change (State.silence _ 16 (floorSilent s.silentEnv f)) = _
    generalize floorSilent s.silentEnv f = g
    rfl
  cases present : s.tables.present with
  | false =>
    have handled (t : State) (tables : t.tables = s.tables) : handleSlot slot t = (t, some slot) := by
      simp [handleSlot, handleTransparent, tables, present, bad]
    refine ⟨some slot, s.floor.queue, (floorSilent s.silentEnv s.floor).queue, ?_⟩
    have counts := silences s.floor
    rw [withQueue_self, withQueue_self]
    generalize floorSilent s.silentEnv s.floor = g at counts ⊢
    simp only [passSlot, counts, handled (s.silence 16 g) rfl]
    rfl
  | true =>
    have handled (t : State) (tables : t.tables = s.tables) :
        handleSlot slot t = ({ t with capture := capturedBy t.capture t.time .badCell slot }, none) := by
      simp [handleSlot, tables, present, bad, captureSlot_eq]
    cases ff with
    | false =>
      have counts := silences s.floor
      refine ⟨some (fillSlot slot { s.silence 16 (floorSilent s.silentEnv s.floor) with
          capture := capturedBy s.capture s.time .badCell slot }).2, s.floor.queue,
        (floorSilent s.silentEnv s.floor).queue.filled, ?_⟩
      rw [withQueue_self]
      generalize floorSilent s.silentEnv s.floor = g at counts ⊢
      simp only [passSlot, counts, handled (s.silence 16 g) rfl, fillSlot_withQueue]
      rfl
    | true =>
      refine ⟨some (fillSlot slot s).2, s.floor.queue.filled,
        (floorSilent s.silentEnv (s.floor.withQueue s.floor.queue.filled)).queue, ?_⟩
      have first := silences s.floor
      have counts := silences (s.floor.withQueue s.floor.queue.filled)
      rw [withQueue_self]
      generalize floorSilent s.silentEnv s.floor = g₀ at first
      generalize floorSilent s.silentEnv (s.floor.withQueue s.floor.queue.filled) = g at counts ⊢
      simp only [passSlot, first, fillSlot_withQueue, counts, handled (s.silence 16 _) rfl]
      rfl

end Silence

/-- Settles O12: the timer, the 16th bad cell, and a silence that does not come. -/
theorem loopSilenceHoldsAndTrips : Obligations.LoopSilenceHoldsAndTrips := by
  intro elapsed s awake silenced
  refine ⟨fun up cause => ⟨_, rfl, ?_⟩, fun slot ff up run bad => ⟨_, rfl, ?_⟩, fun lines never => ?_⟩
  · have due : silentDue elapsed s = true := by
      obtain run | ⟨limit, timer, expired⟩ := cause
      · simp [silentDue, up, run]
      · simp [silentDue, up, timer, expired]
    rw [ownEvent_taken _ s awake]
    simp only [due, if_true, goSilent_eq]
    have floor : floorSilent s.silentEnv s.floor =
        (floorSilent s.silentEnv (s.floor.withQueue s.floor.queue)).withQueue (floorSilent s.silentEnv s.floor).queue := by
      rw [withQueue_self, withQueue_self]
    generalize floorSilent s.silentEnv s.floor = g at floor ⊢
    have ends := finish_eq s (s.silence s.loop.badRun g)
    have effects := finish_silenced (x := s.silence s.loop.badRun g) (e := s.silentEnv) awake.1 rfl rfl rfl rfl floor
    generalize finish s (s.silence s.loop.badRun g) = t at ends effects ⊢
    exact ⟨ends, effects⟩
  · obtain ⟨out, q, q', passed⟩ := passSlot_silences ff up run bad
    rw [arrive_awake slot ff s awake, passed]
    generalize floor : (floorSilent s.silentEnv (s.floor.withQueue q)).withQueue q' = g
    have ends (x : State) := finish_eq s x
    have leaves (x : State) : (finish s x).outPort = x.outPort := finish_outPort s x
    have effects (x : State) := finish_silenced (s := s) (x := x) (e := s.silentEnv) (q := q) (q' := q')
    generalize finish s = ending at ends leaves effects ⊢
    exact ⟨(ends _).trans (by rw [leaves]), effects _ awake.1 rfl rfl rfl rfl floor.symm⟩
  · have undue : silentDue elapsed s = false := by
      obtain down | ⟨run, early⟩ := never
      · simp [silentDue, down]
      · cases timer : s.loop.silence with
        | none => simp [silentDue, run, timer]
        | some limit =>
          have later := early limit timer
          simp [silentDue, run, timer]
          omega
    refine congrArg Host.Outcome.next ((ownEvent_taken _ s awake).trans ?_)
    simp only [undue]
    exact finish_of_endInputs lines rfl

end Sys2Proof.Machine

/-! SUPPORT. The coming up of the loop (R14, R15). -/

namespace Sys2Proof.Machine

/-! ### What a slot's handling leaves of the loop -/

section LoopKept

variable {s : State}

@[simp] theorem reply_loop {fn : Function} {r : Req} {st : Status} {v : Int} : (reply fn r st v s).loop = s.loop := rfl

@[simp] theorem capture_loop {reason : CaptureReason} {dest source kind func : Byte} :
    (capture reason dest source kind func s).loop = s.loop := by
  simp only [capture]
  split <;> rfl

@[simp] theorem answerPoll_loop {i : Fin 4} : (answerPoll i s).loop = s.loop := by
  simp only [answerPoll]
  split <;> rfl

@[simp] theorem offerPoll_loop {i : Fin 4} : (offerPoll i s).loop = s.loop := by
  simp only [offerPoll]
  (repeat' split) <;> rfl

@[simp] theorem takeSample_loop {p : Fin 192} {raw : Int} {suspect : Bool} : (takeSample p raw suspect s).loop = s.loop := by
  have answered (t : State) : (pollAnswered p t).loop = t.loop := by
    simp only [pollAnswered]
    split
    · exact answerPoll_loop
    · rfl
  simp only [takeSample, onFloor_loop, answered]
  split <;> rfl

@[simp] theorem sampleArrives_loop {p : Fin 192} {v : Word} {status : Byte} : (sampleArrives p v status s).loop = s.loop := by
  simp only [sampleArrives, faultSample, becomeStale]
  (repeat' split) <;> simp

@[simp] theorem serveRead_loop {r : Req} : (serveRead r s).loop = s.loop := by
  have cleared (t : State) : (clearTc t).loop = t.loop := by
    simp only [clearTc]
    (repeat' split) <;> rfl
  simp only [serveRead]
  (repeat' split) <;> simp [cleared]

@[simp] theorem serveRefresh_loop {r : Req} : (serveRefresh r s).loop = s.loop := by
  simp only [serveRefresh, newPoll, captureRequest]
  (repeat' split) <;> simp

@[simp] theorem serveFunction_loop {fn : Function} {r : Req} : (serveFunction fn r s).loop = s.loop := by
  cases fn
  case cursor =>
    simp only [serveFunction, serveCursor]
    split <;> rfl
  case write =>
    simp only [serveFunction, serveWrite]
    (repeat' split) <;> rfl
  case clearShadow =>
    simp only [serveFunction, serveClearShadow]
    split <;> rfl
  case copyActive =>
    simp only [serveFunction, serveCopyActive]
    split <;> rfl
  case activate =>
    simp only [serveFunction, serveActivate]
    split <;> rfl
  case read => exact serveRead_loop
  case refresh => exact serveRefresh_loop
  all_goals simp only [serveFunction, unitFunction, servedBy, serveTransferCell, serveTransferDoneCell, serveTransferAbortCell,
    serveTimeSet, setClock, serveRestart, restartPart, serveCaptureClear, reply_loop, onFloor_loop]

@[simp] theorem serveManagement_loop {code : Byte} {r : Req} : (serveManagement code r s).loop = s.loop := by
  simp only [serveManagement, serveKnown, serveUnknown, captureRequest]
  (repeat' split) <;> simp

@[simp] theorem retryVerdict_loop {slot : Slot} {limit : Nat} : (retryVerdict slot limit s).loop = s.loop := by
  simp only [retryVerdict, interlockReply]
  (repeat' split) <;> simp

@[simp] theorem commandArrives_loop {slot : Slot} : (commandArrives slot s).1.loop = s.loop := by
  have freed : (retryFree slot.source slot.dest slot.func s).loop = s.loop := by
    simp only [retryFree]
    split <;> rfl
  simp only [commandArrives, judgeCommand, denyCommand, interlockReply]
  (repeat' split) <;> simp [freed]

/-- No handling of a slot changes the loop's state. -/
@[simp] theorem handleSlot_loop {slot : Slot} : (handleSlot slot s).1.loop = s.loop := by
  have sampled : (sampleCellArrives slot s).1.loop = s.loop := by
    simp only [sampleCellArrives]
    (repeat' split) <;> simp
  have timed : (timeCellArrives slot s).1.loop = s.loop := by
    simp only [timeCellArrives]
    split <;> rfl
  simp only [handleSlot, handleTransparent, handleGood, captureSlot, absorbRequest]
  (repeat' split) <;> simp [sampled, timed]

end LoopKept

/-! ### The loop comes up -/

/-- R15: the state of the loop that the 16th good slot leaves. -/
def State.upLoop (s : State) : LoopState :=
  { s.loop with
    up := true
    goodRun := 16
    badRun := 0
    silence := some (if s.tables.present then s.tables.active.silenceMs else 100)
    silenceAlert := false }

theorem tellOwners_only (e0 : Env) (before : Floor) (e : Env) (f : Floor) :
    tellOwners e0 before e f =
      { f with queue := (tellOwners e0 before e f).queue, channels := (tellOwners e0 before e f).channels } := by
  have frame := tellOwners_frame e0 before e f
  generalize tellOwners e0 before e f = g at frame ⊢
  obtain ⟨seq, vessels, boxes, arbiter, kilns, batches, register, accept, free⟩ := frame
  cases g
  simp_all

theorem raiseEvent_only (e : Env) (code index : Nat) (v : Int) (f : Floor) :
    raiseEvent e code index v f =
      { f with
        queue := (raiseEvent e code index v f).queue
        eventSeq := if e.operating then f.eventSeq + 1#8 else f.eventSeq } := by
  cases operating : e.operating with
  | true => rw [raiseEvent_operating (h := operating)]; rfl
  | false => rw [raiseEvent_transparent (h := operating)]; rfl

/-- R188: a kiln that is neither RUNNING nor HELD has no permit. -/
theorem permit_idle {e : Env} {f : Floor} {k : Fin 2} (notRunning : f.kilns[k].ctx.state ≠ .running)
    (notHeld : f.kilns[k].ctx.state ≠ .held) : permit e f k = false := by
  have idle : f.kilns[k].ctx.firing = false := by simpa [Ctx.firing] using ⟨notRunning, fun held => absurd held notHeld⟩
  simp only [permit, idle, Bool.false_and]

section Up

variable {s : State} {slot : Slot}

/-- R15: the slot that brings the good-cell run to 16. -/
theorem countSlot_up (down : s.loop.up = false) (run : s.loop.goodRun = 15) (notBad : classify slot ≠ .bad) :
    countSlot slot s = goUp (s.counted false) := by
  have counted : (classify slot == .bad) = false := by simp [notBad]
  simp only [countSlot, counted]
  rw [if_pos (by simp [upDue, countRuns, down, run])]
  rfl

theorem goUp_counted (run : s.loop.goodRun = 15) :
    goUp (s.counted false) = { s with loop := s.upLoop, floor := raiseEvent { s.env with loopUp := true } 2 0 0 s.floor } := by
  simp [goUp, State.counted, countRuns, State.onFloor, State.upLoop, run, silenceTime]
  rfl

/-- The state with the loop UP and LOOP_UP raised on a floor. -/
def State.upOn (s : State) (loop : LoopState) (out : Option Slot) (floor : Floor) : State :=
  { s with loop := loop, outPort := out, floor := floor }

/-- R15: the end of an event that has brought the loop UP. -/
theorem finish_up {x : State} {e : Env} {q q' : Queue}
    (floor : x.floor = (raiseEvent e 2 0 0 (s.floor.withQueue q)).withQueue q') :
    (finish s x).floor = { s.floor with
      queue := (finish s x).floor.queue
      eventSeq := if e.operating then s.floor.eventSeq + 1#8 else s.floor.eventSeq
      channels := (finish s x).floor.channels } := by
  have told := tellOwners_only s.env s.floor x.env x.floor
  rw [← finish_floor s x] at told
  rw [floor, raiseEvent_only] at told
  exact told

/-- R186: with no kiln under fire a loop that comes up changes no demand condition. -/
theorem finish_up_quiet {x : State} {e : Env} {q q' : Queue}
    (floor : x.floor = (raiseEvent e 2 0 0 (s.floor.withQueue q)).withQueue q')
    (idle : ∀ k : Fin 2, s.floor.kilns[k].ctx.state ≠ .running ∧ s.floor.kilns[k].ctx.state ≠ .held) :
    (finish s x).floor = x.floor := by
  have kilns : x.floor.kilns = s.floor.kilns := by rw [floor, raiseEvent_only]; rfl
  rw [finish_floor]
  refine tellOwners_quiet _ _ _ _ (by rw [floor, raiseEvent_only]; rfl) kilns fun k => ?_
  obtain ⟨notRunning, notHeld⟩ := idle k
  rw [permit_idle notRunning notHeld, permit_idle (by rwa [kilns]) (by rwa [kilns])]

/-- R10, R15: what has passed where an EMPTY slot brings the loop UP. -/
theorem passSlot_up (ff : Bool) (down : s.loop.up = false) (run : s.loop.goodRun = 15) (empty : classify slot = .empty) :
    ∃ (out : Option Slot) (q q' : Queue),
      passSlot slot ff s = s.upOn s.upLoop out
        ((raiseEvent { s.env with loopUp := true } 2 0 0 (s.floor.withQueue q)).withQueue q') ∧
      (ff = true → q = s.floor.queue.filled ∧
        q' = (raiseEvent { s.env with loopUp := true } 2 0 0 (s.floor.withQueue q)).queue) := by
  have counts (f : Floor) : countSlot slot { s with floor := f } =
      { s with loop := s.upLoop, floor := raiseEvent { s.env with loopUp := true } 2 0 0 f } := by
    rw [countSlot_up (s := { s with floor := f }) down run (by simp [empty]), goUp_counted (s := { s with floor := f }) run]
    rfl
  have first := counts s.floor
  cases ff with
  | false =>
    generalize raised : raiseEvent { s.env with loopUp := true } 2 0 0 s.floor = g at first
    refine ⟨some (fillSlot slot { s with loop := s.upLoop, floor := g }).2, s.floor.queue, g.queue.filled, ?_, by simp⟩
    rw [withQueue_self, raised]
    simp only [passSlot, first, handleSlot_empty empty, fillSlot_floor]
    rfl
  | true =>
    have second := counts s.floor.filled
    refine ⟨some (fillSlot slot s).2, s.floor.queue.filled, _, ?_, fun _ => ⟨rfl, rfl⟩⟩
    rw [withQueue_self]
    simp only [passSlot, first, handleSlot_empty empty, fillSlot_floor, second]
    rfl

end Up

theorem filled_of_pop {q rest : Queue} (popped : (q.pop = none ∧ rest = q) ∨ ∃ c, q.pop = some (c, rest)) :
    q.filled = rest := by
  obtain ⟨none, rfl⟩ | ⟨c, head⟩ := popped
  · simp [Queue.filled, none]
  · simp [Queue.filled, head]

theorem finish_loop (s x : State) : (finish s x).loop = x.loop := by rw [finish, setLines_loop, onFloor_loop]

theorem passSlot_upLoop {s : State} {slot : Slot} (ff : Bool) (down : s.loop.up = false) (run : s.loop.goodRun = 15)
    (notBad : classify slot ≠ .bad) : (passSlot slot ff s).loop = s.upLoop := by
  have counts (f : Floor) : (countSlot slot { s with floor := f }).loop = s.upLoop := by
    rw [countSlot_up (s := { s with floor := f }) down run notBad, goUp_counted (s := { s with floor := f }) run]
    rfl
  have first : (countSlot slot s).loop = s.upLoop := counts s.floor
  simp only [passSlot]
  (repeat' split) <;> simp [fillSlot_floor, first, counts]

/-- Settles O13: the 16th good slot, the counting, and the step LOOP_UP. -/
theorem slotsCountAndLoopComesUp : Obligations.SlotsCountAndLoopComesUp := by
  refine ⟨fun slot ff s awake down run => ⟨fun good => ⟨_, rfl, ?_⟩, fun empty => ⟨_, rfl, ?_⟩⟩, fun s good bad => ?_,
    fun s awake down run => ⟨_, rfl, ?_⟩, fun s lines steady => ?_⟩
  · rw [arrive_awake slot ff s awake]
    exact ⟨(finish_loop s _).trans (passSlot_upLoop ff down run (by simp [good])), finish_follow _ _⟩
  · obtain ⟨out, q, q', passed, filledFirst⟩ := passSlot_up ff down run empty
    rw [arrive_awake slot ff s awake, passed]
    generalize floor : (raiseEvent { s.env with loopUp := true } 2 0 0 (s.floor.withQueue q)).withQueue q' = g
    have ends := finish_eq s (s.upOn s.upLoop out g)
    have leaves := finish_outPort s (s.upOn s.upLoop out g)
    have brings := finish_up (x := s.upOn s.upLoop out g) floor.symm
    have quiet := finish_up_quiet (x := s.upOn s.upLoop out g) floor.symm
    refine ⟨finish_follow _ _, ?_, fun idle => ?_⟩
    · generalize finish s (s.upOn s.upLoop out g) = t at ends leaves brings
      rw [leaves]
      exact ends.trans (congrArg (fun floor => { s.upOn s.upLoop out floor with pins := t.pins }) brings)
    · rw [quiet idle]
      refine ⟨?_, fun present first rest popped => ?_⟩
      · change g.channels = _
        rw [← floor, raiseEvent_only]
        rfl
      · obtain ⟨rfl, rfl⟩ := filledFirst first
        change g.queue = _
        rw [← floor, raiseEvent_operating (h := present), filled_of_pop popped]
        rfl
  · have least (n : Nat) (h : n ≤ 16) : min 16 (n + 1) = if n = 16 then 16 else n + 1 := by
      split <;> omega
    simp [State.counted, countRuns, least _ good, least _ bad, silenceTime]
  · rw [takeNow_taken _ s awake]
    have due : upDue s = true := by simp [upDue, down, run]
    simp only [due, if_true]
    have ends := finish_eq s (goUp s)
    have brings := finish_up (x := goUp s) (q := s.floor.queue) (e := { s.env with loopUp := true })
      (q' := (raiseEvent { s.env with loopUp := true } 2 0 0 s.floor).queue) rfl
    have follows := finish_follow s (goUp s)
    generalize finish s (goUp s) = t at ends brings follows
    refine ⟨ends, ?_, ?_, follows⟩
    · rw [brings]
    · rw [brings]
      rfl
  · have undue : upDue s = false := by
      obtain up | short := steady
      · simp [upDue, up]
      · simp [upDue, short]
    have idle : takeNow (fun s => if upDue s then goUp s else s) s = s := by
      simp only [takeNow, undue]
      split
      · rfl
      · exact finish_of_endInputs lines rfl
    exact congrArg Host.Outcome.next idle

end Sys2Proof.Machine

/-! SUPPORT. The Excise Register: BASE, TAKE and the end of the walk (R203, R204, R206, R208). -/

namespace Sys2Proof.Machine

/-! ### Floors that differ in their queue -/

section Queues

variable (f : Floor) (q : Queue)

@[simp] theorem withQueue_queue : (f.withQueue q).queue = q := rfl

@[simp] theorem withQueue_eventSeq : (f.withQueue q).eventSeq = f.eventSeq := rfl

@[simp] theorem withQueue_vessels : (f.withQueue q).vessels = f.vessels := rfl

@[simp] theorem withQueue_channels : (f.withQueue q).channels = f.channels := rfl

@[simp] theorem withQueue_boxes : (f.withQueue q).boxes = f.boxes := rfl

@[simp] theorem withQueue_arbiter : (f.withQueue q).arbiter = f.arbiter := rfl

@[simp] theorem withQueue_kilns : (f.withQueue q).kilns = f.kilns := rfl

@[simp] theorem withQueue_batches : (f.withQueue q).batches = f.batches := rfl

@[simp] theorem withQueue_register : (f.withQueue q).register = f.register := rfl

@[simp] theorem withQueue_acceptCount : (f.withQueue q).acceptCount = f.acceptCount := rfl

@[simp] theorem withQueue_freeCount : (f.withQueue q).freeCount = f.freeCount := rfl

@[simp] theorem withQueue_findBatch (id : Nat) : (f.withQueue q).findBatch id = f.findBatch id := rfl

end Queues

/-- Two floors are one when their fields agree. -/
theorem Floor.eq_of_fields {f g : Floor} (queue : f.queue = g.queue) (eventSeq : f.eventSeq = g.eventSeq)
    (vessels : f.vessels = g.vessels) (channels : f.channels = g.channels) (boxes : f.boxes = g.boxes)
    (arbiter : f.arbiter = g.arbiter) (kilns : f.kilns = g.kilns) (batches : f.batches = g.batches)
    (register : f.register = g.register) (accept : f.acceptCount = g.acceptCount) (free : f.freeCount = g.freeCount) :
    f = g := by
  cases f
  cases g
  simp_all

/-- An event that changes no vessel and no kiln, and nothing that a permit is read from, tells the channels nothing. -/
theorem tellOwners_still (e : Env) (before f : Floor) (vessels : f.vessels = before.vessels) (kilns : f.kilns = before.kilns) :
    tellOwners e before e f = f :=
  tellOwners_quiet e before e f vessels kilns fun k => (permit_congr e e before f k rfl rfl rfl (by rw [kilns])).symm

@[simp] theorem raiseEvent_eventSeq (e : Env) (code index : Nat) (v : Int) (f : Floor) :
    (raiseEvent e code index v f).eventSeq = if e.operating then f.eventSeq + 1#8 else f.eventSeq := by
  rw [raiseEvent_only]

/-- The work of a function that a block of the floor serves; of another none. -/
def floorWork (fn : Function) (r : Req) (e : Env) : Floor → Floor :=
  match fn with
  | .start => unitCommand r.qual (serveStart e (Req.upper r) (Req.lower r)) (replyTo e .start r)
  | .hold => unitCommand r.qual (serveHoldUnit e) (replyTo e .hold r)
  | .resume => unitCommand r.qual (serveResume e) (replyTo e .resume r)
  | .manual => unitCommand r.qual (serveManual e) (replyTo e .manual r)
  | .auto => unitCommand r.qual (serveAuto e) (replyTo e .auto r)
  | .stopProgram => unitCommand r.qual (serveStopProgram e) (replyTo e .stopProgram r)
  | .discard => unitCommand r.qual (serveDiscard e) (replyTo e .discard r)
  | .transfer => serveTransfer e (Req.lower r) r.qual (replyTo e .transfer r)
  | .transferDone => serveTransferDone e (Req.lower r) (replyTo e .transferDone r)
  | .transferAbort => serveTransferAbort e (Req.lower r) (replyTo e .transferAbort r)
  | .doseStart => serveDoseStart e r.qual (Req.signed r) (replyTo e .doseStart r)
  | .unmask => serveUnmask e r.qual (replyTo e .unmask r)
  | .doseClear => serveDoseClear e (replyTo e .doseClear r)
  | .turnerEnable => serveTurnerEnable e (replyTo e .turnerEnable r)
  | .base => serveBase e r.value.toNat (replyTo e .base r)
  | .take => serveTake e (Req.signed r) (replyTo e .take r) fun v => offerReply e r.source Function.take.code r.tag v 144
  | .spot => serveSpot e r.source r.qual (replyTo e .spot r)
  | _ => id

/-- The functions that the blocks of the floor serve, but for the excise hold. -/
def floorFunctions : List Function :=
  [.start, .hold, .resume, .manual, .auto, .stopProgram, .discard, .transfer, .transferDone, .transferAbort, .doseStart,
    .unmask, .doseClear, .turnerEnable, .base, .take, .spot]

theorem serveFunction_floor {fn : Function} (mem : fn ∈ floorFunctions) (r : Req) (t : State) :
    serveFunction fn r t = t.onFloor (floorWork fn r) := by
  simp only [floorFunctions, List.mem_cons, List.not_mem_nil, or_false] at mem
  obtain rfl | rfl | rfl | rfl | rfl | rfl | rfl | rfl | rfl | rfl | rfl | rfl | rfl | rfl | rfl | rfl | rfl := mem <;> rfl

section Requests

variable {fn : Function} {r : Req} {s : State}

theorem State.Arrived.register {t : State} (h : s.Arrived t) : t.floor.register = s.floor.register := by rw [h.floor]

/-- A request that a block of the floor serves, its work done on the floor with the queue as the arrival leaves it. -/
theorem exec_ready_leaves (h : s.Ready fn r) (mem : fn ∈ floorFunctions) :
    ∃ t q q', exec (fn.command r) s = .next t ∧ s.ServedOn t ∧
      t.floor = tellOwners s.env s.floor s.env ((floorWork fn r s.env (s.floor.withQueue q)).withQueue q') := by
  have serves (t : State) : serveFunction fn { r with fillFirst := false } t = t.onFloor (floorWork fn r) := by
    rw [serveFunction_floor mem]
    cases fn <;> rfl
  obtain ⟨t, runs, served, floor⟩ := exec_ready_floor h serves
  obtain ⟨q, q', leaves⟩ := requestFloor_eq r.fillFirst (floorWork fn r) s.env s.floor
  exact ⟨t, q, q', runs, served, leaves ▸ floor⟩

/-- The same for a work that leaves vessels and kilns. -/
theorem exec_ready_still (h : s.Ready fn r) (mem : fn ∈ floorFunctions)
    (vessels : ∀ q, (floorWork fn r s.env (s.floor.withQueue q)).vessels = s.floor.vessels)
    (kilns : ∀ q, (floorWork fn r s.env (s.floor.withQueue q)).kilns = s.floor.kilns) :
    ∃ t q q', exec (fn.command r) s = .next t ∧ s.ServedOn t ∧
      t.floor = (floorWork fn r s.env (s.floor.withQueue q)).withQueue q' := by
  obtain ⟨t, q, q', runs, served, floor⟩ := exec_ready_leaves h mem
  exact ⟨t, q, q', runs, served, floor.trans (tellOwners_still _ _ _ (vessels q) (kilns q))⟩

/-- A function that is not served in TRANSPARENT mode is served in operating mode. -/
theorem State.Ready.operating (h : s.Ready fn r) (unserved : fn.servedTransparent = false) : s.env.operating = true := by
  have rights := h.rights
  rw [unserved] at rights
  change s.tables.present = true
  by_contra transparent
  simp [transparent] at rights

end Requests

/-! ### The register change notice -/

section Notice

variable {e : Env} {f : Floor}

theorem waitingTransfer_congr {g : Floor} (batches : g.batches = f.batches) (b : Fin 20) :
    waitingTransfer g b = waitingTransfer f b := by
  simp only [waitingTransfer, batches]

theorem noneWaiting_congr {g : Floor} (batches : g.batches = f.batches) (none : f.NoneWaiting) : g.NoneWaiting := fun b =>
  (waitingTransfer_congr batches b).trans (none b)

/-- R103: with no transfer waiting a register change notice does nothing. -/
theorem registerChanged_idle (none : f.NoneWaiting) : registerChanged e f = f := by
  have empty : waitingSlots f = [] := by
    have nobody : (List.finRange 20).filter (fun b => (waitingTransfer f b).isSome) = [] := by
      simp [none _]
    rw [waitingSlots, nobody]
    rfl
  rw [registerChanged, empty]
  rfl

@[simp] theorem replyTo_frame (e : Env) (fn : Function) (r : Req) (st : Status) (v : Int) (f : Floor) :
    (replyTo e fn r st v f).eventSeq = f.eventSeq ∧ (replyTo e fn r st v f).vessels = f.vessels ∧
      (replyTo e fn r st v f).channels = f.channels ∧ (replyTo e fn r st v f).boxes = f.boxes ∧
      (replyTo e fn r st v f).arbiter = f.arbiter ∧ (replyTo e fn r st v f).kilns = f.kilns ∧
      (replyTo e fn r st v f).batches = f.batches ∧ (replyTo e fn r st v f).register = f.register ∧
      (replyTo e fn r st v f).acceptCount = f.acceptCount ∧ (replyTo e fn r st v f).freeCount = f.freeCount :=
  offerReply_frame ..

/-- R206: what the register reports changes nothing but the queue and the count of events. -/
@[simp] theorem reportRegister_frame (e : Env) (before : Register) (f : Floor) :
    (reportRegister e before f).vessels = f.vessels ∧ (reportRegister e before f).channels = f.channels ∧
      (reportRegister e before f).boxes = f.boxes ∧ (reportRegister e before f).arbiter = f.arbiter ∧
      (reportRegister e before f).kilns = f.kilns ∧ (reportRegister e before f).batches = f.batches ∧
      (reportRegister e before f).register = f.register ∧ (reportRegister e before f).acceptCount = f.acceptCount ∧
      (reportRegister e before f).freeCount = f.freeCount := by
  simp only [reportRegister, reportHigh, reportState]
  (repeat' split) <;> simp

end Notice

/-! ### The end of an event on the floor -/

section Ends

variable {s t : State}

/-- An event that is work on the floor. -/
theorem finish_onFloor_took (s : State) (op : Env → Floor → Floor) : s.TookNow (finish s (s.onFloor op)) :=
  ⟨finish_eq s (s.onFloor op), finish_follow _ _⟩

theorem finish_onFloor_floor (s : State) (op : Env → Floor → Floor) :
    (finish s (s.onFloor op)).floor = tellOwners s.env s.floor s.env (op s.env s.floor) := finish_floor s (s.onFloor op)

/-- R223: ALERT# is driven while a condition holds. -/
theorem alertLow_of (lines : t.LinesFollow) (awake : t.inReset = false) (alert : alertConditions t ≠ 0) :
    t.pins.alertLow = true := by
  rw [show t.pins = linesOf t by rw [lines, State.lines]; simp [awake]]
  exact linesOf_alert alert

theorem State.TookNow.inReset (took : s.TookNow t) : t.inReset = s.inReset := by rw [took.1]

end Ends

/-! ### The walk -/

theorem walk_of_chainFrom {i : Nat} {seed : Crc16} {before : Option Nat} {l : List SampleRecord} (chain : ChainFrom seed l)
    (follows : ∀ n r, before = some n → l.head? = some r → r.number = n + 1) : walkFrom i seed before l = none := by
  induction l generalizing i seed before with
  | nil => rfl
  | cons x l ih =>
    obtain ⟨check, next, rest⟩ := (chainFrom_cons _ _ _).mp chain
    rw [walkFrom, if_pos ⟨check.symm, fun n before' => follows n x before' rfl⟩]
    exact ih rest fun n r number head => by
      obtain rfl := Option.some.inj number
      exact next r head

theorem walkFrom_le {i j : Nat} {seed : Crc16} {before : Option Nat} {l : List SampleRecord}
    (failed : walkFrom i seed before l = some j) : j ≤ i + l.length := by
  induction l generalizing i seed before with
  | nil => cases failed
  | cons x l ih =>
    rw [walkFrom] at failed
    split at failed
    · have := ih failed
      simp only [List.length_cons]
      omega
    · obtain rfl := Option.some.inj failed
      omega

theorem walkRetained_le {m : Retained} {i : Nat} (failed : walkRetained m = some i) : i ≤ 256 := by
  simp only [walkRetained] at failed
  split at failed
  · next found =>
    obtain rfl := Option.some.inj failed
    have := walkFrom_le found
    rw [List.length_take] at this
    omega
  · split at failed <;> cases failed
    omega

/-- R208: the walk finds no failure just where the chain is sound and the records are 256 at most. -/
theorem walkRetained_eq_none {m : Retained} : walkRetained m = none ↔ m.records.length ≤ 256 ∧ ChainSound m := by
  constructor
  · intro walked
    have few : m.records.length ≤ 256 := by
      simp only [walkRetained] at walked
      split at walked
      · cases walked
      · by_contra many
        rw [if_pos (.inl (by omega))] at walked
        cases walked
    have bounded : boundedRecords m = m := by
      cases m
      simp_all [boundedRecords]
    exact ⟨few, bounded ▸ chainSound_of_walk walked⟩
  · rintro ⟨few, chain, next⟩
    have follows : nextFollows m = true := by
      simp only [nextFollows]
      split
      · next newest => simpa using next _ newest
      · rfl
    have walked : walkFrom 0 m.baseCheck none m.records = none := walk_of_chainFrom chain fun _ _ never => nomatch never
    simp only [walkRetained, List.take_of_length_le few, walked, follows]
    rw [if_neg (by simpa using few)]

theorem walked_sound {r : Register} (sound : r.retained.records.length ≤ 256 ∧ ChainSound r.retained) :
    r.walked = { r with state := .ready, firstFailed := none } := by
  have bounded : boundedRecords r.retained = r.retained := by
    obtain ⟨_, retained, _, _⟩ := r
    cases retained
    simp_all [boundedRecords]
  simp only [Register.walked, walkRetained_eq_none.mpr sound, bounded]

theorem walked_unsound {r : Register} (unsound : ¬(r.retained.records.length ≤ 256 ∧ ChainSound r.retained)) :
    ∃ i, i ≤ 256 ∧ r.walked = { r with
      state := .faulted, retained := { r.retained with records := r.retained.records.take 256 }, firstFailed := some i } := by
  cases failed : walkRetained r.retained with
  | none => exact absurd (walkRetained_eq_none.mp failed) unsound
  | some i => exact ⟨i, walkRetained_le failed, by simp only [Register.walked, failed]; rfl⟩

/-- R208: the end of the walk, no transfer waiting. -/
theorem walkEnds_floor {e : Env} {f : Floor} (checking : f.register.state = .checking) (none : f.NoneWaiting) :
    walkEnds e f = { f with
      queue := (walkEnds e f).queue, eventSeq := (walkEnds e f).eventSeq, register := f.register.walked } := by
  have reports : walkEnds e f = reportRegister e f.register (f.reg Register.walked) := by
    rw [walkEnds, if_pos checking, registerChanged_idle (noneWaiting_congr (by simp [Floor.reg]) none)]
  rw [reports]
  refine Floor.eq_of_fields rfl rfl ?_ ?_ ?_ ?_ ?_ ?_ ?_ ?_ ?_ <;> simp [Floor.reg]

/-- Settles O38: the walk of a sound and of an unsound chain, and no walk. -/
theorem walkEndsReadyOrFaulted : Obligations.WalkEndsReadyOrFaulted := by
  intro s awake
  have runs : exec .walkEnd s = .next (finish s (s.onFloor walkEnds)) :=
    congrArg Host.Outcome.next (ownEvent_taken _ s awake)
  refine ⟨fun lines idle => ?_, fun checking none => ?_⟩
  · have same : s.onFloor walkEnds = s := by simp only [State.onFloor, walkEnds, if_neg idle]
    rw [runs, same, finish_of_endInputs lines rfl]
  · have walked := walkEnds_floor (e := s.env) checking none
    have floor : (finish s (s.onFloor walkEnds)).floor = walkEnds s.env s.floor := by
      rw [finish_onFloor_floor]
      exact tellOwners_still _ _ _ (by rw [walked]) (by rw [walked])
    have took := finish_onFloor_took s walkEnds
    generalize finish s (s.onFloor walkEnds) = t at runs floor took
    rw [← floor] at walked
    refine ⟨fun sound => ⟨t, runs, took, ?_⟩, fun unsound => ?_⟩
    · rw [walked_sound sound] at walked
      exact walked
    · obtain ⟨i, bound, faulted⟩ := walked_unsound unsound
      rw [faulted] at walked
      refine ⟨t, i, runs, took, bound, walked, alertLow_of took.2 (took.inReset.trans awake.1) ?_⟩
      have alert : t.floor.registerAlert = true := by
        rw [walked]
        rfl
      simp [alertConditions, alert]

/-! ### BASE and TAKE -/

/-- R204: the newest of the records removed. -/
theorem takeRecords_last {m : Retained} {k : Nat} (some' : 1 ≤ k) (held : k ≤ m.records.length) :
    ∃ last, m.records[k - 1]? = some last ∧ (m.records.take k).getLast? = some last := by
  refine ⟨m.records[k - 1], by simp, ?_⟩
  rw [List.getLast?_eq_getElem?, List.length_take, min_eq_left held, List.getElem?_take_of_lt (by omega)]
  simp

section Officer

variable {e : Env} {f : Floor} {reply : Status → Int → Floor → Floor}

theorem serveBase_checking {n : Nat} (checking : f.register.state = .checking) : serveBase e n reply f = reply .busy 0 f := by
  simp [serveBase, checking]

theorem serveBase_filled {n : Nat} (notChecking : f.register.state ≠ .checking)
    (filled : f.register.retained.records ≠ [] ∨ f.register.reservations ≠ []) :
    serveBase e n reply f = reply .refused 0 f := by
  simp only [serveBase]
  rw [if_neg notChecking, if_pos filled]

/-- R203: the register that BASE leaves. -/
theorem serveBase_based {n : Nat} (notChecking : f.register.state ≠ .checking) (noRecords : f.register.retained.records = [])
    (noReservations : f.register.reservations = []) (none : f.NoneWaiting)
    (replies : ∀ st v g, (reply st v g).batches = g.batches) :
    serveBase e n reply f = reply .ok n (reportRegister e f.register
      { f with register := ⟨.ready, ⟨[], n, 0xFFFF#16, true, true⟩, [], Option.none⟩ }) := by
  simp only [serveBase]
  rw [if_neg notChecking, if_neg (by simp [noRecords, noReservations])]
  have based : (f.reg fun r => { r with state := .ready, retained := rebase r.retained n, firstFailed := Option.none }) =
      { f with register := ⟨.ready, ⟨[], n, 0xFFFF#16, true, true⟩, [], Option.none⟩ } := by
    simp only [Floor.reg, rebase, noRecords, noReservations]
  rw [based, registerChanged_idle (noneWaiting_congr (by simp [replies]) none)]
  exact ite_self _

theorem serveTake_checking {k : Int} {second : Int → Floor → Floor} (checking : f.register.state = .checking) :
    serveTake e k reply second f = reply .busy 0 f := by
  simp [serveTake, checking]

theorem serveTake_outside {k : Int} {second : Int → Floor → Floor} (notChecking : f.register.state ≠ .checking)
    (outside : ¬(1 ≤ k ∧ k ≤ f.register.retained.records.length)) :
    serveTake e k reply second f = reply .badArgument 0 f := by
  simp only [serveTake]
  rw [if_neg notChecking, if_pos (by omega)]

/-- R204: the register that TAKE leaves. -/
theorem serveTake_takes {k : Int} {second : Int → Floor → Floor} {last : SampleRecord}
    (notChecking : f.register.state ≠ .checking) (some' : 1 ≤ k) (held : k ≤ f.register.retained.records.length)
    (newest : (f.register.retained.records.take k.toNat).getLast? = some last) (none : f.NoneWaiting)
    (replies : ∀ st v g, (reply st v g).batches = g.batches) (seconds : ∀ v g, (second v g).batches = g.batches) :
    serveTake e k reply second f = second last.check.toNat (reply .ok last.number
      { f with register := { f.register with retained := { f.register.retained with
        records := f.register.retained.records.drop k.toNat, baseCheck := last.check, valid := true } } }) := by
  simp only [serveTake]
  rw [if_neg notChecking, if_neg (by omega)]
  simp only [newest]
  have taken : (f.reg fun r => { r with retained := takeRecords r.retained k.toNat }) =
      { f with register := { f.register with retained := { f.register.retained with
        records := f.register.retained.records.drop k.toNat, baseCheck := last.check, valid := true } } } := by
    simp only [Floor.reg, takeRecords, newest]
  rw [taken, registerChanged_idle (noneWaiting_congr (by simp [replies, seconds]) none)]

/-- R206: a register that BASE has emptied reports its state if it was not READY. -/
theorem reportRegister_based_eventSeq {before : Register} {g : Floor} (operating : e.operating = true)
    (ready : g.register.state = .ready) (low : g.register.high = false) :
    (reportRegister e before g).eventSeq = if before.state = .ready then g.eventSeq else g.eventSeq + 1#8 := by
  have quiet (h : Floor) (same : h.register = g.register) : reportHigh e before h = h := by
    simp [reportHigh, same, low]
  rw [reportRegister, quiet _ (by simp only [reportState]; split <;> simp), reportState, ready]
  split <;> simp [operating]

end Officer

/-- Settles O35: BASE and TAKE, their tests and the register they leave. -/
theorem officerBasesAndTakes : Obligations.OfficerBasesAndTakes := by
  intro r s
  refine ⟨fun h => ⟨fun checking => ?_, fun notChecking filled => ?_, fun notChecking noRecords noReservations none => ?_⟩,
    fun h => ⟨fun checking => ?_, fun notChecking outside => ?_, fun notChecking some' held none => ?_⟩⟩
  · exact exec_ready_told h fun t arrived =>
      congrArg (fun f => { t with floor := f }) (serveBase_checking (arrived.register ▸ checking))
  · exact exec_ready_told h fun t arrived =>
      congrArg (fun f => { t with floor := f }) (serveBase_filled (arrived.register ▸ notChecking) (arrived.register ▸ filled))
  · have operating := h.operating rfl
    have based (q : Queue) : floorWork .base r s.env (s.floor.withQueue q) = _ :=
      serveBase_based (f := s.floor.withQueue q) (n := r.value.toNat) notChecking noRecords noReservations none (by simp)
    obtain ⟨t, q, q', runs, served, floor⟩ := exec_ready_still h (by decide) (fun q => by rw [based]; simp)
      (fun q => by rw [based]; simp)
    refine ⟨t, runs, served, ?_⟩
    rw [based] at floor
    rw [floor]
    refine Floor.eq_of_fields rfl ?_ ?_ ?_ ?_ ?_ ?_ ?_ ?_ ?_ ?_
    · simp only [withQueue_eventSeq, replyTo_frame]
      exact reportRegister_based_eventSeq operating rfl rfl
    all_goals simp
  · exact exec_ready_told h fun t arrived =>
      congrArg (fun f => { t with floor := f }) (serveTake_checking (arrived.register ▸ checking))
  · exact exec_ready_told h fun t arrived =>
      congrArg (fun f => { t with floor := f }) (serveTake_outside (arrived.register ▸ notChecking) (arrived.register ▸ outside))
  · obtain ⟨last, newest, taken⟩ := takeRecords_last (m := s.floor.register.retained) (k := r.value.toInt.toNat) (by omega)
      (by omega)
    have takes (q : Queue) : floorWork .take r s.env (s.floor.withQueue q) = _ :=
      serveTake_takes (f := s.floor.withQueue q) (k := r.value.toInt) (reply := replyTo s.env .take r)
        (second := fun v => offerReply s.env r.source Function.take.code r.tag v 144) notChecking some' held taken none
        (by simp) (by simp)
    obtain ⟨t, q, q', runs, served, floor⟩ := exec_ready_still h (by decide) (fun q => by rw [takes]; simp)
      (fun q => by rw [takes]; simp)
    refine ⟨t, last, runs, served, newest, ?_⟩
    rw [takes] at floor
    rw [floor]
    refine Floor.eq_of_fields rfl ?_ ?_ ?_ ?_ ?_ ?_ ?_ ?_ ?_ ?_ <;> simp

end Sys2Proof.Machine

/-! SUPPORT. SPOT and the votes (R36 to R40, R202). -/

namespace Sys2Proof.Machine

/-! ### Votes -/

section Votes

variable {tol a b c : Int}

theorem agree_of (near : a - b ≤ tol ∧ b - a ≤ tol) : agree tol a b = true := by simpa [agree] using near

theorem agree_not (far : ¬(a - b ≤ tol ∧ b - a ≤ tol)) : agree tol a b = false := by
  rw [agree, ← Bool.decide_and]
  exact decide_eq_false far

theorem voteValues_few {l : List Int} (few : l.length < 2) : voteValues tol l = ⟨.missing, none⟩ := by
  obtain _ | ⟨a, _ | ⟨b, l⟩⟩ := l
  · rfl
  · rfl
  · simp only [List.length_cons] at few
    omega

theorem figure_eq (v : Vote) : v.figure = v.value.getD 0 := by
  cases value : v.value <;> simp [Vote.figure, value]

end Votes

/-! ### Waiting transfers -/

theorem waitingTransfer_eq_none {f : Floor} {b : Fin 20} :
    waitingTransfer f b = none ↔ ∀ x t, f.batches[b] = some x → x.transfer = some t → t.phase ≠ .pendingSample := by
  constructor
  · intro idle x t at' moving pending
    simp only [waitingTransfer, at', moving, pending] at idle
    cases idle
  · intro idle
    simp only [waitingTransfer]
    split
    · next x at' =>
      split
      · next t moving => exact if_neg (idle x t at' moving)
      · rfl
    · rfl

/-- A change of a batch that leaves its transfer record makes nothing wait. -/
theorem noneWaiting_batch {f : Floor} {b : Fin 20} {g : Batch → Batch} (none : f.NoneWaiting)
    (transfer : ∀ x, (g x).transfer = x.transfer) : (f.batch b g).NoneWaiting := fun i => by
  rw [waitingTransfer_eq_none]
  intro y t present moving
  have before := waitingTransfer_eq_none.mp (none i)
  simp only [Floor.batch] at present
  by_cases same : b = i
  · subst same
    rw [upd_get_self] at present
    cases at' : f.batches[b] with
    | none => simp [at'] at present
    | some x =>
      obtain rfl : g x = y := by simpa [at'] using present
      exact before x t at' (transfer x ▸ moving)
  · rw [upd_get_ne _ _ same] at present
    exact before y t present moving

theorem upd_eq_set {α : Type} {n : Nat} (v : Vector α n) (i : Fin n) (f : α → α) : upd v i f = v.set i (f v[i]) := rfl

/-! ### The record -/

section Spot

variable {e : Env} {f : Floor} {reply : Status → Int → Floor → Floor} {u : PlantUnit} {officer qual : Byte} {id : Nat}
  {b : Fin 20} {x : Batch}

/-- R202: the SPOT record of a unit's batch, as it is sealed. -/
def spotRecord (e : Env) (m : Retained) (id : Nat) (u : PlantUnit) (officer : Byte) : SampleRecord :=
  sealRecord m
    { sampleOf e .spot id u.index (unitVotes e u).1.figure (unitVotes e u).1.status (unitVotes e u).2.figure
        (unitVotes e u).2.status with officer := some officer }

theorem serveSpot_unnamed (unnamed : unitOf qual.toNat = none) : serveSpot e officer qual reply f = reply .badArgument 0 f := by
  simp only [serveSpot, unitOfByte, unnamed]

theorem serveSpot_checking (named : unitOf qual.toNat = some u) (checking : f.register.state = .checking) :
    serveSpot e officer qual reply f = reply .busy 0 f := by
  simp only [serveSpot, unitOfByte, named, checking, if_true]

theorem serveSpot_notReady (named : unitOf qual.toNat = some u)
    (notReady : f.register.state = .unset ∨ f.register.state = .faulted) :
    serveSpot e officer qual reply f = reply .refused 0 f := by
  simp only [serveSpot, unitOfByte, named]
  obtain state | state := notReady <;> simp [state]

theorem serveSpot_vacant (named : unitOf qual.toNat = some u) (ready : f.register.state = .ready)
    (vacant : (f.ctx u).batch = none) : serveSpot e officer qual reply f = reply .refused 0 f := by
  simp [serveSpot, unitOfByte, named, ready, vacant]

theorem serveSpot_full (named : unitOf qual.toNat = some u) (ready : f.register.state = .ready)
    (holds : (f.ctx u).batch = some id) (found : f.findBatch id = some b) (full : f.register.room 1 = false) :
    serveSpot e officer qual reply f = reply .full 0 f := by
  simp [serveSpot, unitOfByte, named, ready, holds, found, full]

theorem serveSpot_writes (named : unitOf qual.toNat = some u) (ready : f.register.state = .ready)
    (holds : (f.ctx u).batch = some id) (found : f.findBatch id = some b) (room : f.register.room 1 = true)
    (none : f.NoneWaiting) (replies : ∀ st v g, (reply st v g).batches = g.batches) :
    serveSpot e officer qual reply f = reply .ok f.register.retained.next (writeSpot e b id u officer f) := by
  simp only [serveSpot, unitOfByte, named]
  rw [if_neg (by simp [ready]), if_neg (by simp [ready])]
  simp only [holds, found, room]
  refine registerChanged_idle (noneWaiting_congr ?_ (noneWaiting_batch (b := b)
    (g := (·.sampled f.register.retained.next (unitVotes e u).1.status (unitVotes e u).2.status)) none fun _ => rfl))
  simp [replies, writeSpot, Floor.reg, Floor.batch]

/-- R100, R200, R202: what the writing of a SPOT record leaves. -/
theorem writeSpot_floor (at' : f.batches[b] = some x) :
    writeSpot e b id u officer f = { f with
      queue := (writeSpot e b id u officer f).queue
      eventSeq := (writeSpot e b id u officer f).eventSeq
      batches := f.batches.set b
        (some (x.sampled f.register.retained.next (unitVotes e u).1.status (unitVotes e u).2.status))
      register := { f.register with
        retained := { f.register.retained with
          records := f.register.retained.records ++ [spotRecord e f.register.retained id u officer]
          next := f.register.retained.next + 1
          valid := true } } } := by
  refine Floor.eq_of_fields rfl rfl ?_ ?_ ?_ ?_ ?_ ?batches ?register ?_ ?_
  case batches => simp [writeSpot, Floor.reg, Floor.batch, upd_eq_set, show f.batches[(b : Nat)] = some x from at']
  case register => simp [writeSpot, Floor.reg, Floor.batch, writeRecord, spotRecord]
  all_goals simp [writeSpot, Floor.reg, Floor.batch]

end Spot

/-- Settles O36: the vote of three, of two and of fewer; and SPOT, its tests and its record. -/
theorem spotWritesRecord : Obligations.SpotWritesRecord := by
  refine ⟨fun e g => ⟨fun a b c three => ?_, fun a b two => ?_, fun few => ?_⟩, fun r s h =>
    ⟨fun unnamed => ?_, fun u named => ⟨fun checking => ?_, fun notReady => ?_, fun ready vacant => ?_,
      fun b x ready holds found at' => ⟨fun full => ?_, fun room none => ?_⟩⟩⟩⟩
  · have vote : e.vote g = voteThree (max 0 (e.bank.field 3 g 3)) a b c := congrArg (voteValues _) three
    refine ⟨fun ab ac bc => ?_, fun ab ac bc => ?_, fun ab ac bc => ?_, fun ab ac bc => ?_, fun ab ac bc => ?_,
      fun ab ac bc => ?_, fun ab ac bc => ?_, fun ab ac bc => ?_⟩
    · rw [vote, voteThree, agree_of ab, agree_of ac, agree_of bc]; rfl
    · rw [vote, voteThree, agree_of ab, agree_of ac, agree_not bc]
    · rw [vote, voteThree, agree_of ab, agree_not ac, agree_of bc]
    · rw [vote, voteThree, agree_not ab, agree_of ac, agree_of bc]
    · rw [vote, voteThree, agree_of ab, agree_not ac, agree_not bc]; rfl
    · rw [vote, voteThree, agree_not ab, agree_of ac, agree_not bc]; rfl
    · rw [vote, voteThree, agree_not ab, agree_not ac, agree_of bc]; rfl
    · rw [vote, voteThree, agree_not ab, agree_not ac, agree_not bc]
  · have vote : e.vote g = voteValues (max 0 (e.bank.field 3 g 3)) [a, b] := congrArg (voteValues _) two
    refine ⟨fun near => ?_, fun far => ?_⟩
    · rw [vote, voteValues, agree_of near]; rfl
    · rw [vote, voteValues, agree_not far]; rfl
  · exact voteValues_few few
  · exact exec_ready_told h fun t _ => congrArg (fun f => { t with floor := f }) (serveSpot_unnamed unnamed)
  · exact exec_ready_told h fun t arrived =>
      congrArg (fun f => { t with floor := f }) (serveSpot_checking named (arrived.register ▸ checking))
  · exact exec_ready_told h fun t arrived =>
      congrArg (fun f => { t with floor := f }) (serveSpot_notReady named (arrived.register ▸ notReady))
  · exact exec_ready_told h fun t arrived =>
      congrArg (fun f => { t with floor := f })
        (serveSpot_vacant named (arrived.register ▸ ready) (arrived.ctx u ▸ vacant))
  · refine exec_ready_told h fun t arrived =>
      congrArg (fun f => { t with floor := f })
        (serveSpot_full (b := b) named (arrived.register ▸ ready) (arrived.ctx u ▸ holds) ?_ (arrived.register ▸ full))
    rw [arrived.floor]
    exact found
  · have writes (q : Queue) : floorWork .spot r s.env (s.floor.withQueue q) = _ :=
      serveSpot_writes (f := s.floor.withQueue q) (reply := replyTo s.env .spot r) named ready holds found room none (by simp)
    have written (q : Queue) := writeSpot_floor (e := s.env) (f := s.floor.withQueue q) (b := b) (u := u) (id := x.id)
      (officer := r.source) at'
    obtain ⟨t, q, q', runs, served, floor⟩ := exec_ready_still h (by decide) (fun q => by rw [writes, written]; simp)
      (fun q => by rw [writes, written]; simp)
    refine ⟨t, runs, served, spotRecord s.env s.floor.register.retained x.id u r.source, ?_, rfl, rfl, rfl, rfl, rfl, rfl, rfl,
      rfl, rfl, rfl, figure_eq _, figure_eq _, rfl, rfl, sealRecord_check _ _⟩
    rw [writes, written] at floor
    rw [floor]
    refine Floor.eq_of_fields rfl rfl ?_ ?_ ?_ ?_ ?_ ?_ ?_ ?_ ?_ <;> simp [Batch.sampled, unverifiedBy]

end Sys2Proof.Machine

/-! SUPPORT. The records of the dosing channels after each operation (R131 to R140), and the end of a step that was due. -/

namespace Sys2Proof.Machine

/-! ### The valve -/

/-- R132: a channel's record once its valve is decided; `pending` says that a changed decision's offer was refused. -/
def Channel.turned (second : Nat) (want : ValveDecision) (pending : Bool) (x : Channel) : Channel :=
  if x.valve = want then x
  else
    { x with valve := want, closeTime := if want = .closed then some second else x.closeTime, valvePending := pending }

section Turned

variable (second : Nat) (want : ValveDecision) (pending : Bool) (x : Channel)

@[simp] theorem turned_state : (x.turned second want pending).state = x.state := by
  unfold Channel.turned; split <;> rfl

@[simp] theorem turned_masked : (x.turned second want pending).masked = x.masked := by
  unfold Channel.turned; split <;> rfl

@[simp] theorem turned_base : (x.turned second want pending).base = x.base := by
  unfold Channel.turned; split <;> rfl

@[simp] theorem turned_current : (x.turned second want pending).current = x.current := by
  unfold Channel.turned; split <;> rfl

@[simp] theorem turned_tc : (x.turned second want pending).tc = x.tc := by
  unfold Channel.turned; split <;> rfl

@[simp] theorem turned_overrun : (x.turned second want pending).overrun = x.overrun := by
  unfold Channel.turned; split <;> rfl

@[simp] theorem turned_lastReading : (x.turned second want pending).lastReading = x.lastReading := by
  unfold Channel.turned; split <;> rfl

@[simp] theorem turned_demand : (x.turned second want pending).demand = x.demand := by
  unfold Channel.turned; split <;> rfl

@[simp] theorem turned_note : (x.turned second want pending).note = x.note := by
  unfold Channel.turned; split <;> rfl

@[simp] theorem turned_valve : (x.turned second want pending).valve = want := by
  unfold Channel.turned
  split
  · next same => exact same
  · rfl

@[simp] theorem turned_isOpen : (x.turned second want pending).isOpen = x.isOpen := by simp [Channel.isOpen]

end Turned

section Channels

variable {e : Env} {c : Fin 12} {f : Floor}

theorem upd_id {α : Type} {n : Nat} (v : Vector α n) (i : Fin n) : upd v i id = v := by
  ext j bound
  exact (upd_get v i ⟨j, bound⟩ id).trans (ite_self _)

theorem upd_congr {α : Type} {n : Nat} (v : Vector α n) (i : Fin n) {f g : α → α} (same : f v[i] = g v[i]) :
    upd v i f = upd v i g := by
  rw [upd_eq_set, upd_eq_set, same]

theorem upd_upd {α : Type} {n : Nat} (v : Vector α n) (i : Fin n) (f g : α → α) : upd (upd v i f) i g = upd v i (g ∘ f) := by
  simp [upd_eq_set]

/-- An offer of a valve's cell changes no more than the pending flag of its channel. -/
theorem offerValve_channels (e : Env) (c : Fin 12) (f : Floor) :
    ∃ p, (offerValve e c f).channels = upd f.channels c fun x => { x with valvePending := p } := by
  unfold offerValve
  split
  · refine ⟨f.channels[c].valvePending, ?_⟩
    exact (upd_id f.channels c).symm.trans (upd_congr _ _ rfl)
  · exact ⟨_, rfl⟩

theorem setValve_channels (e : Env) (c : Fin 12) (want : ValveDecision) (f : Floor) :
    ∃ p, (setValve e c want f).channels = upd f.channels c (Channel.turned e.second want p) := by
  unfold setValve
  split
  · next same =>
    refine ⟨false, (upd_id f.channels c).symm.trans (upd_congr _ _ ?_)⟩
    exact (if_pos same).symm
  · next other =>
    obtain ⟨p, offered⟩ := offerValve_channels e c
      (f.channel c fun x => { x with valve := want, closeTime := if want = .closed then some e.second else x.closeTime })
    refine ⟨p, offered.trans ?_⟩
    rw [channel_channels, upd_upd]
    exact upd_congr _ _ (if_neg other).symm

/-- A channel's record once it enters a state. -/
def Channel.entered (second : Nat) (st : ChannelState) (pending : Bool) (x : Channel) : Channel :=
  Channel.turned second (if st = .active then .opened else .closed) pending { x with state := st }

theorem enterChannel_channels (e : Env) (c : Fin 12) (st : ChannelState) (f : Floor) :
    ∃ p, (enterChannel e c st f).channels = upd f.channels c (Channel.entered e.second st p) := by
  obtain ⟨p, valve⟩ := setValve_channels e c (if st = .active then .opened else .closed)
    (f.channel c fun x => { x with state := st })
  refine ⟨p, valve.trans ?_⟩
  rw [channel_channels, upd_upd]
  rfl

theorem stopChannel_channels (e : Env) (c : Fin 12) (f : Floor) :
    ∃ p, (stopChannel e c f).channels =
      upd f.channels c fun x => if x.isOpen then x.entered e.second .stopped p else x := by
  unfold stopChannel
  split
  · next isOpen =>
    obtain ⟨p, entered⟩ := enterChannel_channels e c .stopped f
    exact ⟨p, entered.trans (upd_congr _ _ (if_pos isOpen).symm)⟩
  · next shut =>
    exact ⟨false, (upd_id f.channels c).symm.trans (upd_congr _ _ (if_neg shut).symm)⟩

/-- R135: a channel that has been told STOP is not open. -/
theorem stopChannel_shut : (stopChannel e c f).channels[c].isOpen = false := by
  obtain ⟨p, stopped⟩ := stopChannel_channels e c f
  rw [stopped, upd_get_self]
  split
  · simp [Channel.entered, Channel.isOpen]
  · next shut => simpa using shut

/-- R135: the channel that a unit's binding names is not open once it is told STOP. -/
theorem stopUnitChannel_shut {u : PlantUnit} (binds : e.bank.unitChannel u = some c) :
    (stopUnitChannel e u f).channels[c].isOpen = false := by
  simp only [stopUnitChannel, binds]
  exact stopChannel_shut

/-- R136: a channel's record once it is told its demand condition; `demanding` says that its mode is DEMAND. -/
def Channel.told (second : Nat) (demanding d pending : Bool) (x : Channel) : Channel :=
  if demanding = true ∧ x.state = .active ∧ d = false then { x with demand := d }.entered second .paused pending
  else if demanding = true ∧ x.state = .paused ∧ d = true then { x with demand := d }.entered second .active pending
  else { x with demand := d }

theorem tellDemand_channels (e : Env) (c : Fin 12) (d : Bool) (f : Floor) :
    ∃ p, (tellDemand e c d f).channels =
      upd f.channels c (Channel.told e.second (decide (e.bank.channelMode c = .demand)) d p) := by
  have entering (st : ChannelState) :
      ∃ p, (enterChannel e c st (f.channel c fun x => { x with demand := d })).channels =
        upd f.channels c fun x => { x with demand := d }.entered e.second st p := by
    obtain ⟨p, entered⟩ := enterChannel_channels e c st (f.channel c fun x => { x with demand := d })
    exact ⟨p, entered.trans (upd_upd ..)⟩
  have state : (f.channel c fun x => { x with demand := d }).channels[c].state = f.channels[c].state := by
    rw [channel_channels, upd_get_self]
  simp only [tellDemand]
  split
  · next demanding =>
    split
    · next active =>
      obtain ⟨p, entered⟩ := entering .paused
      refine ⟨p, entered.trans (upd_congr _ _ (if_pos ?_).symm)⟩
      exact ⟨by simp [demanding], state.symm.trans active, rfl⟩
    · next paused =>
      obtain ⟨p, entered⟩ := entering .active
      refine ⟨p, entered.trans (upd_congr _ _ ?_)⟩
      rw [state] at paused
      simp only [Channel.told, demanding, paused]
      rfl
    · next notActive notPaused =>
      refine ⟨false, (channel_channels ..).trans (upd_congr _ _ ?_)⟩
      rw [state] at notActive notPaused
      rw [Channel.told, if_neg fun h => notActive h.2.1 h.2.2, if_neg fun h => notPaused h.2.1 h.2.2]
  · next other => exact ⟨false, (channel_channels ..).trans (upd_congr _ _ (by simp [Channel.told, other]))⟩

theorem entered_isOpen (second : Nat) (st : ChannelState) (pending : Bool) (x : Channel) :
    (x.entered second st pending).isOpen = (st == .active || st == .paused) := by
  simp [Channel.entered, Channel.isOpen]

/-- R136: what is told to a channel opens or shuts none. -/
theorem told_isOpen (second : Nat) (demanding d pending : Bool) (x : Channel) :
    (x.told second demanding d pending).isOpen = x.isOpen := by
  unfold Channel.told
  split
  · next active => rw [entered_isOpen]; simp [Channel.isOpen, active.2.1]
  · split
    · next paused => rw [entered_isOpen]; simp [Channel.isOpen, paused.2.1]
    · rfl

theorem tellDemand_isOpen (d : Bool) (j : Fin 12) : (tellDemand e c d f).channels[j].isOpen = f.channels[j].isOpen := by
  obtain ⟨p, told⟩ := tellDemand_channels e c d f
  rw [told, upd_get]
  split
  · rw [told_isOpen]
  · rfl

theorem tellKiln_cases (e : Env) (k : Fin 2) (f : Floor) : tellKiln e k f = f ∨ ∃ c d, tellKiln e k f = tellDemand e c d f := by
  simp only [tellKiln]
  split
  · exact .inr ⟨_, _, rfl⟩
  · exact .inl rfl

theorem tellVessel_cases (before : Floor) (e : Env) (f : Floor) (v : Fin 6) :
    tellVessel before e f v = f ∨ ∃ c d, tellVessel before e f v = tellDemand e c d f := by
  simp only [tellVessel]
  split
  · exact .inl rfl
  · split
    · exact .inr ⟨_, _, rfl⟩
    · exact .inl rfl

theorem tellChangedKiln_cases (e₀ : Env) (before : Floor) (e : Env) (f : Floor) (k : Fin 2) :
    tellChangedKiln e₀ before e f k = f ∨ tellChangedKiln e₀ before e f k = tellKiln e k f := by
  simp only [tellChangedKiln]
  split
  · exact .inl rfl
  · exact .inr rfl

theorem tellKiln_isOpen (k : Fin 2) (j : Fin 12) : (tellKiln e k f).channels[j].isOpen = f.channels[j].isOpen := by
  obtain same | ⟨c, d, told⟩ := tellKiln_cases e k f
  · rw [same]
  · rw [told, tellDemand_isOpen]

/-- What the owners tell their channels opens or shuts none. -/
theorem tellOwners_isOpen (e₀ : Env) (before : Floor) (j : Fin 12) :
    (tellOwners e₀ before e f).channels[j].isOpen = f.channels[j].isOpen := by
  have vessels (g : Floor) (v : Fin 6) : (tellVessel before e g v).channels[j].isOpen = g.channels[j].isOpen := by
    obtain same | ⟨c, d, told⟩ := tellVessel_cases before e g v
    · rw [same]
    · rw [told, tellDemand_isOpen]
  have kilns (g : Floor) (k : Fin 2) : (tellChangedKiln e₀ before e g k).channels[j].isOpen = g.channels[j].isOpen := by
    obtain same | told := tellChangedKiln_cases e₀ before e g k
    · rw [same]
    · rw [told, tellKiln_isOpen]
  rw [tellOwners]
  exact (foldl_keeps (fun g : Floor => g.channels[j].isOpen) _ kilns _ _).trans
    (foldl_keeps (fun g : Floor => g.channels[j].isOpen) _ vessels _ _)

end Channels

/-! ### A step that was due -/

section Due

variable {s t : State} {i : Instr}

/-- A step that is due and that is work on the floor. -/
theorem exec_due_floor (awake : s.inReset = false) (due : i ∈ s.due) {op : Env → Floor → Floor}
    (runs : exec i s = .next (takeDue i (fun u => u.onFloor op) s)) :
    ∃ t, exec i s = .next t ∧ s.TookDue t i ∧ t.floor = tellOwners s.env s.floor s.env (op s.env s.floor) := by
  refine ⟨_, runs, ?_, ?_⟩
  · rw [takeDue_taken i _ s awake due]
    exact ⟨finish_eq s _, finish_follow _ _⟩
  · rw [takeDue_taken i _ s awake due]
    exact finish_floor s _

theorem State.TookDue.inReset (took : s.TookDue t i) : t.inReset = s.inReset := by rw [took.1]

theorem State.TookDue.env (took : s.TookDue t i) : t.env = s.env := by rw [took.1]; rfl

/-- R188: the line of a kiln that has no permit is low. -/
theorem permit_low {k : Fin 2} (lines : t.LinesFollow) (awake : t.inReset = false) (none : permit t.env t.floor k = false) :
    t.pins.permits[k] = false := by
  rw [show t.pins = linesOf t by rw [lines, State.lines]; simp [awake]]
  fin_cases k <;> exact none

theorem alertConditions_tripped (tripped : t.floor.anyTripped = true) : alertConditions t ≠ 0 := by
  simp [alertConditions, tripped]

theorem anyTripped_of {f : Floor} {k : Fin 2} (tripped : f.kilns[k].ctx.state = .tripped) : f.anyTripped = true := by
  fin_cases k <;> simp_all [Floor.anyTripped]

end Due

end Sys2Proof.Machine

/-! SUPPORT. The records of the kilns after each operation (R176, R183, R185, R186), and the ends of phases: O56. -/

namespace Sys2Proof.Machine

/-! ### Output records -/

section Records

variable (e : Env) (k : Fin 2) (f : Floor)

theorem withRecord_self (x : Kiln) (o : KilnOutput) : x.withRecord o (x.record o) = x := by cases o <;> rfl

theorem withRecord_withRecord (x : Kiln) (o : KilnOutput) (r r' : SetRecord) :
    (x.withRecord o r).withRecord o r' = x.withRecord o r' := by cases o <;> rfl

theorem record_withRecord (x : Kiln) (o : KilnOutput) (r : SetRecord) : (x.withRecord o r).record o = r := by cases o <;> rfl

/-- R183: an offer of an output changes no more than its pending flag. -/
theorem offerKiln_kilns (o : KilnOutput) :
    ∃ p, (offerKiln e k o f).kilns = upd f.kilns k fun x => x.withRecord o ⟨(x.record o).value, p⟩ := by
  unfold offerKiln
  split
  · next a v _ value =>
    refine ⟨!(offerCommand (kilnCell e k a v) f).2, (kiln_kilns ..).trans (upd_congr _ _ ?_)⟩
    exact congrArg (fun v => f.kilns[k].withRecord o ⟨v, !(offerCommand (kilnCell e k a _) f).2⟩) value.symm
  · exact ⟨(f.kilns[k].record o).pending, (upd_id f.kilns k).symm.trans (upd_congr _ _ (withRecord_self _ o).symm)⟩

theorem sendKiln_kilns (o : KilnOutput) (v : Int) :
    ∃ p, (sendKiln e k o v f).kilns = upd f.kilns k fun x => x.withRecord o ⟨some v, p⟩ := by
  obtain ⟨p, offered⟩ := offerKiln_kilns e k (f.kiln k fun x => x.withRecord o ⟨some v, (x.record o).pending⟩) o
  refine ⟨p, offered.trans ?_⟩
  rw [kiln_kilns, upd_upd]
  refine upd_congr _ _ ?_
  simp only [Function.comp_apply, record_withRecord, withRecord_withRecord]

theorem decideKiln_kilns (o : KilnOutput) (v : Int) :
    ∃ p, (decideKiln e k o v f).kilns = upd f.kilns k fun x => x.withRecord o ⟨some v, p⟩ := by
  unfold decideKiln
  split
  · next same =>
    refine ⟨(f.kilns[k].record o).pending, (upd_id f.kilns k).symm.trans (upd_congr _ _ ?_)⟩
    rw [← same]
    exact (withRecord_self _ o).symm
  · exact sendKiln_kilns e k f o v

/-- A kiln's record once both outputs are decided; the flags say that their offers were refused. -/
def Kiln.decided (setpoint fan : Int) (p q : Bool) (x : Kiln) : Kiln :=
  { x with burner := ⟨some setpoint, p⟩, fan := ⟨some fan, q⟩ }

theorem decideBoth_kilns (setpoint fan : Int) :
    ∃ p q, (decideBoth e k setpoint fan f).kilns = upd f.kilns k (Kiln.decided setpoint fan p q) := by
  obtain ⟨p, burner⟩ := decideKiln_kilns e k f .burner setpoint
  obtain ⟨q, both⟩ := decideKiln_kilns e k (decideKiln e k .burner setpoint f) .fan fan
  refine ⟨p, q, both.trans ?_⟩
  rw [burner, upd_upd]
  rfl

theorem decidePhase_kilns :
    ∃ p q, (decidePhase e k f).kilns =
      upd f.kilns k fun x => x.decided x.setpoint (phaseFan x.ctx.fields) p q := by
  obtain ⟨p, q, decided⟩ := decideBoth_kilns e k f f.kilns[k].setpoint (phaseFan f.kilns[k].ctx.fields)
  exact ⟨p, q, decided.trans (upd_congr _ _ rfl)⟩

/-- A kiln's record once its pending outputs are offered again. -/
def Kiln.reoffered (p q : Bool) (x : Kiln) : Kiln :=
  { x with burner := { x.burner with pending := p }, fan := { x.fan with pending := q } }

theorem reofferRecord_kilns (o : KilnOutput) :
    ∃ p, (reofferRecord e k o f).kilns = upd f.kilns k fun x => x.withRecord o ⟨(x.record o).value, p⟩ := by
  unfold reofferRecord
  split
  · exact offerKiln_kilns e k f o
  · exact ⟨(f.kilns[k].record o).pending, (upd_id f.kilns k).symm.trans (upd_congr _ _ (withRecord_self _ o).symm)⟩

theorem reofferKiln_kilns : ∃ p q, (reofferKiln e k f).kilns = upd f.kilns k (Kiln.reoffered p q) := by
  obtain ⟨p, burner⟩ := reofferRecord_kilns e k f .burner
  obtain ⟨q, both⟩ := reofferRecord_kilns e k (reofferRecord e k .burner f) .fan
  refine ⟨p, q, both.trans ?_⟩
  rw [burner, upd_upd]
  rfl

/-- R186: as a kiln leaves a FREE_DRY phase it adds what its channel has delivered. -/
theorem endPeat_kilns :
    ∃ n, (endPeat e k f).kilns = upd f.kilns k fun x => { x with peat := .none, peatDelivered := n } := by
  have unchanged : f.kilns = upd f.kilns k fun x => { x with peatDelivered := f.kilns[k].peatDelivered } :=
    (upd_id f.kilns k).symm.trans (upd_congr _ _ rfl)
  have ended {g : Floor} {n : Nat} (added : g.kilns = upd f.kilns k fun x => { x with peatDelivered := n }) :
      (g.kiln k fun x => { x with peat := .none }).kilns =
        upd f.kilns k fun x => { x with peat := .none, peatDelivered := n } := by
    rw [kiln_kilns, added, upd_upd]
    rfl
  unfold endPeat
  split
  · next c _ =>
    by_cases feeding : f.kilns[k].peat = .filling
    · refine ⟨f.kilns[k].peatDelivered + (stopChannel e c f).channels[c].delivered, ended ?_⟩
      rw [if_pos feeding, (tellDemand_frame ..).2.2.2.2.1, kiln_kilns, (stopChannel_frame ..).2.2.2.2.1]
      exact upd_congr _ _ rfl
    · refine ⟨f.kilns[k].peatDelivered, ended ?_⟩
      rw [if_neg feeding, (tellDemand_frame ..).2.2.2.2.1]
      exact unchanged
  · exact ⟨_, ended unchanged⟩

end Records

/-! ### Phases -/

section Phases

variable {e : Env} {k : Fin 2} {f : Floor}

/-- R176: a phase that calls for no peat, or a kiln without a peat channel. -/
def NoPeat (e : Env) (k : Fin 2) (fields : List Int) : Prop :=
  phaseKind fields ≠ .freeDry ∨ phasePeat fields ≤ 0 ∨ e.bank.unitChannel (.kiln k) = none

theorem beginPeat_none (none : NoPeat e k f.kilns[k].ctx.fields) :
    beginPeat e k f = f.kiln k fun x => { x with peat := .none } := by
  unfold beginPeat
  split
  · next bound =>
    rw [if_neg]
    rintro ⟨freeDry, peat⟩
    obtain other | nothing | unbound := none
    · exact other freeDry
    · exact absurd peat (by omega)
    · rw [bound] at unbound
      cases unbound
  · rfl

/-- R176: a kiln's record as it enters the phase that it holds, before its outputs are decided. -/
def Kiln.inPhase (atStart : Bool) (x : Kiln) : Kiln :=
  { x with
    timer := 0
    setpoint := if atStart then x.setpoint else clamp 0 (entryCeiling x.ctx.entry) (phaseStart x.ctx.fields)
    cure := if phaseKind x.ctx.fields = .cure then 0 else x.cure }

theorem enterPhase_plain (atStart : Bool) (none : NoPeat e k f.kilns[k].ctx.fields) :
    ∃ p q, (enterPhase e k atStart f).kilns = upd f.kilns k fun x =>
      { x.inPhase atStart with peat := .none }.decided (x.inPhase atStart).setpoint (phaseFan x.ctx.fields) p q := by
  have entered : (f.kiln k (Kiln.inPhase atStart)).kilns[k].ctx = f.kilns[k].ctx := by
    rw [kiln_kilns, upd_get_self]
    rfl
  have begun : beginPeat e k (f.kiln k (Kiln.inPhase atStart)) =
      (f.kiln k (Kiln.inPhase atStart)).kiln k fun x => { x with peat := .none } :=
    beginPeat_none (by rw [entered]; exact none)
  obtain ⟨p, q, decided⟩ := decidePhase_kilns e k (beginPeat e k (f.kiln k (Kiln.inPhase atStart)))
  refine ⟨p, q, decided.trans ?_⟩
  rw [begun, kiln_kilns, kiln_kilns, upd_upd, upd_upd]
  rfl

/-- R185: the floor as a phase ends, before its boundary is met. -/
def phaseLeft (e : Env) (k : Fin 2) (code : Nat) (value : Int) (f : Floor) : Floor :=
  let f := raiseEvent e code (18 + k) value f
  if phaseKind f.kilns[k].ctx.fields = .freeDry then endPeat e k f else f

theorem phaseLeft_kilns (e : Env) (k : Fin 2) (code : Nat) (value : Int) (f : Floor) :
    ∃ peat n, (phaseLeft e k code value f).kilns =
      upd f.kilns k fun x => { x with peat := peat, peatDelivered := n } := by
  have raised : (raiseEvent e code (18 + k) value f).kilns = f.kilns := by simp
  by_cases freeDry : phaseKind (raiseEvent e code (18 + k) value f).kilns[k].ctx.fields = .freeDry
  · obtain ⟨n, ended⟩ := endPeat_kilns e k (raiseEvent e code (18 + k) value f)
    refine ⟨.none, n, ?_⟩
    simp only [phaseLeft, if_pos freeDry]
    rw [ended, raised]
  · refine ⟨f.kilns[k].peat, f.kilns[k].peatDelivered, ?_⟩
    simp only [phaseLeft, if_neg freeDry]
    exact raised.trans ((upd_id f.kilns k).symm.trans (upd_congr _ _ rfl))

@[simp] theorem phaseLeft_ctx (u : PlantUnit) (code : Nat) (value : Int) : (phaseLeft e k code value f).ctx u = f.ctx u := by
  simp only [phaseLeft]
  split <;> simp

variable {code : Nat} {value : Int}

theorem endPhase_next {p : Position} (next : boundary e.bank (.kiln k) f.kilns[k].ctx = .next p) :
    endPhase e k code value f =
      enterPhase e k false ((phaseLeft e k code value f).kiln k fun x => { x with ctx := { x.ctx with pos := some p } }) := by
  have held : (phaseLeft e k code value f).kilns[k].ctx = f.kilns[k].ctx := phaseLeft_ctx (.kiln k) code value
  rw [← held] at next
  simp only [phaseLeft] at next ⊢
  simp only [endPhase, next]

theorem endPhase_gone {i : Nat} (gone : boundary e.bank (.kiln k) f.kilns[k].ctx = .gone i) :
    endPhase e k code value f = enterGone e (.kiln k) i (phaseLeft e k code value f) := by
  have held : (phaseLeft e k code value f).kilns[k].ctx = f.kilns[k].ctx := phaseLeft_ctx (.kiln k) code value
  rw [← held] at gone
  simp only [phaseLeft] at gone ⊢
  simp only [endPhase, gone]

/-- R85: the program that a kiln has ended, for its event. -/
def Ctx.program (c : Ctx) : Int := match c.pos with | some p => p.program | none => 0

theorem endPhase_ended (ended : boundary e.bank (.kiln k) f.kilns[k].ctx = .ended) :
    endPhase e k code value f =
      decideBoth e k 0 (phaseFan f.kilns[k].ctx.fields) (raiseEvent e 9 (18 + k) f.kilns[k].ctx.program
        ((phaseLeft e k code value f).kiln k fun x => { x with ctx := x.ctx.enter .done })) := by
  have held : (phaseLeft e k code value f).kilns[k].ctx = f.kilns[k].ctx := phaseLeft_ctx (.kiln k) code value
  rw [← held] at ended ⊢
  simp only [phaseLeft] at ended ⊢
  simp only [endPhase, ended]
  rfl

/-! ### What stays of the others -/

theorem beginPeat_ctx_other {u : PlantUnit} (other : u ≠ .kiln k) : (beginPeat e k f).ctx u = f.ctx u := by
  have based (g : Kiln → Kiln) (g' : Floor) (same : ∀ x, (g x).ctx = x.ctx) : (g'.kiln k g).ctx u = g'.ctx u :=
    kiln_ctx_same u g' k same
  simp only [beginPeat]
  split
  · split
    · split
      · rw [startPeat_ctx, tellKiln_ctx, based _ _ (by intro; rfl)]
      · rw [enterHeld_ctx, if_neg other, startPeat_ctx, tellKiln_ctx, based _ _ (by intro; rfl)]
    · exact based _ _ (by intro; rfl)
  · exact based _ _ (by intro; rfl)

theorem enterPhase_ctx_other {u : PlantUnit} (other : u ≠ .kiln k) (atStart : Bool) :
    (enterPhase e k atStart f).ctx u = f.ctx u := by
  simp only [enterPhase, decidePhase_ctx]
  rw [beginPeat_ctx_other other, kiln_ctx, if_neg other]

theorem endPhase_ctx_other {u : PlantUnit} (other : u ≠ .kiln k) : (endPhase e k code value f).ctx u = f.ctx u := by
  cases met : boundary e.bank (.kiln k) f.kilns[k].ctx with
  | ended => rw [endPhase_ended met, decideBoth_ctx, raiseEvent_ctx, kiln_ctx, if_neg other, phaseLeft_ctx]
  | next p => rw [endPhase_next met, enterPhase_ctx_other other, kiln_ctx, if_neg other, phaseLeft_ctx]
  | gone i => rw [endPhase_gone met, enterGone, enterHeld_ctx, if_neg other, updCtx_ctx, if_neg other, phaseLeft_ctx]

theorem endPhase_onlyUnit : f.OnlyUnit (.kiln k) (endPhase e k code value f) where
  others _ other := endPhase_ctx_other other
  batches := by simp
  register := by simp
  acceptCount := by simp

/-- What is told to the channels changes no unit, no batch and no record. -/
theorem onlyUnit_told {e₀ e₁ : Env} {before g : Floor} {u : PlantUnit} (only : f.OnlyUnit u g) :
    f.OnlyUnit u (tellOwners e₀ before e₁ g) where
  others w other := (tellOwners_ctx ..).trans (only.others w other)
  batches := by simpa using only.batches
  register := by simpa using only.register
  acceptCount := by simpa using only.acceptCount

/-! ### The ends of a phase -/

/-- R176, R185: a kiln enters its next phase, which calls for no peat. -/
theorem endPhase_enters {p : Position} (next : boundary e.bank (.kiln k) f.kilns[k].ctx = .next p) (none : NoPeat e k p.fields) :
    let y := (endPhase e k code value f).kilns[k]
    y.ctx = { f.kilns[k].ctx with pos := some p } ∧ y.timer = 0 ∧
      y.setpoint = clamp 0 (entryCeiling p.entry) (phaseStart p.fields) ∧ y.peat = .none := by
  obtain ⟨peat, n, left⟩ := phaseLeft_kilns e k code value f
  have placed : ((phaseLeft e k code value f).kiln k fun x => { x with ctx := { x.ctx with pos := some p } }).kilns[k].ctx =
      { f.kilns[k].ctx with pos := some p } := by
    rw [kiln_kilns, left, upd_upd, upd_get_self]
    rfl
  obtain ⟨a, b, entered⟩ := enterPhase_plain (e := e) (k := k)
    (f := (phaseLeft e k code value f).kiln k fun x => { x with ctx := { x.ctx with pos := some p } }) false
    (by rw [placed]; exact none)
  rw [endPhase_next next, entered, kiln_kilns, left, upd_upd, upd_upd, upd_get_self]
  exact ⟨rfl, rfl, rfl, rfl⟩

/-- R185: a kiln ends its last phase. -/
theorem endPhase_ends (ended : boundary e.bank (.kiln k) f.kilns[k].ctx = .ended) :
    let y := (endPhase e k code value f).kilns[k]
    y.ctx = { f.kilns[k].ctx with state := .done, reason := none, resume := none, noted := none } ∧ y.burner.value = some 0 ∧
      y.fan.value = some (phaseFan f.kilns[k].ctx.fields) := by
  obtain ⟨peat, n, left⟩ := phaseLeft_kilns e k code value f
  obtain ⟨a, b, decided⟩ := decideBoth_kilns e k (raiseEvent e 9 (18 + k) f.kilns[k].ctx.program
    ((phaseLeft e k code value f).kiln k fun x => { x with ctx := x.ctx.enter .done })) 0 (phaseFan f.kilns[k].ctx.fields)
  have raised (g : Floor) : (raiseEvent e 9 (18 + k) f.kilns[k].ctx.program g).kilns = g.kilns := by simp
  rw [endPhase_ended ended, decided, raised, kiln_kilns, left, upd_upd, upd_upd, upd_get_self]
  exact ⟨rfl, rfl, rfl⟩

/-- R86: the next phase is gone. -/
theorem endPhase_isGone {i : Nat} (gone : boundary e.bank (.kiln k) f.kilns[k].ctx = .gone i) :
    (endPhase e k code value f).kilns[k].ctx = { f.kilns[k].ctx.heldFor .programGone with noted := some i } := by
  rw [endPhase_gone gone]
  have held : (enterGone e (.kiln k) i (phaseLeft e k code value f)).ctx (.kiln k) = _ := enterHeld_ctx ..
  rw [if_pos rfl, updCtx_ctx, if_pos rfl, phaseLeft_ctx] at held
  exact held

end Phases

/-- R184: the phase maximum ends the phase of a RUNNING kiln, with an event of some code. -/
theorem phaseMaximum_ends {e : Env} {k : Fin 2} {f : Floor} (running : f.kilns[k].ctx.state = .running)
    (maximum : phaseMaxTime f.kilns[k].ctx.fields ≤ f.kilns[k].timer) :
    ∃ code value, phaseMaximum e k f = endPhase e k code value f := by
  simp only [phaseMaximum]
  rw [if_pos ⟨running, maximum⟩]
  split
  · exact ⟨_, _, rfl⟩
  · exact ⟨_, _, rfl⟩

/-- R190: a kiln that trips is the only unit that changes. -/
theorem tripKiln_onlyUnit {e : Env} {k : Fin 2} {f : Floor} (cause : TripCause) : f.OnlyUnit (.kiln k) (tripKiln e k cause f) where
  others w other := by rw [tripKiln_ctx, if_neg fun h => other h.1]
  batches := by simp
  register := by simp
  acceptCount := by simp

/-- R190 step 3: a kiln that trips stops its channel. -/
theorem tripKiln_shut {e : Env} {k : Fin 2} {f : Floor} {c : Fin 12} {cause : TripCause}
    (live : f.kilns[k].ctx.state = .running ∨ f.kilns[k].ctx.state = .held) (binds : e.bank.unitChannel (.kiln k) = some c) :
    (tripKiln e k cause f).channels[c].isOpen = false := by
  have shut (g : Floor) : (stopUnitChannel e (.kiln k) g).channels[c].isOpen = false := stopUnitChannel_shut binds
  simp only [tripKiln, if_pos live, raiseEvent_frame, kiln_channels]
  exact shut _

/-- Settles O56: the maximum of a phase and the flame-lost trip. -/
theorem phasesEndAndFlamesTrip : Obligations.PhasesEndAndFlamesTrip := by
  intro s k awake
  refine ⟨fun due running maximum => ?_, fun due live grace => ?_⟩
  · obtain ⟨t, runs, took, floor⟩ := exec_due_floor awake due (op := fun e => phaseMaximum e k) rfl
    obtain ⟨code, value, ends⟩ := phaseMaximum_ends (e := s.env) running maximum
    rw [ends] at floor
    have kilns : t.floor.kilns = (endPhase s.env k code value s.floor).kilns := by
      rw [floor]
      simp
    refine ⟨t, runs, took, ?_, fun p next none => ?_, fun ended => ?_, fun i gone => ?_⟩
    · rw [floor]
      exact onlyUnit_told endPhase_onlyUnit
    · rw [kilns]
      exact endPhase_enters next none
    · rw [kilns]
      exact endPhase_ends ended
    · rw [kilns]
      exact endPhase_isGone gone
  · obtain ⟨t, runs, took, floor⟩ := exec_due_floor awake due (op := fun e => flameLost e k) rfl
    have lost : flameLost s.env k s.floor = tripKiln s.env k .flameLost s.floor := by
      refine if_pos ?_
      simpa [flameDue] using ⟨live, grace⟩
    rw [lost] at floor
    have kiln : t.floor.kilns[k] = s.floor.kilns[k].tripped s.env k .flameLost := by
      rw [floor, (tellOwners_frame ..).2.2.2.2.1]
      exact tripKiln_live .flameLost live
    have tripped : t.floor.kilns[k].ctx.state = .tripped := by
      rw [kiln]
      rfl
    have awake' : t.inReset = false := took.inReset.trans awake
    refine ⟨t, runs, took, ?_, kiln, ?_, ?_, fun c binds => ?_⟩
    · rw [floor]
      exact onlyUnit_told (tripKiln_onlyUnit .flameLost)
    · exact permit_low took.2 awake' (permit_idle (by rw [tripped]; decide) (by rw [tripped]; decide))
    · exact alertLow_of took.2 awake' (alertConditions_tripped (anyTripped_of tripped))
    · rw [floor, tellOwners_isOpen]
      exact tripKiln_shut live binds

end Sys2Proof.Machine

/-! SUPPORT. The evaluation of a kiln (R177 to R185): O55. -/

namespace Sys2Proof.Machine

section Evaluation

variable {e : Env} {k : Fin 2} {f : Floor}

/-! ### The water account -/

/-- What an evaluation accounts for, and a phase's end leaves. -/
def Kiln.account (x : Kiln) : Option Int × Nat × Nat × Nat × Bool × Nat × Nat × Nat :=
  (x.filter, x.removed, x.carry, x.moisture, x.skipNote, x.skipped, x.dry, x.water)

/-- From `f` to `g` no kiln's account has changed. -/
def Floor.SameAccount (f g : Floor) : Prop := ∀ j : Fin 2, g.kilns[j].account = f.kilns[j].account

variable {base g : Floor}

theorem Floor.SameAccount.refl (f : Floor) : f.SameAccount f := fun _ => rfl

theorem Floor.SameAccount.of_kilns (h : base.SameAccount f) (same : g.kilns = f.kilns) : base.SameAccount g := fun j => by
  rw [same, h j]

theorem Floor.SameAccount.kiln (h : base.SameAccount f) {op : Kiln → Kiln} (same : ∀ x, (op x).account = x.account) :
    base.SameAccount (f.kiln k op) := fun j => by
  rw [kiln_kilns, upd_get]
  split
  · rw [same, h j]
  · exact h j

theorem enterHeld_account {r : HoldReason} {back : ResumeState} (h : base.SameAccount f) :
    base.SameAccount (enterHeld e (.kiln k) r back f) := by
  refine (h.kiln (k := k) (op := fun x => { x with ctx := x.ctx.enterHeld r back }) (by intro; rfl)).of_kilns ?_
  rw [enterHeld, (raiseEvent_frame ..).2.2.2.2.1]
  rfl

theorem kilnTerminal_account {n : Nat} (h : base.SameAccount f) : base.SameAccount (kilnTerminal k n f) :=
  h.kiln fun x => by split_ifs <;> rfl

theorem startPeat_account {c : Fin 12} (h : base.SameAccount f) : base.SameAccount (startPeat e k c f).1 := by
  have started : base.SameAccount (startChannel e (.kiln k) c (f.kiln k fun x => { x with peat := .filling }).kilns[k].peatBase
      (f.kiln k fun x => { x with peat := .filling })).1 :=
    (h.kiln (by intro; rfl)).of_kilns (startChannel_frame ..).2.2.2.2.1
  simp only [startPeat]
  split
  · exact started.kiln (by intro; rfl)
  · exact started
  · simp only [terminalCountWith]
    refine Floor.SameAccount.of_kilns (kilnTerminal_account ?_) (raiseEvent_frame ..).2.2.2.2.1
    exact started.of_kilns (by simp)

theorem beginPeat_account (h : base.SameAccount f) : base.SameAccount (beginPeat e k f) := by
  simp only [beginPeat]
  split
  · next c _ =>
    have begun : base.SameAccount (startPeat e k c (tellKiln e k (f.kiln k fun x => { x with peatBase := peatBaseOf x }))).1 :=
      startPeat_account ((h.kiln (by intro; rfl)).of_kilns (tellKiln_frame ..).2.2.2.2.1)
    split
    · split
      · exact begun
      · exact enterHeld_account begun
    · exact h.kiln (by intro; rfl)
  · exact h.kiln (by intro; rfl)

theorem decideBoth_account {setpoint fan : Int} (h : base.SameAccount f) : base.SameAccount (decideBoth e k setpoint fan f) := by
  obtain ⟨p, q, decided⟩ := decideBoth_kilns e k f setpoint fan
  exact (h.kiln (k := k) (op := Kiln.decided setpoint fan p q) (by intro; rfl)).of_kilns decided

theorem enterPhase_account {atStart : Bool} (h : base.SameAccount f) : base.SameAccount (enterPhase e k atStart f) :=
  decideBoth_account (beginPeat_account (h.kiln (by intro; rfl)))

/-- R178 to R181: what an evaluation has accounted stands as the phase ends. -/
theorem endPhase_account {code : Nat} {value : Int} (h : base.SameAccount f) :
    base.SameAccount (endPhase e k code value f) := by
  obtain ⟨peat, n, left⟩ := phaseLeft_kilns e k code value f
  have start : base.SameAccount (phaseLeft e k code value f) :=
    (h.kiln (k := k) (op := fun x => { x with peat := peat, peatDelivered := n }) (by intro; rfl)).of_kilns left
  cases met : boundary e.bank (.kiln k) f.kilns[k].ctx with
  | ended =>
    rw [endPhase_ended met]
    exact decideBoth_account ((start.kiln (by intro; rfl)).of_kilns (raiseEvent_frame ..).2.2.2.2.1)
  | next p =>
    rw [endPhase_next met]
    exact enterPhase_account (start.kiln (by intro; rfl))
  | gone i =>
    rw [endPhase_gone met]
    refine enterHeld_account (start.kiln (k := k) (op := fun x => { x with ctx := { x.ctx with noted := some i } }) ?_)
    intro
    rfl

/-! ### The stages -/

/-- R184: the cure integral after an evaluation. -/
def curedTo (e : Env) (k : Fin 2) (x : Kiln) : Nat :=
  min (2 ^ 32 - 1) (x.cure + cureGain (e.ton k).value (entryCureBase x.ctx.entry) e.bank.evalSeconds)

/-- R183: a kiln's record once its phase goes on: it ramps, and decides its outputs. -/
def Kiln.ramped (p q : Bool) (x : Kiln) : Kiln :=
  { x with setpoint := rampStep x }.decided (rampStep x) (phaseFan x.ctx.fields) p q

theorem ramp_kilns (e : Env) (k : Fin 2) (f : Floor) :
    ∃ p q, (decidePhase e k (f.kiln k fun x => { x with setpoint := rampStep x })).kilns = upd f.kilns k (Kiln.ramped p q) := by
  obtain ⟨p, q, decided⟩ := decidePhase_kilns e k (f.kiln k fun x => { x with setpoint := rampStep x })
  refine ⟨p, q, decided.trans ?_⟩
  rw [kiln_kilns, upd_upd]
  rfl

/-- R182, R184: the stages end the phase of a kiln that is not in CURE. -/
theorem kilnStages_ends (met : (phaseKind f.kilns[k].ctx.fields = .freeDry ∧ breakCome f.kilns[k] = true) ∨
    exitMet e k f.kilns[k] = true) : ∃ code value, kilnStages e k f = endPhase e k code value f := by
  simp only [kilnStages]
  split
  · exact ⟨_, _, rfl⟩
  · next notBreak =>
    have exit : exitMet e k f.kilns[k] = true := met.resolve_left notBreak
    exact ⟨_, _, if_pos exit⟩

/-- R183: the stages of a kiln whose phase goes on. -/
theorem kilnStages_goesOn (notCure : phaseKind f.kilns[k].ctx.fields ≠ .cure)
    (notBreak : ¬(phaseKind f.kilns[k].ctx.fields = .freeDry ∧ breakCome f.kilns[k] = true))
    (notExit : exitMet e k f.kilns[k] = false) :
    kilnStages e k f = decidePhase e k (f.kiln k fun x => { x with setpoint := rampStep x }) := by
  simp only [kilnStages]
  rw [if_neg notBreak, if_neg (by rw [notExit]; decide), if_neg notCure]

/-- R183, R184: the floor of a kiln in CURE once it has ramped and its integral has grown. -/
def curedFloor (e : Env) (k : Fin 2) (f : Floor) : Floor :=
  (decidePhase e k (f.kiln k fun x => { x with setpoint := rampStep x })).kiln k fun x => { x with cure := curedTo e k x }

/-- R184: the stages of a kiln in CURE: the integral grows, and ends the phase or not. -/
theorem kilnStages_cure (cure : phaseKind f.kilns[k].ctx.fields = .cure) :
    ∃ p q g, g.kilns = upd f.kilns k (fun x => { x.ramped p q with cure := curedTo e k x }) ∧ (∀ u, g.ctx u = f.ctx u) ∧
      if phaseExit f.kilns[k].ctx.fields ≤ curedTo e k f.kilns[k] then ∃ code value, kilnStages e k f = endPhase e k code value g
      else kilnStages e k f = g := by
  obtain ⟨p, q, ramped⟩ := ramp_kilns e k f
  have kilns : (curedFloor e k f).kilns = upd f.kilns k fun x => { x.ramped p q with cure := curedTo e k x } := by
    rw [curedFloor, kiln_kilns, ramped, upd_upd]
    rfl
  have at' : (curedFloor e k f).kilns[k] = { f.kilns[k].ramped p q with cure := curedTo e k f.kilns[k] } := by
    rw [kilns, upd_get_self]
  refine ⟨p, q, curedFloor e k f, kilns, fun u => ?_, ?_⟩
  · rw [curedFloor, kiln_ctx_same u _ k (by intro; rfl), decidePhase_ctx, kiln_ctx_same u _ k (by intro; rfl)]
  · have noBreak : ¬(phaseKind f.kilns[k].ctx.fields = .freeDry ∧ breakCome f.kilns[k] = true) := fun h => by
      rw [cure] at h
      cases h.1
    have noExit : ¬exitMet e k f.kilns[k] = true := by simp only [exitMet, cure]; decide
    have shape : kilnStages e k f =
        if phaseExit (curedFloor e k f).kilns[k].ctx.fields ≤ (curedFloor e k f).kilns[k].cure then
          endPhase e k 36 (curedFloor e k f).kilns[k].ctx.item (curedFloor e k f)
        else curedFloor e k f := by
      simp only [kilnStages]
      rw [if_neg noBreak, if_neg noExit, if_pos cure]
      rfl
    rw [shape, at']
    change if phaseExit f.kilns[k].ctx.fields ≤ curedTo e k f.kilns[k] then _ else _
    split
    · next full => exact ⟨_, _, if_pos full⟩
    · next short => exact if_neg short

/-! ### The evaluation -/

theorem kilnReofferAfter_kilns (e : Env) (k : Fin 2) (f : Floor) :
    ∃ p q, (kilnReofferAfter e k f).kilns = upd f.kilns k (Kiln.reoffered p q) := by
  simp only [kilnReofferAfter]
  split
  · exact ⟨_, _, (upd_id f.kilns k).symm.trans (upd_congr _ _ rfl)⟩
  · exact reofferKiln_kilns e k f

theorem kilnEvaluate_evaluates (state : f.kilns[k].ctx.state ∈ [UnitState.running, .held, .tripped, .done]) :
    kilnEvaluate e k f = kilnEvaluate.evaluate e k f := by
  simp only [List.mem_cons, List.not_mem_nil, or_false] at state
  simp only [kilnEvaluate]
  obtain state | state | state | state := state <;> rw [state]

/-- R177: one of the readings is missing. -/
theorem evaluate_missing (missing : ∃ i ∈ kilnInputs e.bank k, (e.point i).usable = false) :
    ∃ p q, (kilnEvaluate.evaluate e k f).kilns =
      upd f.kilns k fun x => { x with skipped := min 65535 (x.skipped + 1), skipNote := true }.reoffered p q := by
  obtain ⟨i, input, gone⟩ := missing
  simp only [kilnEvaluate.evaluate]
  split
  · next j _ =>
    have noted (g : Floor) : (if f.kilns[k].skipNote = true then g else raiseEvent e 33 (18 + k) j g).kilns = g.kilns := by
      split <;> simp
    obtain ⟨p, q, after⟩ := kilnReofferAfter_kilns e k
      (if f.kilns[k].skipNote = true then f.kiln k fun x => { x with skipped := min 65535 (x.skipped + 1), skipNote := true }
        else raiseEvent e 33 (18 + k) j (f.kiln k fun x => { x with skipped := min 65535 (x.skipped + 1), skipNote := true }))
    refine ⟨p, q, after.trans ?_⟩
    rw [noted, kiln_kilns, upd_upd]
    rfl
  · next found =>
    have usable := List.find?_eq_none.mp found i input
    simp [gone] at usable

/-- R178 to R185: what a performed evaluation leaves before it re-offers. -/
def evaluated (e : Env) (k : Fin 2) (f : Floor) : Floor :=
  if (f.kiln k (kilnAccount e k)).kilns[k].ctx.state = .running then kilnStages e k (f.kiln k (kilnAccount e k))
  else f.kiln k (kilnAccount e k)

theorem evaluate_performed (present : ¬∃ i ∈ kilnInputs e.bank k, (e.point i).usable = false) :
    ∃ p q, (kilnEvaluate.evaluate e k f).kilns = upd (evaluated e k f).kilns k (Kiln.reoffered p q) := by
  have found : (kilnInputs e.bank k).find? (fun i => !(e.point i).usable) = none := by
    rw [List.find?_eq_none]
    intro i input gone
    exact present ⟨i, input, by simpa using gone⟩
  simp only [kilnEvaluate.evaluate, found]
  exact kilnReofferAfter_kilns e k _

theorem evaluate_ctx_other {u : PlantUnit} (other : u ≠ .kiln k) : (kilnEvaluate.evaluate e k f).ctx u = f.ctx u := by
  have stages (g : Floor) : (kilnStages e k g).ctx u = g.ctx u := by
    simp only [kilnStages]
    split_ifs <;> simp [endPhase_ctx_other other, kiln_ctx_same]
  simp only [kilnEvaluate.evaluate]
  split
  · rw [kilnReofferAfter_ctx]
    split_ifs
    · exact kiln_ctx_same u f k (by intro; rfl)
    · rw [raiseEvent_ctx]
      exact kiln_ctx_same u f k (by intro; rfl)
  · rw [kilnReofferAfter_ctx]
    split_ifs
    · rw [stages]
      exact kiln_ctx_same u f k (by intro; rfl)
    · exact kiln_ctx_same u f k (by intro; rfl)

/-- R182: the break, of a kiln whose filter has a newest value. -/
theorem breakCome_iff {x : Kiln} {newest : Int} {rest : List Int} (history : x.history = newest :: rest) :
    breakCome x = true ↔
      (∃ old, x.history[entryWindow x.ctx.entry]? = some old ∧ entryBreakRise x.ctx.entry ≤ newest - old ∧
        (x.noBasis = true ∨ (x.moisture : Int) ≤ entryBreakMoisture x.ctx.entry)) ∨
      (x.noBasis = false ∧ (x.moisture : Int) ≤ entryForcedBreak x.ctx.entry) := by
  have rise : kilnRise x = (x.history[entryWindow x.ctx.entry]?).map fun old => newest - old := by
    simp only [kilnRise]
    rw [history]
    cases (newest :: rest)[entryWindow x.ctx.entry]? <;> rfl
  simp only [breakCome, rise]
  cases x.history[entryWindow x.ctx.entry]? <;> simp

/-- A phase ends on a floor whose contexts and accounts are those of another. -/
def EndsFrom (e : Env) (k : Fin 2) (f h : Floor) : Prop :=
  ∃ code value g, h = endPhase e k code value g ∧ (∀ u, g.ctx u = f.ctx u) ∧ f.SameAccount g

theorem kilnStages_account : f.SameAccount (kilnStages e k f) := by
  have ramped : f.SameAccount (decidePhase e k (f.kiln k fun x => { x with setpoint := rampStep x })) :=
    decideBoth_account ((Floor.SameAccount.refl f).kiln (by intro; rfl))
  simp only [kilnStages]
  split
  · exact endPhase_account (.refl f)
  · split
    · exact endPhase_account (.refl f)
    · split
      · split
        · exact endPhase_account (ramped.kiln (by intro; rfl))
        · exact ramped.kiln (by intro; rfl)
      · exact ramped

/-- R85, R185: what the end of a phase leaves of the kiln, its pending outputs offered again. -/
theorem endsFrom_leaves {h : Floor} {p q : Bool} (ends : EndsFrom e k f h) :
    let x := f.kilns[k]
    let y := h.kilns[k].reoffered p q
    (∀ r, boundary e.bank (.kiln k) x.ctx = .next r → NoPeat e k r.fields →
      y.ctx = { x.ctx with pos := some r } ∧ y.timer = 0 ∧
        y.setpoint = clamp 0 (entryCeiling r.entry) (phaseStart r.fields) ∧ y.peat = .none) ∧
    (boundary e.bank (.kiln k) x.ctx = .ended →
      y.ctx = { x.ctx with state := .done, reason := none, resume := none, noted := none } ∧
        y.burner.value = some 0 ∧ y.fan.value = some (phaseFan x.ctx.fields)) ∧
    (∀ i, boundary e.bank (.kiln k) x.ctx = .gone i → y.ctx = { x.ctx.heldFor .programGone with noted := some i }) := by
  obtain ⟨code, value, g, rfl, ctx, -⟩ := ends
  have same : g.kilns[k].ctx = f.kilns[k].ctx := ctx (.kiln k)
  have enters (r : Position) := endPhase_enters (e := e) (k := k) (f := g) (code := code) (value := value) (p := r)
  have ended := endPhase_ends (e := e) (k := k) (f := g) (code := code) (value := value)
  have gone (i : Nat) := endPhase_isGone (e := e) (k := k) (f := g) (code := code) (value := value) (i := i)
  rw [same] at ended gone
  simp only [same] at enters
  generalize (endPhase e k code value g).kilns[k] = z at enters ended gone ⊢
  exact ⟨fun r next none => enters r next none, fun met => ended met, fun i met => gone i met⟩

theorem exitMet_freeDry {x : Kiln} (kind : phaseKind x.ctx.fields = .freeDry) : exitMet e k x = false := by
  simp only [exitMet, kind]

theorem exitMet_forcedDry {x : Kiln} (kind : phaseKind x.ctx.fields = .forcedDry) :
    exitMet e k x = true ↔ x.noBasis = false ∧ (x.moisture : Int) ≤ phaseExit x.ctx.fields := by
  simp [exitMet, kind]

theorem exitMet_cool {x : Kiln} (kind : phaseKind x.ctx.fields = .cool) :
    exitMet e k x = true ↔ (e.ton k).usable = true ∧ (e.ton k).value ≤ phaseExit x.ctx.fields := by
  simp [exitMet, kind]

/-- R183: what the stages leave of a kiln whose phase goes on. -/
theorem stages_goOn {p q : Bool} (notCure : phaseKind f.kilns[k].ctx.fields ≠ .cure)
    (notBreak : ¬(phaseKind f.kilns[k].ctx.fields = .freeDry ∧ breakCome f.kilns[k] = true))
    (notExit : exitMet e k f.kilns[k] = false) :
    let x := f.kilns[k]
    let y := (kilnStages e k f).kilns[k].reoffered p q
    y.ctx = x.ctx ∧ y.timer = x.timer ∧ y.setpoint = rampStep x ∧ y.burner.value = some (rampStep x) ∧
      y.fan.value = some (phaseFan x.ctx.fields) ∧ y.peat = x.peat := by
  obtain ⟨a, b, ramped⟩ := ramp_kilns e k f
  rw [kilnStages_goesOn notCure notBreak notExit, ramped, upd_get_self]
  exact ⟨rfl, rfl, rfl, rfl, rfl, rfl⟩

theorem endsFrom_of_eq (ends : ∃ code value, kilnStages e k f = endPhase e k code value f) :
    EndsFrom e k f (kilnStages e k f) := by
  obtain ⟨code, value, eq⟩ := ends
  exact ⟨code, value, f, eq, fun _ => rfl, .refl f⟩

end Evaluation

theorem ite_of_pos {c a b : Prop} [Decidable c] (h : c) (x : a) : if c then a else b := by rwa [if_pos h]

theorem ite_of_neg {c a b : Prop} [Decidable c] (h : ¬c) (x : b) : if c then a else b := by rwa [if_neg h]

/-- Settles O55: an evaluation that is skipped, one that only accounts, and one that ends its phase or goes on. -/
theorem kilnEvaluationAccounts : Obligations.KilnEvaluationAccounts := by
  intro s k awake due state
  obtain ⟨t, runs, took, floor⟩ := exec_due_floor awake due (op := fun e => kilnEvaluate e k) rfl
  rw [kilnEvaluate_evaluates state] at floor
  obtain ⟨-, -, -, batches, register, accept, -⟩ := kilnEvaluate.evaluate_frame s.env k s.floor
  have kilns : t.floor.kilns = (kilnEvaluate.evaluate s.env k s.floor).kilns := by
    rw [floor]
    simp
  have only : s.floor.OnlyUnit (.kiln k) t.floor := by
    rw [floor]
    exact onlyUnit_told ⟨fun w other => evaluate_ctx_other other, batches, register, accept⟩
  have held : (s.floor.kiln k (kilnAccount s.env k)).kilns[k] = kilnAccount s.env k s.floor.kilns[k] := by
    rw [kiln_kilns, upd_get_self]
  refine ⟨t, runs, took, only, by rw [floor]; simp, by rw [floor]; simp, by rw [floor]; simp,
    fun missing => ?_, fun present idle => ?_, fun present running => ?_⟩
  · obtain ⟨p, q, skipped⟩ := evaluate_missing (e := s.env) (f := s.floor) missing
    rw [kilns, skipped, upd_get_self]
    rfl
  · obtain ⟨p, q, performed⟩ := evaluate_performed (e := s.env) (f := s.floor) present
    have only : evaluated s.env k s.floor = s.floor.kiln k (kilnAccount s.env k) := by
      refine if_neg ?_
      rw [held]
      exact idle
    rw [kilns, performed, only, upd_get_self, held]
    exact ⟨⟨rfl, rfl, rfl, rfl, rfl, rfl, rfl, rfl⟩, rfl⟩
  · obtain ⟨p, q, performed⟩ := evaluate_performed (e := s.env) (f := s.floor) present
    have staged : evaluated s.env k s.floor = kilnStages s.env k (s.floor.kiln k (kilnAccount s.env k)) := by
      refine if_pos ?_
      rw [held]
      exact running
    have y : t.floor.kilns[k] = (kilnStages s.env k (s.floor.kiln k (kilnAccount s.env k))).kilns[k].reoffered p q := by
      rw [kilns, performed, staged, upd_get_self]
    have account := kilnStages_account (e := s.env) (k := k) (f := s.floor.kiln k (kilnAccount s.env k)) k
    have cure := kilnStages_cure (e := s.env) (k := k) (f := s.floor.kiln k (kilnAccount s.env k))
    have goesOn := stages_goOn (e := s.env) (k := k) (f := s.floor.kiln k (kilnAccount s.env k)) (p := p) (q := q)
    have ends := kilnStages_ends (e := s.env) (k := k) (f := s.floor.kiln k (kilnAccount s.env k))
    have leaves := endsFrom_leaves (e := s.env) (k := k) (f := s.floor.kiln k (kilnAccount s.env k)) (p := p) (q := q)
      (h := kilnStages s.env k (s.floor.kiln k (kilnAccount s.env k)))
    have fromEq := endsFrom_of_eq (e := s.env) (k := k) (f := s.floor.kiln k (kilnAccount s.env k))
    rw [held] at account cure goesOn ends leaves
    have notCure {kind : PhaseKind} (is : phaseKind (kilnAccount s.env k s.floor.kilns[k]).ctx.fields = kind)
        (other : kind ≠ .cure) : phaseKind (kilnAccount s.env k s.floor.kilns[k]).ctx.fields ≠ .cure := is ▸ other
    rw [y]
    refine ⟨?_, fun kind => ?_, fun kind => ?_, fun kind => ?_, fun kind => ?_⟩
    · simp only [Kiln.account, Prod.mk.injEq] at account
      exact account
    · have breaks := breakCome_iff (x := kilnAccount s.env k s.floor.kilns[k]) (by rfl)
      by_cases broken : breakCome (kilnAccount s.env k s.floor.kilns[k]) = true
      · exact ite_of_pos (breaks.mp broken) (leaves (fromEq (ends (.inl ⟨kind, broken⟩))))
      · exact ite_of_neg (fun h => broken (breaks.mpr h)) (goesOn (notCure kind (by decide)) (fun h => broken h.2)
          (exitMet_freeDry kind))
    · have dries := exitMet_forcedDry (e := s.env) (k := k) (x := kilnAccount s.env k s.floor.kilns[k]) kind
      by_cases dried : exitMet s.env k (kilnAccount s.env k s.floor.kilns[k]) = true
      · exact ite_of_pos (dries.mp dried) (leaves (fromEq (ends (.inr dried))))
      · exact ite_of_neg (fun h => dried (dries.mpr h)) (goesOn (notCure kind (by decide))
          (fun h => absurd (h.1.symm.trans kind) (by decide)) (Bool.eq_false_iff.mpr dried))
    · have cools := exitMet_cool (e := s.env) (k := k) (x := kilnAccount s.env k s.floor.kilns[k]) kind
      by_cases cooled : exitMet s.env k (kilnAccount s.env k s.floor.kilns[k]) = true
      · exact ite_of_pos (cools.mp cooled) (leaves (fromEq (ends (.inr cooled))))
      · exact ite_of_neg (fun h => cooled (cools.mpr h)) (goesOn (notCure kind (by decide))
          (fun h => absurd (h.1.symm.trans kind) (by decide)) (Bool.eq_false_iff.mpr cooled))
    · obtain ⟨a, b, g, cured, ctx, done⟩ := cure kind
      by_cases full : phaseExit (kilnAccount s.env k s.floor.kilns[k]).ctx.fields ≤
          curedTo s.env k (kilnAccount s.env k s.floor.kilns[k])
      · rw [if_pos full] at done
        obtain ⟨code, value, ended⟩ := done
        have kept : (s.floor.kiln k (kilnAccount s.env k)).SameAccount g :=
          ((Floor.SameAccount.refl _).kiln (k := k) (op := fun x => { x.ramped a b with cure := curedTo s.env k x })
            (by intro; rfl)).of_kilns cured
        exact ite_of_pos full (leaves ⟨code, value, g, ended, ctx, kept⟩)
      · rw [if_neg full] at done
        rw [done, cured, upd_get_self, held]
        exact ite_of_neg full ⟨⟨rfl, rfl, rfl, rfl, rfl, rfl⟩, rfl⟩

end Sys2Proof.Machine

/-! SUPPORT. The output records of the vessels (R119 to R122) and the ends of their steps (R114 to R118): O48. -/

namespace Sys2Proof.Machine

/-! ### Output records -/

/-- From `f` to `g` no vessel has changed but vessel `v`, and that in its output records alone, whose decisions are `d`. -/
def Floor.Decides (v : Fin 6) (f g : Floor) (d : Fin 5 → Decision) : Prop :=
  ∃ outs : Vector Output 5, g.vessels = upd f.vessels v (fun x => { x with outs := outs }) ∧ ∀ o : Fin 5, outs[o].decision = d o

section Outputs

variable {e : Env} {v : Fin 6} {f g h : Floor} {d d' : Fin 5 → Decision}

/-- The decisions as they stand. -/
def Floor.standing (f : Floor) (v : Fin 6) (o : Fin 5) : Decision := f.vessels[v].outs[o].decision

theorem Floor.Decides.refl (f : Floor) (v : Fin 6) : f.Decides v f (f.standing v) :=
  ⟨f.vessels[v].outs, (upd_id f.vessels v).symm.trans (upd_congr _ _ rfl), fun _ => rfl⟩

theorem Floor.Decides.same (a : f.Decides v g d) (vessels : h.vessels = g.vessels) : f.Decides v h d := by
  obtain ⟨outs, changed, decides⟩ := a
  exact ⟨outs, vessels.trans changed, decides⟩

theorem Floor.Decides.trans (a : f.Decides v g d) (b : g.Decides v h d') : f.Decides v h d' := by
  obtain ⟨outs, changed, -⟩ := a
  obtain ⟨outs', changed', decides⟩ := b
  refine ⟨outs', changed'.trans ?_, decides⟩
  rw [changed, upd_upd]
  rfl

theorem Floor.Decides.congr (a : f.Decides v g d) (same : ∀ o, d o = d' o) : f.Decides v g d' := by
  obtain ⟨outs, changed, decides⟩ := a
  exact ⟨outs, changed, fun o => (decides o).trans (same o)⟩

theorem Floor.Decides.standing (a : f.Decides v g d) (o : Fin 5) : g.standing v o = d o := by
  obtain ⟨outs, changed, decides⟩ := a
  rw [Floor.standing, changed, upd_get_self]
  exact decides o

theorem Floor.Decides.vessel (a : f.Decides v g d) : g.vessels[v] = { f.vessels[v] with outs := g.vessels[v].outs } := by
  obtain ⟨outs, changed, -⟩ := a
  rw [changed, upd_get_self]

theorem Floor.Decides.other (a : f.Decides v g d) {w : Fin 6} (other : w ≠ v) : g.vessels[w] = f.vessels[w] := by
  obtain ⟨outs, changed, -⟩ := a
  rw [changed, upd_get_ne _ _ (Ne.symm other)]

/-- A change of one output's record. -/
theorem decides_output (f : Floor) (v : Fin 6) (o : Fin 5) (op : Output → Output) :
    f.Decides v (f.output v o op) fun i => if o = i then (op f.vessels[v].outs[o]).decision else f.standing v i := by
  have changed : (f.output v o op).vessels = upd f.vessels v fun x => { x with outs := upd f.vessels[v].outs o op } := by
    rw [Floor.output, vessel_vessels]
    exact upd_congr _ _ rfl
  refine ⟨upd f.vessels[v].outs o op, changed, fun i => ?_⟩
  rw [upd_get]
  by_cases same : o = i
  · subst same
    simp only [if_true]
  · simp only [if_neg same]
    rfl

/-- R122: an offer of an output changes no decision. -/
theorem offerOutput_decides (e : Env) (v : Fin 6) (o : Fin 5) (f : Floor) : f.Decides v (offerOutput e v o f) (f.standing v) := by
  simp only [offerOutput]
  split
  · exact .refl f v
  · exact .refl f v
  · refine Floor.Decides.congr (decides_output f v o _) fun i => ?_
    split
    · next same => rw [← same]; rfl
    · rfl

/-- R122: a decision that is recorded is the output's decision. -/
theorem decideOutput_decides (e : Env) (v : Fin 6) (o : Fin 5) (c : Decision) (f : Floor) :
    f.Decides v (decideOutput e v o c f) fun i => if o = i then c else f.standing v i := by
  simp only [decideOutput]
  split
  · next same =>
    refine (Floor.Decides.refl f v).congr fun i => ?_
    split
    · next here => rw [← here]; exact same
    · rfl
  · split
    · exact decides_output f v o _
    · have recorded := decides_output f v o fun x => { x with decision := c }
      exact (recorded.trans (offerOutput_decides e v o _)).congr fun i => recorded.standing i

theorem reofferOutput_decides (e : Env) (v : Fin 6) (f : Floor) (o : Fin 5) :
    f.Decides v (reofferOutput e v f o) (f.standing v) := by
  simp only [reofferOutput]
  split
  · exact offerOutput_decides e v o f
  · exact .refl f v

theorem foldl_decides {op : Floor → Fin 5 → Floor} (each : ∀ (f : Floor) o, f.Decides v (op f o) (f.standing v)) (l : List (Fin 5))
    (f : Floor) : f.Decides v (l.foldl op f) (f.standing v) := by
  induction l generalizing f with
  | nil => exact .refl f v
  | cons o l ih => exact ((each f o).trans (ih _)).congr fun i => (each f o).standing i

/-- R122: pending outputs that are offered again keep their decisions. -/
theorem reofferVessel_decides (e : Env) (v : Fin 6) (f : Floor) : f.Decides v (reofferVessel e v f) (f.standing v) :=
  foldl_decides (reofferOutput_decides e v) _ f

/-! ### Rounds -/

/-- R119: the decision of an output in a round, or its decision as it stands where the state takes none. -/
def roundDecision (e : Env) (v : Fin 6) (x : Vessel) (o : Fin 5) : Decision :=
  (vesselDecision e v x o).getD x.outs[o].decision

/-- A decision reads of its vessel the context, the end CO2 setting and its own record. -/
theorem roundDecision_congr {x y : Vessel} {o : Fin 5} (ctx : y.ctx = x.ctx) (endCo2 : y.endCo2 = x.endCo2)
    (out : y.outs[o].decision = x.outs[o].decision) : roundDecision e v y o = roundDecision e v x o := by
  simp only [roundDecision, vesselDecision, ctx, endCo2, out]

theorem roundOutput_decides (e : Env) (v : Fin 6) (f : Floor) (o : Fin 5) :
    f.Decides v (roundOutput e v f o) fun i => if o = i then roundDecision e v f.vessels[v] o else f.standing v i := by
  simp only [roundOutput]
  split
  · next c taken =>
    refine (decideOutput_decides e v o c f).congr fun i => ?_
    rw [roundDecision, taken]
    rfl
  · next taken =>
    refine (Floor.Decides.refl f v).congr fun i => ?_
    split
    · next here => rw [roundDecision, taken, ← here]; rfl
    · rfl

theorem foldl_round_decides (l : List (Fin 5)) (nodup : l.Nodup) (f : Floor) :
    f.Decides v (l.foldl (roundOutput e v) f) fun i =>
      if i ∈ l then roundDecision e v f.vessels[v] i else f.standing v i := by
  induction l generalizing f with
  | nil => exact (Floor.Decides.refl f v).congr fun i => by simp
  | cons o l ih =>
    obtain ⟨fresh, nodup⟩ := List.nodup_cons.mp nodup
    have first := roundOutput_decides e v f o
    refine (first.trans (ih nodup _)).congr fun i => ?_
    by_cases here : i = o
    · subst here
      rw [if_neg fresh, if_pos List.mem_cons_self, first.standing, if_pos rfl]
    · have stands : (roundOutput e v f o).standing v i = f.standing v i := by
        rw [first.standing, if_neg (Ne.symm here)]
      have reads : roundDecision e v (roundOutput e v f o).vessels[v] i = roundDecision e v f.vessels[v] i :=
        roundDecision_congr (by rw [first.vessel]) (by rw [first.vessel]) stands
      simp only [List.mem_cons, here, false_or, stands, reads]

/-- R119: a decision round decides every output of its vessel. -/
theorem vesselRound_decides (e : Env) (v : Fin 6) (f : Floor) :
    f.Decides v (vesselRound e v f) (roundDecision e v f.vessels[v]) :=
  (foldl_round_decides _ (List.nodup_finRange 5) f).congr fun i => if_pos (List.mem_finRange i)

end Outputs

/-- An event that changes no demand condition, and nothing that a permit is read from, tells the channels nothing. -/
theorem tellOwners_undemanding {e : Env} {before f : Floor} (demand : ∀ v, vesselDemand f v = vesselDemand before v)
    (kilns : f.kilns = before.kilns) : tellOwners e before e f = f := by
  have permits (k : Fin 2) : permit e before k = permit e f k := (permit_congr e e before f k rfl rfl rfl (by rw [kilns])).symm
  have vessels : (List.finRange 6).foldl (tellVessel before e) f = f := by
    refine foldl_inv (fun g => g = f) _ ?_ _ _ rfl
    rintro g v rfl
    simp [tellVessel, demand]
  rw [tellOwners, vessels]
  refine foldl_inv (fun g => g = f) _ ?_ _ _ rfl
  rintro g k rfl
  simp [tellChangedKiln, kilns, permits]

theorem Floor.Decides.demand {v : Fin 6} {f g : Floor} {d : Fin 5 → Decision} (a : f.Decides v g d) (w : Fin 6) :
    vesselDemand g w = vesselDemand f w := by
  by_cases same : w = v
  · subst same
    simp only [vesselDemand]
    rw [a.vessel]
  · simp only [vesselDemand]
    rw [a.other same]


/-! ### The row of R119 -/

section Rows

variable {e : Env} {v : Fin 6} {l : List Int}

theorem kept_kept (now : Decision) : now.kept.kept = now.kept := by cases now <;> rfl

theorem chillerDecision_idem (w : Point) (now : Decision) :
    chillerDecision w l (chillerDecision w l now) = chillerDecision w l now := by
  simp only [chillerDecision]
  split_ifs <;> simp [kept_kept]

theorem heaterDecision_idem (w : Point) (now : Decision) :
    heaterDecision w l (heaterDecision w l now) = heaterDecision w l now := by
  simp only [heaterDecision]
  split_ifs <;> simp [kept_kept]

theorem extractionDecision_idem (w : Point) (limit hysteresis : Int) (now : Decision) :
    extractionDecision w limit hysteresis (extractionDecision w limit hysteresis now) =
      extractionDecision w limit hysteresis now := by
  simp only [extractionDecision]
  split_ifs <;> simp [kept_kept]

/-- R119: a decision made twice is the decision made once. -/
theorem runDecision_idem (held : Bool) (o : Fin 5) (now : Decision) :
    runDecision e v l held o (runDecision e v l held o now) = runDecision e v l held o now := by
  fin_cases o
  · simp only [runDecision]
    split_ifs <;> simp [chillerDecision_idem]
  · simp only [runDecision]
    split_ifs <;> simp [heaterDecision_idem]
  · simp only [runDecision]
    split_ifs <;> simp [extractionDecision_idem]
  · rfl
  · rfl

/-- R119: the row of a copied step, output by output. -/
theorem runDecision_row {d : Fin 5 → Decision} {now : Fin 5 → Decision} {st : UnitState} {held : Bool}
    (decides : ∀ o, d o = runDecision e v l held o (now o)) (state : (st = .running) ↔ held = false) :
    let wet := stepKind l = .fill ∨ stepKind l = .wet
    (wet → d 0 = chillerDecision (e.water v) l (now 0) ∧ d 1 = heaterDecision (e.water v) l (now 1)) ∧
      (¬wet → d 0 = .off ∧ d 1 = .off) ∧
      (stepKind l = .airRest → d 2 = extractionDecision (e.co2 v) (stepCo2Limit l) (stepCo2Hysteresis l) (now 2)) ∧
      (stepKind l ≠ .airRest → d 2 = .off) ∧ d 3 = (if stepAeration l = true then .on else .off) ∧
      d 4 = (if stepKind l = .drain ∧ st = .running then .on else .off) := by
  rw [decides 0, decides 1, decides 2, decides 3, decides 4]
  refine ⟨fun wet => ?_, fun dry => ?_, fun rest => ?_, fun other => ?_, rfl, ?_⟩
  · simp only [runDecision]
    rw [if_pos (by simpa using wet), if_pos (by simpa using wet)]
    exact ⟨rfl, rfl⟩
  · simp only [runDecision]
    rw [if_neg (by simpa using dry), if_neg (by simpa using dry)]
    exact ⟨rfl, rfl⟩
  · simp only [runDecision]
    exact if_pos rest
  · simp only [runDecision]
    exact if_neg other
  · simp only [runDecision, Decision.ofBool, state]
    cases held <;> simp

end Rows

/-! ### The end of a step -/

section Steps

variable {e : Env} {v : Fin 6} {f : Floor} {n code : Nat}

theorem enterStepWith_ctx_other {u : PlantUnit} (other : u ≠ .vessel v) {ended : Floor → Floor}
    (keeps : ∀ g, (ended g).ctx u = g.ctx u) (p : Position) : (enterStepWith ended e v p f).ctx u = f.ctx u := by
  simp only [enterStepWith]
  split
  · split
    · rw [vesselRound_ctx]
      split
      · rw [startFill_ctx, vessel_ctx, if_neg other]
      · rw [holdVessel_ctx, if_neg other, startFill_ctx, vessel_ctx, if_neg other]
    · rw [keeps, vessel_ctx, if_neg other, vessel_ctx, if_neg other]
  · rw [vesselRound_ctx, vessel_ctx, if_neg other, vessel_ctx, if_neg other]

theorem endStepWith_ctx_other {u : PlantUnit} (other : u ≠ .vessel v) : (endStepWith n e v code f).ctx u = f.ctx u := by
  induction n generalizing f code with
  | zero => rfl
  | succ n ih =>
    simp only [endStepWith]
    split
    · rw [enterStepWith_ctx_other other (fun _ => ih), raiseEvent_ctx]
    · rw [stopFillForHold_ctx, enterGone, enterHeld_ctx, if_neg other, updCtx_ctx, if_neg other, raiseEvent_ctx]
    · rw [vesselRound_ctx, raiseEvent_ctx, vessel_ctx, if_neg other, raiseEvent_ctx]

theorem endStep_onlyUnit : f.OnlyUnit (.vessel v) (endStep e v code f) where
  others _ other := endStepWith_ctx_other other
  batches := by simp
  register := by simp
  acceptCount := by simp

/-- The event that a step's end raises. -/
def stepEnded (e : Env) (v : Fin 6) (code : Nat) (f : Floor) : Floor :=
  raiseEvent e 17 v (f.vessels[v].ctx.item + 256 * code : Nat) f

theorem stepEnded_vessels : (stepEnded e v code f).vessels = f.vessels := (raiseEvent_frame ..).1

theorem endStep_gone {i : Nat} (gone : boundary e.bank (.vessel v) f.vessels[v].ctx = .gone i) :
    endStep e v code f = stopFillForHold e v (enterGone e (.vessel v) i (stepEnded e v code f)) := by
  simp only [endStep, endStepWith, gone, stepEnded]

/-- R114: a step that is no FILL step is entered with a round. -/
theorem enterStepWith_plain {ended : Floor → Floor} {p : Position} (notFill : stepKind p.fields ≠ .fill) :
    enterStepWith ended e v p f = vesselRound e v ((f.vessel v fun x =>
      { x with timer := 0, note := false, ctx := { x.ctx with pos := some p } }).vessel v fun x => { x with fill := .none }) := by
  cases kind : stepKind p.fields with
  | fill => exact absurd kind notFill
  | _ => simp only [enterStepWith, kind]

theorem endStep_next {p : Position} (next : boundary e.bank (.vessel v) f.vessels[v].ctx = .next p)
    (notFill : stepKind p.fields ≠ .fill) :
    endStep e v code f = vesselRound e v (((stepEnded e v code f).vessel v fun x =>
      { x with timer := 0, note := false, ctx := { x.ctx with pos := some p } }).vessel v fun x => { x with fill := .none }) := by
  simp only [endStep, endStepWith, next]
  exact enterStepWith_plain notFill

/-- A vessel's record as it ends its last step. -/
def Vessel.ended (x : Vessel) : Vessel :=
  { x with ctx := x.ctx.enter .done, fill := .none, endCo2 := some (stepCo2Limit x.ctx.fields, stepCo2Hysteresis x.ctx.fields) }

theorem endStep_ended (ended : boundary e.bank (.vessel v) f.vessels[v].ctx = .ended) :
    ∃ g, g.vessels = upd f.vessels v Vessel.ended ∧ endStep e v code f = vesselRound e v g := by
  refine ⟨raiseEvent e 9 v f.vessels[v].ctx.program ((stepEnded e v code f).vessel v fun x => { x with
    ctx := x.ctx.enter .done, fill := .none, endCo2 := some (stepCo2Limit f.vessels[v].ctx.fields,
      stepCo2Hysteresis f.vessels[v].ctx.fields) }), ?_, ?_⟩
  · rw [(raiseEvent_frame ..).1, vessel_vessels, stepEnded_vessels]
    exact upd_congr _ _ rfl
  · simp only [endStep, endStepWith, ended, stepEnded]
    rfl

/-- R124: a fill that is stopped for a hold changes output records alone. -/
theorem stopFillForHold_decides (e : Env) (v : Fin 6) (f : Floor) :
    f.Decides v (stopFillForHold e v f) (f.standing v) ∨
      f.Decides v (stopFillForHold e v f) (roundDecision e v f.vessels[v]) := by
  simp only [stopFillForHold]
  split
  · refine .inr ?_
    have round := vesselRound_decides e v (stopUnitChannel e (.vessel v) f)
    obtain ⟨outs, changed, decides⟩ := round
    have vessels : (stopUnitChannel e (.vessel v) f).vessels = f.vessels := by simp
    rw [vessels] at changed decides
    exact ⟨outs, changed, decides⟩
  · exact .inl (.refl f v)

end Steps

end Sys2Proof.Machine

/-! SUPPORT. The evaluation of a vessel and the ends of its steps: O48. -/

namespace Sys2Proof.Machine

section Evaluations

variable {e : Env} {v : Fin 6} {f : Floor} {code : Nat}

/-- R85: the boundary after an item. -/
theorem boundary_cases (b : Bank) (u : PlantUnit) {c : Ctx} {p : Position} (held : c.pos = some p) :
    (copied p.entry 0 ≤ p.item + 1 → boundary b u c = .ended) ∧
      ((p.item + 1 : Int) < copied p.entry 0 →
        ((p.item + 1 : Int) < b.programLength u p.program → boundary b u c = .next (b.position u p.program (p.item + 1))) ∧
        (b.programLength u p.program ≤ (p.item + 1 : Int) → boundary b u c = .gone (p.item + 1))) := by
  simp only [boundary, held]
  refine ⟨fun last => if_pos last, fun more => ⟨fun present => ?_, fun absent => ?_⟩⟩
  · rw [if_neg (by omega), if_pos present]
  · rw [if_neg (by omega), if_neg (by omega)]

/-- R116: the exit conditions of DRAIN and WET. -/
theorem stepExitMet_iff (x : Vessel) :
    stepExitMet e v x = true ↔
      (stepKind x.ctx.fields = .drain ∧ stepMinTime x.ctx.fields ≤ x.timer ∧ (e.level v).usable = true ∧
        (e.level v).value ≤ stepDrainLevel x.ctx.fields) ∨
      (stepKind x.ctx.fields = .wet ∧ stepMinTime x.ctx.fields ≤ x.timer ∧ 0 < stepMoistureTarget x.ctx.fields ∧
        ∃ m, (e.vote (e.bank.unitGroups (.vessel v)).2).value = some m ∧ stepMoistureTarget x.ctx.fields ≤ m) := by
  cases kind : stepKind x.ctx.fields
  case drain => simp [stepExitMet, kind, and_assoc]
  case wet =>
    cases vote : (e.vote (e.bank.unitGroups (.vessel v)).2).value with
    | none => simp [stepExitMet, kind, vote]
    | some m => simp [stepExitMet, kind, vote, and_comm, and_left_comm]
  all_goals simp [stepExitMet, kind]

/-- What the end of a step leaves of the vessel, whatever rounds follow. -/
theorem endStep_leaves {g : Floor} {d : Fin 5 → Decision} (after : (endStep e v code f).Decides v g d) :
    (boundary e.bank (.vessel v) f.vessels[v].ctx = .ended →
      g.vessels[v].ctx = { f.vessels[v].ctx with state := .done, reason := none, resume := none, noted := none } ∧
        g.vessels[v].endCo2 =
          some (stepCo2Limit f.vessels[v].ctx.fields, stepCo2Hysteresis f.vessels[v].ctx.fields)) ∧
    (∀ p, boundary e.bank (.vessel v) f.vessels[v].ctx = .next p → stepKind p.fields ≠ .fill →
      g.vessels[v].ctx = { f.vessels[v].ctx with pos := some p } ∧ g.vessels[v].timer = 0) ∧
    (∀ i, boundary e.bank (.vessel v) f.vessels[v].ctx = .gone i →
      g.vessels[v].ctx = { f.vessels[v].ctx.heldFor .programGone with noted := some i }) := by
  have rest := after.vessel
  refine ⟨fun ended => ?_, fun p next notFill => ?_, fun i gone => ?_⟩
  · obtain ⟨h, changed, ends⟩ := endStep_ended (code := code) ended
    rw [rest, ends, (vesselRound_decides e v h).vessel, changed, upd_get_self]
    exact ⟨rfl, rfl⟩
  · rw [rest, endStep_next next notFill, (vesselRound_decides e v _).vessel, vessel_vessels, vessel_vessels, upd_upd,
      stepEnded_vessels, upd_get_self]
    exact ⟨rfl, rfl⟩
  · have held : (endStep e v code f).ctx (.vessel v) = { f.vessels[v].ctx.heldFor .programGone with noted := some i } := by
      rw [endStep_gone gone, stopFillForHold_ctx, enterGone, enterHeld_ctx, if_pos rfl, updCtx_ctx, if_pos rfl, stepEnded,
        raiseEvent_ctx]
      rfl
    rw [rest]
    exact held

/-- R119: an evaluation whose round takes its decisions. -/
theorem exec_decides {s : State} (awake : s.inReset = false) (due : .vesselEvaluation v ∈ s.due)
    (evaluates : vesselEvaluate s.env v s.floor = reofferVessel s.env v (vesselRound s.env v s.floor)) :
    ∃ t, exec (.vesselEvaluation v) s = .next t ∧ s.TookDue t (.vesselEvaluation v) ∧
      t.floor = { s.floor with queue := t.floor.queue, vessels := t.floor.vessels } ∧
      s.floor.Decides v t.floor (roundDecision s.env v s.floor.vessels[v]) := by
  obtain ⟨t, runs, took, floor⟩ := exec_due_floor awake due (op := fun e => vesselEvaluate e v) rfl
  have round := vesselRound_decides s.env v s.floor
  have again := (round.trans (reofferVessel_decides s.env v _)).congr fun o => round.standing o
  rw [evaluates, tellOwners_undemanding again.demand (by simp)] at floor
  have frame := reofferVessel_frame s.env v (vesselRound s.env v s.floor)
  rw [← floor] at frame
  simp only [vesselRound_frame] at frame
  obtain ⟨eventSeq, channels, boxes, arbiter, kilns, batches, register, accept, free⟩ := frame
  exact ⟨t, runs, took, Floor.eq_of_fields rfl eventSeq rfl channels boxes arbiter kilns batches register accept free,
    again.same (congrArg Floor.vessels floor)⟩

theorem vesselEvaluate_rounds (state : f.vessels[v].ctx.state = .held ∨ f.vessels[v].ctx.state = .done ∨
    f.vessels[v].ctx.state = .discharging ∨
    (f.vessels[v].ctx.state = .running ∧ stepExitMet e v f.vessels[v] = false)) :
    vesselEvaluate e v f = reofferVessel e v (vesselRound e v f) := by
  simp only [vesselEvaluate]
  obtain state | state | state | ⟨state, noExit⟩ := state
  · rw [state]
  · rw [state]
  · rw [state]
  · rw [state]
    simp only [noExit]
    rfl

/-- R119: the round of a vessel that runs or is held in a copied step. -/
theorem roundDecision_run {x : Vessel} {p : Position} {held : Bool} (pos : x.ctx.pos = some p)
    (state : x.ctx.state = if held then .held else .running) (o : Fin 5) :
    roundDecision e v x o = runDecision e v p.fields held o x.outs[o].decision := by
  cases held <;> simp_all [roundDecision, vesselDecision]

theorem roundDecision_rest {x : Vessel} (state : x.ctx.state = .done ∨ x.ctx.state = .discharging) (o : Fin 5) :
    roundDecision e v x o = restDecision e v x.endCo2 o x.outs[o].decision := by
  obtain state | state := state <;> simp [roundDecision, vesselDecision, state]

/-- What is told to the channels changes no vessel. -/
theorem tellOwners_vessels (e₀ : Env) (before : Floor) (e : Env) (f : Floor) :
    (tellOwners e₀ before e f).vessels = f.vessels :=
  (tellOwners_frame ..).2.1

/-- R117: the floor whose step a maximum ends. -/
def fillStopped (e : Env) (v : Fin 6) (f : Floor) : Floor :=
  if f.vessels[v].fill = .filling then stopUnitChannel e (.vessel v) f else f

theorem fillStopped_vessels (e : Env) (v : Fin 6) (f : Floor) : (fillStopped e v f).vessels = f.vessels := by
  simp only [fillStopped]
  split <;> simp

theorem fillStopped_onlyUnit : f.OnlyUnit (.vessel v) (endStep e v code (fillStopped e v f)) := by
  refine ⟨fun w other => (endStep_onlyUnit.others w other).trans ?_, ?_, ?_, ?_⟩ <;> simp only [fillStopped] <;> split <;> simp

/-- R117: the step maximum ends the step, a fill stopped first. -/
theorem stepMaximum_ends (running : f.vessels[v].ctx.state = .running)
    (maximum : stepMaxTime f.vessels[v].ctx.fields ≤ f.vessels[v].timer) :
    stepMaximum e v f =
      endStep e v 1 (fillStopped e v f) :=
  if_pos ⟨running, maximum⟩

/-- R119: an exit that ends the step leaves the vessel's record as the step's end does, but for its decisions. -/
theorem stepExit_decides (e : Env) (v : Fin 6) (f : Floor) : ∃ d, (endStep e v 0 f).Decides v (stepExit e v f) d := by
  simp only [stepExit]
  split
  · exact ⟨_, vesselRound_decides e v _⟩
  · exact ⟨_, .refl _ v⟩

theorem stepExit_onlyUnit : f.OnlyUnit (.vessel v) (reofferVessel e v (stepExit e v f)) where
  others w other := by
    rw [reofferVessel_ctx]
    simp only [stepExit]
    split
    · rw [vesselRound_ctx]
      exact endStep_onlyUnit.others w other
    · exact endStep_onlyUnit.others w other
  batches := by simp
  register := by simp
  acceptCount := by simp

/-- R86: a vessel that has lost its program stands, before its evaluation decides, in its copied step, each decision as it was or
already that of HELD. -/
theorem endStep_gone_standing {i : Nat} {p : Position} (gone : boundary e.bank (.vessel v) f.vessels[v].ctx = .gone i)
    (pos : f.vessels[v].ctx.pos = some p) (o : Fin 5) :
    runDecision e v p.fields true o ((endStep e v code f).standing v o) =
      runDecision e v p.fields true o (f.standing v o) := by
  have vessel : (enterGone e (.vessel v) i (stepEnded e v code f)).vessels[v] =
      { f.vessels[v] with ctx := { f.vessels[v].ctx.heldFor .programGone with noted := some i } } := by
    rw [enterGone, enterHeld, (raiseEvent_frame ..).1]
    simp only [Floor.updCtx, vessel_vessels, upd_upd, upd_get_self, stepEnded_vessels]
    rfl
  rw [endStep_gone gone]
  obtain stands | decided := stopFillForHold_decides e v (enterGone e (.vessel v) i (stepEnded e v code f))
  · rw [stands.standing, Floor.standing, vessel]
    rfl
  · have round : roundDecision e v (enterGone e (.vessel v) i (stepEnded e v code f)).vessels[v] o =
        runDecision e v p.fields true o (f.standing v o) := by
      rw [roundDecision_run (held := true) (p := p) (by rw [vessel]; exact pos) (by rw [vessel]; rfl), vessel]
      rfl
    rw [decided.standing, round, runDecision_idem]

/-- R119: after the exit the decisions of HELD(PROGRAM_GONE) are those of the row of HELD. -/
theorem stepExit_gone_standing {i : Nat} {p : Position} (gone : boundary e.bank (.vessel v) f.vessels[v].ctx = .gone i)
    (pos : f.vessels[v].ctx.pos = some p) (o : Fin 5) :
    (stepExit e v f).standing v o = runDecision e v p.fields true o (f.standing v o) := by
  have held := (endStep_leaves (code := 0) (Floor.Decides.refl (endStep e v 0 f) v)).2.2 i gone
  have reason : (endStep e v 0 f).vessels[v].ctx.reason = some .programGone := by rw [held]; rfl
  have state : (endStep e v 0 f).vessels[v].ctx.state = .held := by rw [held]; rfl
  have place : (endStep e v 0 f).vessels[v].ctx.pos = some p := by rw [held]; exact pos
  simp only [stepExit]
  rw [if_pos reason, (vesselRound_decides e v _).standing, roundDecision_run (held := true) place state o]
  exact endStep_gone_standing gone pos o

end Evaluations

/-- Settles O48: the row of R119 in each state, and the end of a step by its condition or its maximum. -/
theorem vesselEvaluatesAndEndsSteps : Obligations.VesselEvaluatesAndEndsSteps := by
  intro s v awake
  refine ⟨fun b u c p held => boundary_cases b u held, stepExitMet_iff _, fun due held => ?_, fun due running noExit => ?_,
    fun due rest => ?_, fun due running exit => ?_, fun due running maximum => ?_⟩
  · obtain ⟨t, runs, took, floor, decides⟩ := exec_decides awake due (vesselEvaluate_rounds (.inl held))
    refine ⟨t, runs, took, floor, fun w other => decides.other other, decides.vessel, fun p pos => ?_, fun none o => ?_⟩
    · exact runDecision_row (e := s.env) (v := v) (held := true) (now := fun o => s.floor.vessels[v].outs[o].decision)
        (fun o => (decides.standing o).trans (roundDecision_run (held := true) pos held o)) (by simp)
    · refine (decides.standing o).trans ?_
      simp only [roundDecision, vesselDecision, held, none]
      rfl
  · obtain ⟨t, runs, took, floor, decides⟩ := exec_decides awake due
      (vesselEvaluate_rounds (.inr (.inr (.inr ⟨running, noExit⟩))))
    refine ⟨t, runs, took, floor, fun w other => decides.other other, decides.vessel, fun p pos => ?_⟩
    exact runDecision_row (e := s.env) (v := v) (held := false) (now := fun o => s.floor.vessels[v].outs[o].decision)
      (fun o => (decides.standing o).trans (roundDecision_run (held := false) pos running o)) (by simp)
  · obtain ⟨t, runs, took, floor, decides⟩ := exec_decides awake due (vesselEvaluate_rounds (.inr (by tauto)))
    have row (o : Fin 5) := (decides.standing o).trans (roundDecision_rest (e := s.env) (v := v) rest o)
    refine ⟨t, runs, took, floor, fun w other => decides.other other, decides.vessel, row 0, row 1, row 3, row 4,
      fun none => ?_, fun limit hysteresis setting => ?_⟩
    · exact (row 2).trans (by rw [none]; rfl)
    · exact (row 2).trans (by rw [setting]; rfl)
  · obtain ⟨t, runs, took, floor⟩ := exec_due_floor awake due (op := fun e => vesselEvaluate e v) rfl
    have evaluates : vesselEvaluate s.env v s.floor = reofferVessel s.env v (stepExit s.env v s.floor) := by
      simp only [vesselEvaluate]
      rw [running]
      simp only [exit]
      rfl
    rw [evaluates] at floor
    obtain ⟨d, exits⟩ := stepExit_decides s.env v s.floor
    have again := reofferVessel_decides s.env v (stepExit s.env v s.floor)
    have vessels : t.floor.vessels = (reofferVessel s.env v (stepExit s.env v s.floor)).vessels := by
      rw [floor, tellOwners_vessels]
    refine ⟨t, runs, took, ?_, endStep_leaves ((exits.trans again).same vessels), fun i gone p pos => ?_⟩
    · rw [floor]
      exact onlyUnit_told stepExit_onlyUnit
    · have row (o : Fin 5) : t.floor.vessels[v].outs[o].decision =
          runDecision s.env v p.fields true o s.floor.vessels[v].outs[o].decision :=
        ((again.same vessels).standing o).trans (stepExit_gone_standing (e := s.env) gone pos o)
      exact runDecision_row (st := .held) (held := true) row (by simp)
  · obtain ⟨t, runs, took, floor⟩ := exec_due_floor awake due (op := fun e => stepMaximum e v) rfl
    rw [stepMaximum_ends running maximum] at floor
    have vessels : t.floor.vessels = (endStep s.env v 1 (fillStopped s.env v s.floor)).vessels := by
      rw [floor, tellOwners_vessels]
    have only : s.floor.OnlyUnit (.vessel v) t.floor := by
      rw [floor]
      exact onlyUnit_told fillStopped_onlyUnit
    have leaves := endStep_leaves ((Floor.Decides.refl (endStep s.env v 1 (fillStopped s.env v s.floor)) v).same vessels)
    rw [fillStopped_vessels] at leaves
    exact ⟨t, runs, took, only, leaves⟩

end Sys2Proof.Machine

/-! SUPPORT. The station's functions on dosing channels (R133, R141, R142, R143): O39, O40. -/

namespace Sys2Proof.Machine

/-! ### START of a dose -/

section Doses

variable {e : Env} {c : Fin 12} {f : Floor} {value : Int}

theorem silent_iff (p : Point) : p.silent = true ↔ p.quality = .stale ∨ p.quality = .none := by simp [Point.silent]

/-- R133 step 1: what the mask rule tests. -/
def maskedBefore (e : Env) (c : Fin 12) (x : Channel) : Bool :=
  x.masked || (e.point (e.bank.meterPoint c)).silent || (e.point (e.bank.feedbackPoint c)).silent

theorem maskedBefore_iff (e : Env) (c : Fin 12) (x : Channel) :
    let lost := fun i => (e.point i).quality = .stale ∨ (e.point i).quality = .none
    maskedBefore e c x = true ↔ x.masked = true ∨ lost (e.bank.meterPoint c) ∨ lost (e.bank.feedbackPoint c) := by
  simp [maskedBefore, silent_iff, or_assoc]

theorem maskRule_eq (e : Env) (c : Fin 12) (f : Floor) :
    maskRule e c f = (f.channel c fun x => { x with masked := maskedBefore e c x },
      !maskedBefore e c f.channels[c] || pointsFresh e c) := by
  have kept (silent : ((e.point (e.bank.meterPoint c)).silent || (e.point (e.bank.feedbackPoint c)).silent) = false) :
      (f.channel c fun x => { x with masked := maskedBefore e c x }) = f := by
    have same : (fun x : Channel => { x with masked := maskedBefore e c x }) = id := by
      funext x
      simp [maskedBefore, Bool.or_assoc, silent]
    rw [same, Floor.channel, upd_id]
  simp only [maskRule]
  split
  · next silent =>
    have all (x : Channel) : maskedBefore e c x = true := by
      rw [maskedBefore, Bool.or_assoc, silent, Bool.or_true]
    simp only [all, channel_channels, upd_get_self]
    rfl
  · next silent =>
    have quiet := Bool.eq_false_iff.mpr silent
    have same : maskedBefore e c f.channels[c] = f.channels[c].masked := by
      rw [maskedBefore, Bool.or_assoc, quiet, Bool.or_false]
    rw [kept quiet, same]
    rfl

/-- R133: a channel's record as a dose of a base count begins. -/
def Channel.dosed (base : Nat) (x : Channel) : Channel :=
  { x with masked := false, base := base, current := base, overrun := 0, note := false }

theorem beginDose_opens {base : Nat} (some' : base ≠ 0) (mode : e.bank.channelMode c ≠ .demand) :
    (beginDose e c base f).1 = enterChannel e c .active (f.channel c (Channel.dosed base)) := by
  simp only [beginDose, if_neg some', openChannel]
  rw [if_neg fun h => mode h.1]
  rfl

end Doses

theorem ctx_withQueue (f : Floor) (q : Queue) (u : PlantUnit) : (f.withQueue q).ctx u = f.ctx u := by cases u <;> rfl

/-! ### DOSE_START -/

section Station

variable {e : Env} {c : Fin 12} {f : Floor} {value : Int} {qual : Byte} {reply : Status → Int → Floor → Floor}

theorem serveDoseStart_fails {st : Status} (named : qual.toNat = c) (fails : doseStartTests e c value f = some st) :
    serveDoseStart e qual value reply f = reply st 0 f := by
  simp only [serveDoseStart, named, indexOf_natCast, fails]

theorem serveDoseStart_tries (named : qual.toNat = c) (passes : doseStartTests e c value f = none) :
    serveDoseStart e qual value reply f =
      if pointsFresh e c = true ∨ maskedBefore e c f.channels[c] = false then
        reply .ok value (beginDose e c (baseCount value) (f.channel c fun x => { x with masked := maskedBefore e c x })).1
      else reply .refused 0 (f.channel c fun x => { x with masked := maskedBefore e c x }) := by
  simp only [serveDoseStart, named, indexOf_natCast, passes, maskRule_eq, Bool.or_eq_true, Bool.not_eq_true', or_comm]

theorem doseStartTests_withQueue (q : Queue) : doseStartTests e c value (f.withQueue q) = doseStartTests e c value f := by
  simp only [doseStartTests, ownerFree, ctx_withQueue, withQueue_channels]
  rfl

theorem stationOwner_eq {u : PlantUnit} (owner : e.bank.channelOwner c = some u) (noBox : ∀ n, u ≠ .box n) :
    stationOwner e c = some u := by
  cases u with
  | box n => exact absurd rfl (noBox n)
  | vessel v => simp only [stationOwner, owner]
  | kiln k => simp only [stationOwner, owner]

theorem doseStartTests_unfit (some' : 1 ≤ value)
    (unfit : e.bank.channelMode c = .demand ∨ e.bank.channelOwner c = none ∨ (∃ n, e.bank.channelOwner c = some (.box n)) ∨
      ∃ u, e.bank.channelOwner c = some u ∧ (f.ctx u).state ≠ .manual ∧ (f.ctx u).state ≠ .empty) :
    doseStartTests e c value f = some .refused := by
  simp only [doseStartTests]
  rw [if_neg (by omega)]
  split
  · rfl
  · next notDemand =>
    obtain demand | none | ⟨n, box⟩ | ⟨u, owner, notManual, notEmpty⟩ := unfit
    · exact absurd demand notDemand
    · simp only [stationOwner, none]
    · simp only [stationOwner, box]
    · cases u with
      | box n => simp only [stationOwner, owner]
      | vessel v => simp [stationOwner, owner, ownerFree, notManual, notEmpty]
      | kiln k => simp [stationOwner, owner, ownerFree, notManual, notEmpty]

theorem doseStartTests_fit {u : PlantUnit} (some' : 1 ≤ value) (mode : e.bank.channelMode c ≠ .demand)
    (owner : e.bank.channelOwner c = some u) (noBox : ∀ n, u ≠ .box n)
    (free : (f.ctx u).state = .manual ∨ (f.ctx u).state = .empty) :
    doseStartTests e c value f =
      if f.channels[c].isOpen ∧ e.bank.channelMode c ≠ .single then some .busy else none := by
  simp only [doseStartTests, stationOwner_eq owner noBox, if_neg mode]
  rw [if_neg (by omega), if_neg (by simpa [ownerFree, or_iff_not_imp_left] using free)]

/-- A value of 32 bits that is positive as a signed number is a base count as it stands (R131). -/
theorem baseCount_word {w : Word} (some' : 1 ≤ w.toInt) : baseCount w.toInt = w.toNat ∧ w.toNat ≠ 0 := by
  have bound := BitVec.toInt_lt (x := w)
  have word := BitVec.toInt_eq_toNat_bmod w
  have below := w.isLt
  have same : w.toInt = w.toNat := by
    rw [BitVec.toInt_eq_toNat_cond] at some' ⊢
    split at some' <;> simp_all
    omega
  refine ⟨?_, by omega⟩
  rw [baseCount, if_neg (by omega), if_pos (by omega), same, Int.toNat_natCast]

/-- R132: the offer of a valve's cell. -/
theorem offerValve_eq {n fn : Byte} (actuator : e.bank.channelActuator c = some (n, fn)) (g : Floor) :
    offerValve e c g =
      let o := g.queue.offerCommand (e.commandCell n fn (32 + c) (if g.channels[c].valve = .opened then 1 else 0))
      { g with queue := o.1, channels := upd g.channels c fun x => { x with valvePending := !o.2 } } := by
  simp only [offerValve, actuator]
  rfl

/-- R132, R133: a dose opens its valve, with the actuator's cell. -/
theorem dosed_opens {n fn : Byte} {base : Nat} (actuator : e.bank.channelActuator c = some (n, fn))
    (shut : f.channels[c].valve ≠ .opened) :
    enterChannel e c .active (f.channel c (Channel.dosed base)) =
      let o := f.queue.offerCommand (e.commandCell n fn (32 + c) 1)
      { f with
        queue := o.1
        channels := upd f.channels c fun x =>
          { x.dosed base with state := .active, valve := .opened, valvePending := !o.2 } } := by
  have still : ((f.channel c (Channel.dosed base)).channel c fun x => { x with state := .active }).channels[c].valve ≠ .opened := by
    rw [channel_channels, channel_channels, upd_upd, upd_get_self]
    exact shut
  simp only [enterChannel, if_true, setValve]
  rw [if_neg still, offerValve_eq actuator]
  simp only [Floor.channel, upd_upd, upd_get_self]
  rfl

/-- R133: a dose that begins, whatever its valve. -/
theorem dosed_channels (e : Env) (c : Fin 12) (base : Nat) (f : Floor) :
    ∃ p, (enterChannel e c .active (f.channel c (Channel.dosed base))).channels =
      upd f.channels c fun x => { x.dosed base with state := .active, valve := .opened, valvePending := p } := by
  obtain ⟨p, entered⟩ := enterChannel_channels e c .active (f.channel c (Channel.dosed base))
  refine ⟨if f.channels[c].valve = .opened then f.channels[c].valvePending else p, ?_⟩
  rw [entered, channel_channels, upd_upd]
  refine upd_congr _ _ ?_
  simp only [Function.comp, Channel.entered, Channel.turned, Channel.dosed, if_true]
  split
  · next same => rw [← same]
  · rfl

theorem doseStartTests_arrived {s t : State} (arrived : s.Arrived t) :
    doseStartTests t.env c value t.floor = doseStartTests s.env c value s.floor := by
  rw [arrived.env, arrived.floor]
  exact doseStartTests_withQueue _

theorem State.Arrived.channels {s t : State} (arrived : s.Arrived t) : t.floor.channels = s.floor.channels := by
  rw [arrived.floor]

/-- R133: the dose that DOSE_START begins. -/
theorem serveDoseStart_opens {w : Word} (named : qual.toNat = c) (tests : doseStartTests e c w.toInt f = none)
    (some' : 1 ≤ w.toInt) (mode : e.bank.channelMode c ≠ .demand)
    (passes : pointsFresh e c = true ∨ maskedBefore e c f.channels[c] = false) :
    serveDoseStart e qual w.toInt reply f =
      reply .ok w.toInt (enterChannel e c .active (f.channel c (Channel.dosed w.toNat))) := by
  obtain ⟨base, notZero⟩ := baseCount_word some'
  have begun : (f.channel c fun x => { x with masked := maskedBefore e c x }).channel c (Channel.dosed w.toNat) =
      f.channel c (Channel.dosed w.toNat) := by
    simp only [Floor.channel, upd_upd]
    rfl
  rw [serveDoseStart_tries named tests, if_pos passes, base,
    beginDose_opens notZero mode, begun]

/-- R133: the mask refuses a dose. -/
theorem serveDoseStart_masked (named : qual.toNat = c) (tests : doseStartTests e c value f = none)
    (old : pointsFresh e c = false) (masked : maskedBefore e c f.channels[c] = true) :
    serveDoseStart e qual value reply f = reply .refused 0 (f.channel c fun x => { x with masked := true }) := by
  have same : (f.channel c fun x => { x with masked := maskedBefore e c x }) = f.channel c fun x => { x with masked := true } := by
    exact congrArg (fun channels => { f with channels := channels })
      (upd_congr f.channels c (f := fun x => { x with masked := maskedBefore e c x }) (g := fun x => { x with masked := true })
        (by rw [masked]))
  rw [serveDoseStart_tries named tests, if_neg, same]
  rintro (fresh | clear)
  · exact absurd (old.symm.trans fresh) Bool.false_ne_true
  · exact absurd (clear.symm.trans masked) Bool.false_ne_true

/-! ### UNMASK -/

theorem serveUnmask_eq (named : qual.toNat = c) :
    serveUnmask e qual reply f =
      if f.channels[c].masked = false then reply .ok f.channels[c].state.code f
      else if pointsFresh e c = true then reply .ok f.channels[c].state.code (f.channel c fun x => { x with masked := false })
      else reply .refused f.channels[c].state.code f := by
  simp only [serveUnmask, named, indexOf_natCast, Bool.not_eq_true']

end Station

section Clauses

variable {r : Req} {s : State} {c : Fin 12}

/-- A dosing function that changes a channel record and answers. -/
theorem exec_ready_channels {fn : Function} {st : Status} {v : Int} {x : Channel} (h : s.Ready fn r)
    (does : ∀ t, s.Arrived t → serveFunction fn { r with fillFirst := false } t =
      ({ t with floor := { t.floor with channels := s.floor.channels.set c x } } : State).answer fn r st v) :
    exec (fn.command r) s = .next (s.afterRequest fn r fun t : State =>
      ({ t with floor := { t.floor with channels := s.floor.channels.set c x } } : State).answer fn r st v) := by
  refine exec_ready_does h does fun t _ => ?_
  rw [(answer_quiet fn r st v).endInputs]
  rfl

end Clauses

/-- Settles O39: the tests of DOSE_START, the dose that begins or is refused by the mask, and UNMASK. -/
theorem stationDosesAndUnmasks : Obligations.StationDosesAndUnmasks := by
  intro r s c named
  have fits (u : PlantUnit) (some' : 1 ≤ r.value.toInt) (mode : s.env.bank.channelMode c ≠ .demand)
      (owner : s.env.bank.channelOwner c = some u) (noBox : ∀ n, u ≠ .box n)
      (free : (s.floor.ctx u).state = .manual ∨ (s.floor.ctx u).state = .empty)
      (shut : s.floor.channels[c].isOpen = false ∨ s.env.bank.channelMode c = .single) :
      doseStartTests s.env c r.value.toInt s.floor = none := by
    rw [doseStartTests_fit some' mode owner noBox free]
    exact if_neg fun busy => shut.elim (fun shut => absurd (shut.symm.trans busy.1) Bool.false_ne_true) busy.2
  refine ⟨fun h => ⟨fun small => ?_, fun some' unfit => ?_, fun u some' mode owner noBox free isOpen => ?_,
    fun u some' mode owner noBox free shut => ⟨fun notFresh masked => ?_, fun n f passes actuator closed => ?_⟩,
    fun u some' mode owner noBox free shut fresh => ?_⟩, fun h => ⟨fun clear => ?_, fun masked fresh => ?_, fun masked old => ?_⟩⟩
  · refine exec_ready_told h fun t arrived => congrArg (fun f => { t with floor := f }) (serveDoseStart_fails named ?_)
    exact if_pos small
  · refine exec_ready_told h fun t arrived => congrArg (fun f => { t with floor := f }) (serveDoseStart_fails named ?_)
    exact (doseStartTests_arrived arrived).trans (doseStartTests_unfit some' unfit)
  · refine exec_ready_told h fun t arrived => congrArg (fun f => { t with floor := f }) (serveDoseStart_fails named ?_)
    refine (doseStartTests_arrived arrived).trans ?_
    have block : s.env.bank.channelMode c = .block := mode
    have other : s.env.bank.channelMode c ≠ .demand ∧ s.env.bank.channelMode c ≠ .single := by
      rw [block]
      decide
    exact (doseStartTests_fit some' other.1 owner noBox free).trans (if_pos ⟨isOpen, other.2⟩)
  · refine exec_ready_channels h fun t arrived => congrArg (fun f => { t with floor := f }) ?_
    have served := serveDoseStart_masked (e := t.env) (f := t.floor) (reply := replyTo t.env .doseStart r) named
      ((doseStartTests_arrived arrived).trans (fits u some' mode owner noBox free shut))
      (by rw [arrived.env]; exact notFresh) (by rw [arrived.env, arrived.channels]; exact (maskedBefore_iff ..).mpr masked)
    rw [Floor.channel, arrived.channels] at served
    exact served
  · refine exec_ready_does h (fun t arrived => congrArg (fun f => { t with floor := f }) ?_) fun t _ => ?_
    · have opens := serveDoseStart_opens (e := t.env) (f := t.floor) (reply := replyTo t.env .doseStart r) named
        ((doseStartTests_arrived arrived).trans (fits u some' mode owner noBox free shut)) some'
        (by rw [arrived.env]; exact mode)
        (by rw [arrived.env, arrived.channels]; exact passes.imp_right fun clear =>
              Bool.eq_false_iff.mpr fun masked => clear ((maskedBefore_iff ..).mp masked))
      have closed' : t.floor.channels[c].valve ≠ .opened := by
        rw [arrived.channels]
        exact closed
      rw [dosed_opens (by rw [arrived.env]; exact actuator) closed', arrived.channels] at opens
      have second : t.env.second = s.second := arrived.second
      simp only [Env.commandCell, second] at opens
      exact opens
    · rw [(answer_quiet .doseStart r .ok r.value.toInt).endInputs]
      exact congrArg (fun c => { t.endInputs with congested := c }) (offerCommand_congested ..)
  · have opens (q : Queue) : floorWork .doseStart r s.env (s.floor.withQueue q) = _ :=
      serveDoseStart_opens (f := s.floor.withQueue q) (reply := replyTo s.env .doseStart r) named
        ((doseStartTests_withQueue q).trans (fits u some' mode owner noBox free shut)) some' mode (.inl fresh)
    obtain ⟨t, q, q', runs, served, floor⟩ := exec_ready_still h (by decide) (fun q => by rw [opens]; simp)
      (fun q => by rw [opens]; simp)
    rw [opens] at floor
    obtain ⟨p, channels⟩ := dosed_channels s.env c r.value.toNat (s.floor.withQueue q)
    refine ⟨t, runs, served, ?_⟩
    rw [floor]
    refine Floor.eq_of_fields rfl ?_ ?_ ?_ ?_ ?_ ?_ ?_ ?_ ?_ ?_
    case refine_3 =>
      simp only [withQueue_channels, replyTo_frame, channels]
      rw [upd_get_self]
      rfl
    all_goals simp
  · refine exec_ready_told h fun t arrived => congrArg (fun f => { t with floor := f }) ?_
    have served := serveUnmask_eq (e := t.env) (f := t.floor) (reply := replyTo t.env .unmask r) named
    rw [arrived.channels, if_pos clear] at served
    exact served
  · refine exec_ready_channels h fun t arrived => congrArg (fun f => { t with floor := f }) ?_
    have served := serveUnmask_eq (e := t.env) (f := t.floor) (reply := replyTo t.env .unmask r) named
    rw [arrived.channels, if_neg (fun clear => absurd (clear.symm.trans masked) Bool.false_ne_true),
      if_pos (by rw [arrived.env]; exact fresh), Floor.channel, arrived.channels] at served
    exact served
  · refine exec_ready_told h fun t arrived => congrArg (fun f => { t with floor := f }) ?_
    have served := serveUnmask_eq (e := t.env) (f := t.floor) (reply := replyTo t.env .unmask r) named
    rw [arrived.channels, if_neg (fun clear => absurd (clear.symm.trans masked) Bool.false_ne_true),
      if_neg (by rw [arrived.env, old]; exact Bool.false_ne_true)] at served
    exact served

end Sys2Proof.Machine

/-! SUPPORT. What the reports of a channel's rest may do to the channels, and DOSE_CLEAR (R123, R140, R143, R187): O40. -/

namespace Sys2Proof.Machine

/-! ### Channels that settle -/

/-- `y` is `x` but for what states and valves change: the state, the valve's decision, its close time and pending flag, and the
demand flag. -/
def Channel.SameDose (x y : Channel) : Prop := y = { x with
  state := y.state, valve := y.valve, closeTime := y.closeTime, valvePending := y.valvePending, demand := y.demand }

theorem Channel.SameDose.trans {x y z : Channel} (a : x.SameDose y) (b : y.SameDose z) : x.SameDose z :=
  Eq.trans b (congrArg (fun w : Channel => { w with
    state := z.state, valve := z.valve, closeTime := z.closeTime, valvePending := z.valvePending, demand := z.demand }) a)

/-- `y` is `x` after commands that open no valve of a channel at rest: an open channel is open or STOPPED with its valve CLOSED, its
dose as it was, and any other keeps its record but for the demand flag. -/
def Channel.Settles (x y : Channel) : Prop :=
  (x.isOpen = true → (y.isOpen = true ∨ (y.state = .stopped ∧ y.valve = .closed)) ∧ x.SameDose y) ∧
    (x.isOpen = false → y = { x with demand := y.demand })

theorem Channel.Settles.refl (x : Channel) : x.Settles x := ⟨fun isOpen => ⟨.inl isOpen, rfl⟩, fun _ => rfl⟩

theorem Channel.Settles.shut {x y : Channel} (a : x.Settles y) (shut : x.isOpen = false) : y.isOpen = false := by
  rw [a.2 shut]
  exact shut

theorem Channel.Settles.trans {x y z : Channel} (a : x.Settles y) (b : y.Settles z) : x.Settles z := by
  refine ⟨fun isOpen => ?_, fun shut => ?_⟩
  · obtain ⟨opens, dose⟩ := a.1 isOpen
    cases still : y.isOpen with
    | true => exact ⟨(b.1 still).1, dose.trans (b.1 still).2⟩
    | false =>
      have only := b.2 still
      refine ⟨.inr ?_, dose.trans (by rw [only]; rfl)⟩
      rw [only]
      exact opens.resolve_left fun h => Bool.false_ne_true (still.symm.trans h)
  · rw [b.2 (a.shut shut), a.2 shut]

theorem turned_sameDose (second : Nat) (want : ValveDecision) (pending : Bool) (x : Channel) :
    x.SameDose (x.turned second want pending) := by
  unfold Channel.turned
  split <;> rfl

theorem entered_sameDose (second : Nat) (st : ChannelState) (pending : Bool) (x : Channel) :
    x.SameDose (x.entered second st pending) :=
  Channel.SameDose.trans (y := { x with state := st }) rfl (turned_sameDose ..)

theorem entered_settles (second : Nat) (pending : Bool) (x : Channel) (isOpen : x.isOpen = true) :
    x.Settles (x.entered second .stopped pending) :=
  ⟨fun _ => ⟨.inr (by simp [Channel.entered]), entered_sameDose ..⟩,
    fun shut => absurd (shut.symm.trans isOpen) Bool.false_ne_true⟩

theorem told_sameDose (second : Nat) (demanding d pending : Bool) (x : Channel) :
    x.SameDose (x.told second demanding d pending) := by
  have demand : x.SameDose { x with demand := d } := rfl
  simp only [Channel.told]
  split
  · exact demand.trans (entered_sameDose ..)
  · split
    · exact demand.trans (entered_sameDose ..)
    · exact demand

/-- R136: what is told to a channel settles it. -/
theorem told_settles (second : Nat) (demanding d pending : Bool) (x : Channel) :
    x.Settles (x.told second demanding d pending) := by
  refine ⟨fun isOpen => ⟨.inl ((told_isOpen ..).trans isOpen), told_sameDose ..⟩, fun shut => ?_⟩
  have notActive : x.state ≠ .active := by rintro active; simp [Channel.isOpen, active] at shut
  have notPaused : x.state ≠ .paused := by rintro paused; simp [Channel.isOpen, paused] at shut
  rw [Channel.told, if_neg fun h => notActive h.2.1, if_neg fun h => notPaused h.2.1]

/-- From `f` to `g` every channel has settled. -/
structure Floor.Settles (f g : Floor) : Prop where
  each : ∀ c : Fin 12, f.channels[c].Settles g.channels[c]

section Settling

variable {e : Env} {f g h : Floor}

theorem Floor.Settles.same (channels : g.channels = f.channels) : f.Settles g := ⟨fun c => by
  rw [channels]
  exact .refl _⟩

theorem Floor.Settles.trans (a : f.Settles g) (b : g.Settles h) : f.Settles h := ⟨fun c => (a.each c).trans (b.each c)⟩

theorem arb_settles (f : Floor) (op : Arbiter → Arbiter) : f.Settles (f.arb op) := .same rfl

theorem upd_settles {op : Channel → Channel} {c : Fin 12} (changed : g.channels = upd f.channels c op)
    (settles : f.channels[c].Settles (op f.channels[c])) : f.Settles g := ⟨fun d => by
  rw [changed, upd_get]
  split
  · next here => rw [← here]; exact settles
  · exact .refl _⟩

theorem foldl_settles {α : Type} {op : Floor → α → Floor} (each : ∀ (f : Floor) a, f.Settles (op f a)) (l : List α) (f : Floor) :
    f.Settles (l.foldl op f) := by
  induction l generalizing f with
  | nil => exact .same rfl
  | cons a l ih => exact (each f a).trans (ih _)

theorem stopChannel_settles (e : Env) (c : Fin 12) (f : Floor) : f.Settles (stopChannel e c f) := by
  obtain ⟨p, stopped⟩ := stopChannel_channels e c f
  refine upd_settles stopped ?_
  split
  · next isOpen => exact entered_settles _ _ _ isOpen
  · exact .refl _

theorem stopUnitChannel_settles (e : Env) (u : PlantUnit) (f : Floor) : f.Settles (stopUnitChannel e u f) := by
  simp only [stopUnitChannel]
  split
  · exact stopChannel_settles ..
  · exact .same rfl

theorem tellDemand_settles (e : Env) (c : Fin 12) (d : Bool) (f : Floor) : f.Settles (tellDemand e c d f) := by
  obtain ⟨p, told⟩ := tellDemand_channels e c d f
  exact upd_settles told (told_settles ..)

theorem endDemandOf_settles (e : Env) (u : PlantUnit) (f : Floor) : f.Settles (endDemandOf e u f) :=
  foldl_settles (fun f c => tellDemand_settles e c false f) _ f

/-- What the owners tell their channels settles them. -/
theorem tellOwners_settles (e₀ : Env) (before : Floor) (e : Env) (f : Floor) : f.Settles (tellOwners e₀ before e f) := by
  refine Floor.Settles.trans (foldl_settles (op := tellVessel before e) (fun g v => ?_) _ f)
    (foldl_settles (op := tellChangedKiln e₀ before e) (fun g k => ?_) _ _)
  · obtain same | ⟨c, d, told⟩ := tellVessel_cases before e g v
    · exact .same (by rw [same])
    · rw [told]
      exact tellDemand_settles ..
  · obtain same | told := tellChangedKiln_cases e₀ before e g k
    · exact .same (by rw [same])
    · rw [told]
      obtain same | ⟨c, d, told⟩ := tellKiln_cases e k g
      · exact .same (by rw [same])
      · rw [told]
        exact tellDemand_settles ..

/-! ### Reports -/

theorem holdVessel_settles (e : Env) (v : Fin 6) (r : HoldReason) (f : Floor) : f.Settles (holdVessel e v r f) := by
  simp only [holdVessel, stopFillForHold]
  split
  · refine Floor.Settles.trans (.same (g := enterHeld e (.vessel v) r .running f) (by simp)) ?_
    exact (stopUnitChannel_settles e (.vessel v) _).trans (.same (by simp))
  · exact .same (by simp)

theorem withdraw_settles (e : Env) (b : Fin 12) (f : Floor) : f.Settles (withdraw e b f) := by
  simp only [withdraw]
  split
  · exact (arb_settles f _).trans (endDemandOf_settles ..)
  · exact .same rfl

theorem releaseTurn_settles (e : Env) (f : Floor) : f.Settles (releaseTurn e f) := by
  simp only [releaseTurn]
  split
  · exact .same rfl
  · next b granted =>
    refine ((arb_settles f _).trans (withdraw_settles e b (f.arb (·.drop b)))).trans (.same ?_)
    split <;> simp

theorem sprayReport_settles (e : Env) (b : Fin 12) (f : Floor) : f.Settles (sprayReport e b f) := by
  simp only [sprayReport, releaseTest]
  split
  · split
    · split
      · exact .same rfl
      · exact releaseTurn_settles e f
    · exact .same rfl
  · exact .same rfl

theorem ownerStopped_settles (e : Env) (c : Fin 12) (f : Floor) : f.Settles (ownerStopped e c f) := by
  simp only [ownerStopped]
  split
  · simp only [vesselStopped]
    split
    · exact holdVessel_settles ..
    · exact .same rfl
  · exact sprayReport_settles ..
  · exact .same (by simp)
  · exact .same rfl

end Settling

/-! ### DOSE_CLEAR -/

section Clearing

variable {e : Env} {c d : Fin 12} {f : Floor} {v : Fin 6}

/-- R143: what DOSE_CLEAR leaves of a channel, but for its valve. -/
structure Channel.AtRest (x : Channel) : Prop where
  idle : x.state = .idle
  base : x.base = 0
  current : x.current = 0
  tc : x.tc = false
  masked : x.masked = true

theorem Channel.AtRest.shut {x : Channel} (a : x.AtRest) : x.isOpen = false := by simp [Channel.isOpen, a.idle]

theorem Channel.AtRest.settles {x y : Channel} (a : x.AtRest) (b : x.Settles y) : y.AtRest := by
  rw [b.2 a.shut]
  exact ⟨a.idle, a.base, a.current, a.tc, a.masked⟩

/-- A channel that is open or whose valve is CLOSED. -/
def Channel.Closing (x : Channel) : Prop := x.isOpen = true ∨ x.valve = .closed

theorem Channel.Closing.settles {x y : Channel} (a : x.Closing) (b : x.Settles y) : y.Closing := by
  cases isOpen : x.isOpen with
  | true => exact (b.1 isOpen).1.imp id And.right
  | false =>
    rw [b.2 isOpen]
    exact .inr (a.resolve_left fun h => Bool.false_ne_true (isOpen.symm.trans h))

/-- R143 steps 1 and 2 at a channel, before the owner is told. -/
def clearRecord (e : Env) (c : Fin 12) (f : Floor) : Floor :=
  (if f.channels[c].isOpen then setValve e c .closed f else f).channel c fun x =>
    { x with state := .idle, base := 0, current := 0, tc := false, masked := true, note := false }

theorem clearChannel_eq : clearChannel e f c =
    if f.channels[c].isOpen then ownerStopped e c (clearRecord e c f) else clearRecord e c f := rfl

theorem clearRecord_channels (e : Env) (c : Fin 12) (f : Floor) :
    ∃ op : Channel → Channel, (clearRecord e c f).channels = upd f.channels c op ∧
      ∀ x, (op x).AtRest ∧ (x.Closing → (op x).Closing) := by
  obtain ⟨p, valve⟩ := setValve_channels e c .closed f
  cases isOpen : f.channels[c].isOpen with
  | true =>
    refine ⟨fun x => { x.turned e.second .closed p with
      state := .idle, base := 0, current := 0, tc := false, masked := true, note := false }, ?_, fun x => ⟨?_, fun _ => .inr ?_⟩⟩
    · rw [clearRecord, if_pos isOpen, channel_channels, valve, upd_upd]
      rfl
    · exact ⟨rfl, rfl, rfl, rfl, rfl⟩
    · simp
  | false =>
    refine ⟨fun x => { x with
      state := .idle, base := 0, current := 0, tc := false, masked := true, note := false
      valve := if x.isOpen then .closed else x.valve }, ?_, fun x => ⟨⟨rfl, rfl, rfl, rfl, rfl⟩, fun closing => .inr ?_⟩⟩
    · rw [clearRecord, if_neg (by rw [isOpen]; exact Bool.false_ne_true), channel_channels]
      refine upd_congr _ _ ?_
      rw [isOpen]
      rfl
    · obtain isOpen | closed := closing
      · simp [isOpen]
      · simp [closed]

@[simp] theorem clearRecord_frame (e : Env) (c : Fin 12) (f : Floor) :
    (clearRecord e c f).vessels = f.vessels ∧ (clearRecord e c f).boxes = f.boxes ∧ (clearRecord e c f).kilns = f.kilns := by
  simp only [clearRecord]
  split <;> simp

theorem clearChannel_settled (e : Env) (f : Floor) (c : Fin 12) : (clearRecord e c f).Settles (clearChannel e f c) := by
  rw [clearChannel_eq]
  split
  · exact ownerStopped_settles ..
  · exact .same rfl

theorem clearChannel_rests (e : Env) (f : Floor) (c : Fin 12) : (clearChannel e f c).channels[c].AtRest := by
  obtain ⟨op, cleared, rests⟩ := clearRecord_channels e c f
  refine Channel.AtRest.settles ?_ ((clearChannel_settled e f c).each c)
  rw [cleared, upd_get_self]
  exact (rests _).1

theorem clearChannel_keeps_rest (rest : f.channels[d].AtRest) : (clearChannel e f c).channels[d].AtRest := by
  obtain ⟨op, cleared, rests⟩ := clearRecord_channels e c f
  refine Channel.AtRest.settles ?_ ((clearChannel_settled e f c).each d)
  rw [cleared, upd_get]
  split
  · exact (rests _).1
  · exact rest

theorem clearChannel_keeps_closing (closing : f.channels[d].Closing) : (clearChannel e f c).channels[d].Closing := by
  obtain ⟨op, cleared, rests⟩ := clearRecord_channels e c f
  refine Channel.Closing.settles ?_ ((clearChannel_settled e f c).each d)
  rw [cleared, upd_get]
  split
  · next here =>
    subst here
    exact (rests _).2 closing
  · exact closing

theorem foldl_clear_rests (l : List (Fin 12)) (f : Floor) (c : Fin 12) (mem : c ∈ l) :
    (l.foldl (clearChannel e) f).channels[c].AtRest := by
  induction l generalizing f with
  | nil => cases mem
  | cons d l ih =>
    obtain rfl | later := List.mem_cons.mp mem
    · exact foldl_inv (fun g : Floor => g.channels[c].AtRest) _ (fun _ _ => clearChannel_keeps_rest) l _
        (clearChannel_rests e f c)
    · exact ih _ later

/-! ### The vessel that was filling -/

def Floor.vesselAt (f : Floor) (v : Fin 6) : Vessel := f.vessels[v]

theorem reportedOwner_unitChannel {u : PlantUnit} (owner : reportedOwner e c = some u) : e.bank.unitChannel u = some c := by
  simp only [reportedOwner] at owner
  split at owner
  · split at owner
    · next binds => cases owner; exact binds
    · cases owner
  · cases owner

theorem holdVessel_vessel_other {w : Fin 6} (other : v ≠ w) (r : HoldReason) :
    (holdVessel e w r f).vesselAt v = f.vesselAt v := by
  have entered : (enterHeld e (.vessel w) r .running f).vesselAt v = f.vesselAt v := by
    rw [enterHeld, Floor.vesselAt, (raiseEvent_frame ..).1]
    exact upd_get_ne _ _ (Ne.symm other)
  obtain stands | decided := stopFillForHold_decides e w (enterHeld e (.vessel w) r .running f)
  · exact (stands.other other).trans entered
  · exact (decided.other other).trans entered

theorem vesselAt_congr {g : Floor} (vessels : g.vessels = f.vessels) : g.vesselAt v = f.vesselAt v := by
  rw [Floor.vesselAt, vessels]
  rfl

theorem holdVessel_openAt {w : Fin 6} (binds : e.bank.unitChannel (.vessel w) = some d) (other : c ≠ d) (r : HoldReason) :
    (holdVessel e w r f).openAt c = f.openAt c := by
  have entered : (enterHeld e (.vessel w) r .running f).openAt c = f.openAt c := openAt_of_channels (by simp) c
  rw [holdVessel, stopFillForHold, stopUnitChannel, binds]
  split
  · refine Eq.trans (openAt_of_channels (f := stopChannel e d (enterHeld e (.vessel w) r .running f)) (by simp) c) ?_
    rw [stopChannel_openAt, entered]
    simp [Ne.symm other]
  · exact entered

theorem sprayReport_openAt (b : Fin 12) : (sprayReport e b f).openAt c = f.openAt c := by
  simp only [sprayReport, releaseTest]
  split
  · split
    · split
      · rfl
      · exact releaseTurn_openAt e c f
    · rfl
  · rfl

/-- The report of another channel reaches neither a vessel nor the channel that it fills from. -/
theorem ownerStopped_other (owner : reportedOwner e c = some (.vessel v)) (other : c ≠ d) :
    (ownerStopped e d f).vesselAt v = f.vesselAt v ∧ (ownerStopped e d f).openAt c = f.openAt c := by
  cases reported : reportedOwner e d with
  | none =>
    rw [ownerStopped, reported]
    exact ⟨rfl, rfl⟩
  | some u =>
    cases u with
    | vessel w =>
      have apart : v ≠ w := by
        rintro rfl
        exact other (Option.some.inj ((reportedOwner_unitChannel owner).symm.trans (reportedOwner_unitChannel reported)))
      rw [ownerStopped, reported]
      simp only [vesselStopped]
      split
      · exact ⟨holdVessel_vessel_other apart .dose, holdVessel_openAt (reportedOwner_unitChannel reported) other .dose⟩
      · exact ⟨rfl, rfl⟩
    | box b =>
      rw [ownerStopped, reported]
      exact ⟨vesselAt_congr (by simp), sprayReport_openAt b⟩
    | kiln k =>
      rw [ownerStopped, reported]
      exact ⟨vesselAt_congr (by simp), openAt_of_channels (by simp) c⟩

theorem clearRecord_other (other : c ≠ d) : (clearRecord e d f).openAt c = f.openAt c := by
  obtain ⟨op, cleared, -⟩ := clearRecord_channels e d f
  rw [Floor.openAt, cleared, upd_get_ne _ _ (Ne.symm other)]
  rfl

theorem clearChannel_other (owner : reportedOwner e c = some (.vessel v)) (other : c ≠ d) :
    (clearChannel e f d).vesselAt v = f.vesselAt v ∧ (clearChannel e f d).openAt c = f.openAt c := by
  have cleared : (clearRecord e d f).vesselAt v = f.vesselAt v := vesselAt_congr (by simp)
  rw [clearChannel_eq]
  split
  · obtain ⟨vessel, channel⟩ := ownerStopped_other (f := clearRecord e d f) owner other
    exact ⟨vessel.trans cleared, channel.trans (clearRecord_other other)⟩
  · exact ⟨cleared, clearRecord_other other⟩

theorem foldl_clear_other (owner : reportedOwner e c = some (.vessel v)) (l : List (Fin 12)) (absent : c ∉ l) (f : Floor) :
    (l.foldl (clearChannel e) f).vesselAt v = f.vesselAt v ∧ (l.foldl (clearChannel e) f).openAt c = f.openAt c := by
  induction l generalizing f with
  | nil => exact ⟨rfl, rfl⟩
  | cons d l ih =>
    simp only [List.mem_cons, not_or] at absent
    have step := clearChannel_other (f := f) owner absent.1
    have rest := ih absent.2 (clearChannel e f d)
    exact ⟨rest.1.trans step.1, rest.2.trans step.2⟩

/-- R123, R143: a running vessel whose open fill channel is cleared is HELD(DOSE). -/
theorem clearChannel_holds (owner : reportedOwner e c = some (.vessel v)) (isOpen : f.openAt c = true)
    (running : (f.vesselAt v).ctx.state = .running) (filling : (f.vesselAt v).fill = .filling) :
    ((clearChannel e f c).vesselAt v).ctx = (f.vesselAt v).ctx.heldFor .dose := by
  have still : (clearRecord e c f).vesselAt v = f.vesselAt v := vesselAt_congr (by simp)
  have held : clearChannel e f c = holdVessel e v .dose (clearRecord e c f) := by
    rw [clearChannel_eq, if_pos (show f.channels[c].isOpen = true from isOpen), ownerStopped, owner]
    exact if_pos ⟨by rw [← Floor.vesselAt, still]; exact running, by rw [← Floor.vesselAt, still]; exact filling⟩
  rw [held]
  refine (holdVessel_ctx (u := .vessel v) .dose).trans ?_
  rw [if_pos rfl, ctx_vessel, ← Floor.vesselAt, still]
  rfl

/-- R143: DOSE_CLEAR finds each channel once. -/
theorem foldl_clear_holds (owner : reportedOwner e c = some (.vessel v)) (isOpen : f.openAt c = true)
    (running : (f.vesselAt v).ctx.state = .running) (filling : (f.vesselAt v).fill = .filling) :
    (((List.finRange 12).foldl (clearChannel e) f).vesselAt v).ctx = (f.vesselAt v).ctx.heldFor .dose := by
  obtain ⟨before, after, split⟩ := List.append_of_mem (List.mem_finRange c)
  have nodup := List.nodup_finRange 12
  rw [split] at nodup ⊢
  obtain ⟨-, last, apart⟩ := List.nodup_append.mp nodup
  have first := foldl_clear_other owner before (fun mem => apart c mem c List.mem_cons_self rfl) f
  rw [List.foldl_append, List.foldl_cons, (foldl_clear_other owner after (List.nodup_cons.mp last).1 _).1]
  have held := clearChannel_holds (f := before.foldl (clearChannel e) f) owner (first.2.trans isOpen)
    (by rw [first.1]; exact running) (by rw [first.1]; exact filling)
  rwa [first.1] at held

end Clearing

/-- Settles O40: the channels come to rest, and a vessel that was filling is held. -/
theorem doseClearBringsChannelsToRest : Obligations.DoseClearBringsChannelsToRest := by
  intro r s h
  obtain ⟨t, q, q', runs, served, floor⟩ := exec_ready_leaves h (by decide)
  have clears (q : Queue) : floorWork .doseClear r s.env (s.floor.withQueue q) =
      replyTo s.env .doseClear r .ok (openChannels s.floor)
        ((List.finRange 12).foldl (clearChannel s.env) (s.floor.withQueue q)) := rfl
  rw [clears] at floor
  have settles : ((List.finRange 12).foldl (clearChannel s.env) (s.floor.withQueue q)).Settles t.floor := by
    rw [floor]
    exact Floor.Settles.trans (.same (by simp)) (tellOwners_settles ..)
  have ctx (v : Fin 6) : t.floor.vessels[v].ctx =
      ((List.finRange 12).foldl (clearChannel s.env) (s.floor.withQueue q)).vessels[v].ctx := by
    rw [floor, tellOwners_vessels, withQueue_vessels, (replyTo_frame ..).2.1]
  have batches := foldl_keeps (fun g : Floor => g.batches) (clearChannel s.env) (fun _ _ => by simp) (List.finRange 12)
    (s.floor.withQueue q)
  have register := foldl_keeps (fun g : Floor => g.register) (clearChannel s.env) (fun _ _ => by simp) (List.finRange 12)
    (s.floor.withQueue q)
  generalize (List.finRange 12).foldl (clearChannel s.env) (s.floor.withQueue q) = g at floor batches register
  refine ⟨t, runs, served, ?_, ?_, fun c => ?_, fun c v isOpen owner running filling => ?_⟩
  · rw [floor]
    simp [batches]
  · rw [floor]
    simp [register]
  · have rest := (foldl_clear_rests (e := s.env) _ (s.floor.withQueue q) c (List.mem_finRange c)).settles (settles.each c)
    refine ⟨rest.idle, rest.base, rest.current, rest.tc, rest.masked, fun isOpen => ?_⟩
    have closing : ((List.finRange 12).foldl (clearChannel s.env) (s.floor.withQueue q)).channels[c].Closing :=
      foldl_inv (fun g : Floor => g.channels[c].Closing) _ (fun _ _ => clearChannel_keeps_closing) _ _ (.inl isOpen)
    exact (closing.settles (settles.each c)).resolve_left fun h => Bool.false_ne_true (rest.shut.symm.trans h)
  · rw [ctx]
    exact foldl_clear_holds (f := s.floor.withQueue q) owner isOpen running filling

end Sys2Proof.Machine

/-! SUPPORT. The ends of a transfer: TRANSFER_DONE and TRANSFER_ABORT (R106, R107, R128, R169, R193, R201): O32, O33. -/

namespace Sys2Proof.Machine

/-! ### What the end of an event leaves -/

/-- From `g` to `h` the insertion queue and the records of the channels alone have changed, and the channels have settled. -/
structure Floor.ToldOnly (g h : Floor) : Prop where
  eventSeq : h.eventSeq = g.eventSeq
  vessels : h.vessels = g.vessels
  boxes : h.boxes = g.boxes
  arbiter : h.arbiter = g.arbiter
  kilns : h.kilns = g.kilns
  batches : h.batches = g.batches
  register : h.register = g.register
  accept : h.acceptCount = g.acceptCount
  free : h.freeCount = g.freeCount
  channels : g.Settles h

theorem Floor.ToldOnly.ctx {g h : Floor} (a : g.ToldOnly h) (u : PlantUnit) : h.ctx u = g.ctx u :=
  ctx_congr u a.vessels a.boxes a.kilns

/-- What is told to the owners' channels, in another queue. -/
theorem told_only (e₀ : Env) (before : Floor) (e : Env) (f : Floor) (q : Queue) :
    f.ToldOnly (tellOwners e₀ before e (f.withQueue q)) := by
  obtain ⟨eventSeq, vessels, boxes, arbiter, kilns, batches, register, accept, free⟩ :=
    tellOwners_frame e₀ before e (f.withQueue q)
  exact ⟨eventSeq, vessels, boxes, arbiter, kilns, batches, register, accept, free,
    Floor.Settles.trans (g := f.withQueue q) (.same rfl) (tellOwners_settles ..)⟩

section Ends

variable {s : State} {fn : Function} {r : Req} {i : Instr}

/-- A request that a block of the floor serves. -/
theorem exec_ready_works (h : s.Ready fn r) (mem : fn ∈ floorFunctions) :
    ∃ t q, exec (fn.command r) s = .next t ∧ s.ServedOn t ∧
      (floorWork fn r s.env (s.floor.withQueue q)).ToldOnly t.floor := by
  obtain ⟨t, q, q', runs, served, floor⟩ := exec_ready_leaves h mem
  refine ⟨t, q, runs, served, ?_⟩
  rw [floor]
  exact told_only ..

/-- A step that is due and that is work on the floor. -/
theorem exec_due_works (awake : s.inReset = false) (due : i ∈ s.due) {op : Env → Floor → Floor}
    (runs : exec i s = .next (takeDue i (fun u => u.onFloor op) s)) :
    ∃ t, exec i s = .next t ∧ s.TookDue t i ∧ (op s.env s.floor).ToldOnly t.floor := by
  obtain ⟨t, runs, took, floor⟩ := exec_due_floor awake due runs
  refine ⟨t, runs, took, ?_⟩
  rw [floor]
  exact told_only _ _ _ _ (op s.env s.floor).queue

end Ends

/-! ### Units that are emptied -/

section Transfers

variable {e : Env} {f : Floor} {b : Fin 20} {x : Batch} {tr : Transfer} {id : Nat} {reply : Status → Int → Floor → Floor}

theorem unitEmptied_ctx (u w : PlantUnit) : (unitEmptied e u f).ctx w = f.ctx w := by
  cases u <;> simp [unitEmptied]

/-- R98, R106: a unit that is emptied. -/
theorem emptyUnit_ctx (u w : PlantUnit) :
    (emptyUnit e u f).ctx w = if w = u then ⟨.empty, none, none, none, none, none⟩ else f.ctx w := by
  rw [emptyUnit, unitEmptied_ctx, updCtx_ctx]
  rfl

/-- Slots whose batches have not changed wait as they did. -/
theorem waitingTransfer_congr_at {g : Floor} {c : Fin 20} (same : g.batches[c] = f.batches[c]) :
    waitingTransfer g c = waitingTransfer f c := by
  simp only [waitingTransfer, same]

theorem waitingTransfer_still {c : Fin 20} (still : ∀ y, f.batches[c] = some y → y.transfer = none) :
    waitingTransfer f c = none :=
  waitingTransfer_eq_none.mpr fun y t at' moving => by rw [still y at'] at moving; cases moving

/-! ### TRANSFER_DONE -/

theorem serveTransferDone_served (found : f.findBatch id = some b) (at' : f.batches[b] = some x) (moving : x.transfer = some tr) :
    serveTransferDone e id reply f =
      if tr.phase ≠ .inTransit then reply .busy 0 f
      else if x.exciseHold then reply .hold 0 f
      else registerChanged e (reply .ok id (completeTransfer e b x tr f)) := by
  simp only [serveTransferDone, found, at', moving]

/-- R106: a transfer that is completed, by its destination. -/
theorem completeTransfer_ctx (w : PlantUnit) (apart : some x.location ≠ tr.dest) :
    (completeTransfer e b x tr f).ctx w =
      if some w = tr.dest then ⟨.loaded, none, none, some x.id, (f.ctx w).pos, none⟩
      else if w = x.location then ⟨.empty, none, none, none, none, none⟩ else f.ctx w := by
  cases leads : tr.dest with
  | none =>
    simp only [completeTransfer, leads, freeBatch, raiseEvent_ctx]
    rw [if_neg (by simp)]
    exact emptyUnit_ctx ..
  | some u =>
    simp only [completeTransfer, leads, batch_ctx, updCtx_ctx, emptyUnit_ctx, Option.some.injEq]
    split
    · next here =>
      have other : u ≠ x.location := fun same => apart (by rw [leads, same])
      rw [if_neg other, here]
      rfl
    · rfl

theorem completeTransfer_batches : (completeTransfer e b x tr f).batches =
    upd f.batches b fun y => tr.dest.bind fun u => y.map fun y => { y with location := u, inTransit := false, transfer := none } := by
  cases leads : tr.dest with
  | none => simp [completeTransfer, leads, freeBatch, releaseReservation, Floor.reg, upd_eq_set]
  | some u =>
    simp only [completeTransfer, leads, batch_batches, updCtx_batches, emptyUnit_frame]
    rfl

theorem completeTransfer_register : (completeTransfer e b x tr f).register = { f.register with
    reservations := f.register.reservations.filter fun v => !(v.batch == x.id && some v.number == tr.sample) } := by
  cases leads : tr.dest <;> simp [completeTransfer, leads, freeBatch, releaseReservation, Floor.reg]

/-! ### TRANSFER_ABORT -/

theorem serveTransferAbort_served (found : f.findBatch id = some b) (at' : f.batches[b] = some x)
    (moving : x.transfer = some tr) :
    serveTransferAbort e id reply f =
      let g := reply .ok (abortTransfer e b x tr f).2 (abortTransfer e b x tr f).1
      if tr.phase = .inTransit then registerChanged e g else g := by
  simp only [serveTransferAbort, found, at', moving]

/-- R201: the floor once the VOID of a transfer's reservation is written, where one stands. -/
def voided (e : Env) (b : Fin 20) (tr : Transfer) (f : Floor) : Floor :=
  if tr.phase = .inTransit then (writeVoid e b tr f).1 else f

theorem voided_batch_other {c : Fin 20} (other : c ≠ b) : (voided e b tr f).batches[c] = f.batches[c] := by
  have written : (voided e b tr f).batches = f.batches ∨ ∃ op, (voided e b tr f).batches = upd f.batches b op := by
    simp only [voided, writeVoid]
    split
    · split
      · exact .inl rfl
      · exact .inr ⟨_, rfl⟩
    · exact .inl rfl
  obtain same | ⟨op, same⟩ := written
  · rw [same]
  · rw [same, upd_get_ne _ _ (Ne.symm other)]

theorem writeVoid_ctx (w : PlantUnit) : (writeVoid e b tr f).1.ctx w = f.ctx w := by
  simp only [writeVoid]
  split <;> simp

theorem voided_ctx (w : PlantUnit) : (voided e b tr f).ctx w = f.ctx w := by
  simp only [voided]
  split
  · exact writeVoid_ctx w
  · rfl

/-- R107: a transfer that is given up, by the units it ran between. -/
theorem abortTransfer_ctx (w : PlantUnit) (apart : some x.location ≠ tr.dest) :
    (abortTransfer e b x tr f).1.ctx w =
      if some w = tr.dest then { f.ctx w with state := .empty }
      else if w = x.location then { f.ctx w with state := .done } else f.ctx w := by
  have source (w : PlantUnit) : ((voided e b tr f).updCtx x.location fun c => { c with state := .done }).ctx w =
      if w = x.location then { f.ctx w with state := .done } else f.ctx w := by
    rw [updCtx_ctx, voided_ctx, voided_ctx]
    split
    · next here => rw [here]
    · rfl
  have same : (if tr.phase = .inTransit then writeVoid e b tr f else (f, 0)).1 = voided e b tr f := by
    rw [voided, apply_ite Prod.fst]
  cases leads : tr.dest with
  | none =>
    simp only [abortTransfer, leads, batch_ctx, same, source]
    exact (if_neg (by simp)).symm
  | some u =>
    simp only [abortTransfer, leads, batch_ctx, same, Option.some.injEq]
    rw [updCtx_ctx, source, source]
    have other : u ≠ x.location := fun same => apart (by rw [leads, same])
    by_cases here : w = u
    · rw [if_pos here, if_pos here, if_neg other, here]
    · rw [if_neg here, if_neg here]

theorem abortTransfer_batches : (abortTransfer e b x tr f).1.batches =
    upd (voided e b tr f).batches b fun y => y.map fun y => { y with transfer := none, inTransit := false } := by
  have same : (if tr.phase = .inTransit then writeVoid e b tr f else (f, 0)).1 = voided e b tr f := by
    rw [voided, apply_ite Prod.fst]
  cases leads : tr.dest <;> simp only [abortTransfer, leads, batch_batches, updCtx_batches, same]

theorem abortTransfer_register : (abortTransfer e b x tr f).1.register = (voided e b tr f).register := by
  have same : (if tr.phase = .inTransit then writeVoid e b tr f else (f, 0)).1 = voided e b tr f := by
    rw [voided, apply_ite Prod.fst]
  cases leads : tr.dest <;> simp only [abortTransfer, leads, batch_register, updCtx_register, same]

theorem voided_still (still : tr.phase = .pendingSample ∨
    (f.register.reservations.find? fun v => some v.number == tr.sample) = none) : voided e b tr f = f := by
  simp only [voided]
  split
  · next moving =>
    simp only [writeVoid, still.resolve_left (by rw [moving]; decide)]
  · rfl

/-- R201: the VOID record of a reservation, as it is sealed. -/
def voidRecord (e : Env) (m : Retained) (v : Reservation) : SampleRecord :=
  sealRecord m { sampleOf e .void v.batch v.unit v.mass v.massStatus v.moisture v.moistureStatus with voided := some v.number }

theorem voided_writes {v : Reservation} (moving : tr.phase = .inTransit)
    (stands : (f.register.reservations.find? fun v => some v.number == tr.sample) = some v) :
    (voided e b tr f).register = { f.register with
        retained := { f.register.retained with
          records := f.register.retained.records ++ [voidRecord e f.register.retained v]
          next := f.register.retained.next + 1
          valid := true }
        reservations := f.register.reservations.filter fun w => w.number != v.number } ∧
      (voided e b tr f).batches = upd f.batches b fun y =>
        y.map fun y => y.sampled f.register.retained.next v.massStatus v.moistureStatus := by
  rw [voided, if_pos moving]
  simp only [writeVoid, stands]
  exact ⟨rfl, rfl⟩

/-- R103: nothing waits once the only transfer that may have waited is given up. -/
theorem abortTransfer_idle (others : ∀ c : Fin 20, c ≠ b → waitingTransfer f c = none) :
    (abortTransfer e b x tr f).1.NoneWaiting := by
  intro c
  have slots := abortTransfer_batches (e := e) (b := b) (x := x) (tr := tr) (f := f)
  by_cases here : c = b
  · subst here
    refine waitingTransfer_still fun y at' => ?_
    rw [slots, upd_get_self] at at'
    obtain ⟨z, -, rfl⟩ := Option.map_eq_some_iff.mp at'
    rfl
  · refine (waitingTransfer_congr_at ?_).trans (others c here)
    rw [slots, upd_get_ne _ _ (Ne.symm here)]
    exact voided_batch_other here

end Transfers

section Statements

variable {s : State} {r : Req} {b : Fin 20} {x : Batch} {tr : Transfer}

theorem findBatch_arrived {t : State} (arrived : s.Arrived t) (id : Nat) : t.floor.findBatch id = s.floor.findBatch id := by
  rw [arrived.floor]
  rfl

theorem batches_arrived {t : State} (arrived : s.Arrived t) : t.floor.batches = s.floor.batches := by rw [arrived.floor]

end Statements

/-- Settles O32: a transfer that is done, and one that cannot be. -/
theorem transferDoneMovesBatch : Obligations.TransferDoneMovesBatch := by
  intro r s b x tr h found at' moving
  have served (e : Env) (f : Floor) (same : f.findBatch (Req.lower r) = some b) (holds : f.batches[b] = some x) :=
    serveTransferDone_served (e := e) (reply := replyTo e .transferDone r) same holds moving
  refine ⟨fun pending => ?_, fun transit hold => ?_, fun transit free apart none => ?_⟩
  · refine exec_ready_told h fun t arrived => congrArg (fun f => { t with floor := f }) ?_
    refine (served t.env t.floor ((findBatch_arrived arrived _).trans found)
      (by rw [batches_arrived arrived]; exact at')).trans (if_pos ?_)
    rw [pending]
    decide
  · refine exec_ready_told h fun t arrived => congrArg (fun f => { t with floor := f }) ?_
    refine (served t.env t.floor ((findBatch_arrived arrived _).trans found)
      (by rw [batches_arrived arrived]; exact at')).trans ((if_neg (not_not.mpr transit)).trans (if_pos hold))
  · obtain ⟨t, q, runs, on, told⟩ := exec_ready_works h (by decide)
    have works : floorWork .transferDone r s.env (s.floor.withQueue q) = replyTo s.env .transferDone r .ok (Req.lower r)
        (completeTransfer s.env b x tr (s.floor.withQueue q)) := by
      refine (served s.env (s.floor.withQueue q) found at').trans ((if_neg (not_not.mpr transit)).trans
        ((if_neg (by simp [free])).trans (registerChanged_idle fun c => ?_)))
      by_cases here : c = b
      · subst here
        refine waitingTransfer_still fun y slot => ?_
        rw [(replyTo_frame ..).2.2.2.2.2.2.1, completeTransfer_batches, upd_get_self] at slot
        obtain ⟨u, -, mapped⟩ := Option.bind_eq_some_iff.mp slot
        obtain ⟨z, -, rfl⟩ := Option.map_eq_some_iff.mp mapped
        rfl
      · refine (waitingTransfer_congr_at ?_).trans (none c)
        rw [(replyTo_frame ..).2.2.2.2.2.2.1, completeTransfer_batches, upd_get_ne _ _ (Ne.symm here)]
        rfl
    rw [works] at told
    have ctx (w : PlantUnit) := (told.ctx w).trans (completeTransfer_ctx (e := s.env) (b := b) (f := s.floor.withQueue q) w apart)
    have batches := told.batches.trans ((replyTo_frame ..).2.2.2.2.2.2.1.trans completeTransfer_batches)
    refine ⟨t, runs, on, ?_, fun u dest => ⟨?_, ?_⟩, fun store => ?_, fun w notSource notDest => ?_, fun c other => ?_, ?_⟩
    · rw [ctx, if_neg apart, if_pos rfl]
    · rw [ctx, if_pos dest.symm]
      rfl
    · rw [batches, upd_get_self, dest]
      simp only [withQueue_batches]
      rw [at']
      rfl
    · rw [batches, upd_get_self, store]
      rfl
    · rw [ctx, if_neg notDest, if_neg notSource]
      rfl
    · rw [batches, upd_get_ne _ _ (Ne.symm other)]
      rfl
    · exact told.register.trans completeTransfer_register

/-- Settles O33: a transfer that is given up, with and without a standing reservation. -/
theorem transferAbortReturnsSource : Obligations.TransferAbortReturnsSource := by
  intro r s b x tr h found at' moving apart others
  obtain ⟨t, q, runs, on, told⟩ := exec_ready_works h (by decide)
  have works : floorWork .transferAbort r s.env (s.floor.withQueue q) =
      replyTo s.env .transferAbort r .ok (abortTransfer s.env b x tr (s.floor.withQueue q)).2
        (abortTransfer s.env b x tr (s.floor.withQueue q)).1 := by
    refine (serveTransferAbort_served (f := s.floor.withQueue q) found at' moving).trans ?_
    dsimp only
    split
    · exact registerChanged_idle (noneWaiting_congr (replyTo_frame ..).2.2.2.2.2.2.1 (abortTransfer_idle others))
    · rfl
  rw [works] at told
  have ctx (w : PlantUnit) := (told.ctx w).trans (abortTransfer_ctx (e := s.env) (b := b) (f := s.floor.withQueue q) w apart)
  have batches := told.batches.trans ((replyTo_frame ..).2.2.2.2.2.2.1.trans abortTransfer_batches)
  have register := told.register.trans ((replyTo_frame ..).2.2.2.2.2.2.2.1.trans abortTransfer_register)
  have still (quiet : tr.phase = .pendingSample ∨
      (s.floor.register.reservations.find? fun v => some v.number == tr.sample) = none) :
      t.floor.register = s.floor.register ∧ t.floor.batches[b] = some { x with transfer := none, inTransit := false } := by
    have same := voided_still (e := s.env) (b := b) (f := s.floor.withQueue q) quiet
    refine ⟨register.trans (by rw [same]; rfl), ?_⟩
    rw [batches, upd_get_self, same, withQueue_batches, at']
    rfl
  refine ⟨t, runs, on, ?_, fun u dest => ?_, fun w notSource notDest => ?_, fun c other => ?_, fun pending => still (.inl pending),
    fun _ none => still (.inr none), fun v transit stands => ⟨?_, ?_⟩⟩
  · rw [ctx, if_neg apart, if_pos rfl]
    rfl
  · rw [ctx, if_pos dest.symm]
    rfl
  · rw [ctx, if_neg notDest, if_neg notSource]
    rfl
  · rw [batches, upd_get_ne _ _ (Ne.symm other)]
    exact voided_batch_other other
  · have written := (voided_writes (e := s.env) (b := b) (f := s.floor.withQueue q) transit stands).2
    rw [batches, upd_get_self, written, upd_get_self]
    simp only [withQueue_batches]
    rw [at']
    rfl
  · have written := (voided_writes (e := s.env) (b := b) (f := s.floor.withQueue q) transit stands).1
    refine ⟨voidRecord s.env s.floor.register.retained v, register.trans written, rfl, rfl, rfl, rfl, rfl, rfl, rfl, rfl,
      rfl, sealRecord_check _ _⟩

end Sys2Proof.Machine

/-! SUPPORT. The start of a transfer, its sample and its waits (R101 to R105, R108, R200): O31, O34. -/

namespace Sys2Proof.Machine

theorem set_get {α : Type} {n : Nat} (v : Vector α n) (i : Fin n) (a : α) : (v.set i a)[i] = a :=
  upd_get_self v i fun _ => a

theorem set_get_ne {α : Type} {n : Nat} (v : Vector α n) {i j : Fin n} (a : α) (other : i ≠ j) : (v.set i a)[j] = v[j] :=
  upd_get_ne v (fun _ => a) other

theorem set_same {α : Type} {n : Nat} {v : Vector α n} {i : Fin n} {a : α} (at' : v[i] = a) : v = v.set i a := by
  subst at'
  exact (upd_id v i).symm

section Attempts

variable {e : Env} {f : Floor} {b : Fin 20} {x : Batch} {tr : Transfer} {told : Bool}

theorem waitingTransfer_some (at' : f.batches[b] = some x) (moving : x.transfer = some tr) (pending : tr.phase = .pendingSample) :
    waitingTransfer f b = some (x, tr) := by
  simp only [waitingTransfer, at', moving, pending, if_true]

/-- R198: a record and a reservation can be written. -/
def Register.takes (r : Register) : Prop := r.state = .ready ∧ r.room 2 = true

/-- R105: both votes of the source agree. -/
def votesAgree (e : Env) (u : PlantUnit) : Prop :=
  VoteStatus.agreed (unitVotes e u).1.status = true ∧ VoteStatus.agreed (unitVotes e u).2.status = true

theorem unverified_iff (e : Env) (u : PlantUnit) :
    unverifiedBy (unitVotes e u).1.status (unitVotes e u).2.status = false ↔ votesAgree e u := by
  simp [unverifiedBy, votesAgree]

/-- R102, R198: without room, or without a READY register, an attempt does nothing. -/
theorem attemptOnce_waits (shut : ¬f.register.takes) : attemptOnce e b told f = f := by
  simp only [attemptOnce]
  split
  · rfl
  · exact if_neg shut

theorem attemptOnce_takes (waits : waitingTransfer f b = some (x, tr)) (open' : f.register.takes)
    (given : tr.waitExpired = true ∨ votesAgree e x.location) :
    attemptOnce e b told f = writeTransfer e b x (unitVotes e x.location) told f := by
  simp only [attemptOnce, waits]
  refine (if_pos open').trans (if_pos (given.imp_right fun agree => ?_))
  rw [(unverified_iff ..).mpr agree]
  rfl

/-- R104: without agreement the vote wait begins. -/
theorem attemptOnce_asks (waits : waitingTransfer f b = some (x, tr)) (open' : f.register.takes)
    (unexpired : tr.waitExpired = false) (differ : ¬votesAgree e x.location) (none : tr.voteWait = none) :
    attemptOnce e b told f = f.transfer b fun t => { t with voteWait := some e.second } := by
  simp only [attemptOnce, waits]
  refine (if_pos open').trans ((if_neg ?_).trans (if_pos none))
  rintro (expired | agree)
  · exact Bool.false_ne_true (unexpired.symm.trans expired)
  · exact differ ((unverified_iff ..).mp (by simpa using agree))

/-! ### The sample of a transfer -/

/-- R200: the record of a transfer's sample, as it is sealed. -/
def transferRecord (e : Env) (f : Floor) (x : Batch) : SampleRecord :=
  sealRecord f.register.retained
    { sampleOf e (transferKind x.location) x.id x.location.index (unitVotes e x.location).1.figure
        (unitVotes e x.location).1.status (unitVotes e x.location).2.figure (unitVotes e x.location).2.status with
      estimate := (kilnFigures f x.location).1, peat := (kilnFigures f x.location).2 }

def transferReservation (e : Env) (f : Floor) (x : Batch) : Reservation :=
  ⟨f.register.retained.next, x.id, x.location.index, (unitVotes e x.location).1.figure, (unitVotes e x.location).1.status,
    (unitVotes e x.location).2.figure, (unitVotes e x.location).2.status⟩

/-- R105: a batch record once the sample of its transfer is taken. -/
def Batch.moved (e : Env) (x : Batch) (n : Nat) (y : Batch) : Batch :=
  { (y.withFigures (unitVotes e x.location).1.value (unitVotes e x.location).2.value).sampled n
      (unitVotes e x.location).1.status (unitVotes e x.location).2.status with
    inTransit := true, transfer := y.transfer.map fun t => { t with phase := .inTransit, sample := some n } }

/-- What the writing of a transfer's sample leaves. -/
theorem writeTransfer_floor (e : Env) (b : Fin 20) (x : Batch) (told : Bool) (f : Floor) :
    writeTransfer e b x (unitVotes e x.location) told f = { f with
      queue := (writeTransfer e b x (unitVotes e x.location) told f).queue
      eventSeq := (writeTransfer e b x (unitVotes e x.location) told f).eventSeq
      batches := upd f.batches b fun y => y.map (Batch.moved e x f.register.retained.next)
      register := { f.register with
        retained := { f.register.retained with
          records := f.register.retained.records ++ [transferRecord e f x]
          next := f.register.retained.next + 1
          valid := true }
        reservations := f.register.reservations ++ [transferReservation e f x] } } := by
  refine Floor.eq_of_fields rfl rfl ?_ ?_ ?_ ?_ ?_ ?_ ?_ ?_ ?_
  all_goals
    simp only [writeTransfer, reportRegister_frame]
    split <;> split <;> simp only [raiseEvent_frame, batch_vessels, batch_channels, batch_boxes, batch_arbiter, batch_kilns,
      batch_batches, batch_register, batch_acceptCount, batch_freeCount] <;> rfl

theorem transfer_ctx (w : PlantUnit) (f : Floor) (b : Fin 20) (g : Transfer → Transfer) : (f.transfer b g).ctx w = f.ctx w :=
  batch_ctx ..

/-- A batch record with another transfer record. -/
def Batch.under (x : Batch) (t : Transfer) : Batch := { x with transfer := some t }

theorem transfer_slot (at' : f.batches[b] = some x) (moving : x.transfer = some tr) (g : Transfer → Transfer) :
    (f.transfer b g).batches = f.batches.set b (some (x.under (g tr))) := by
  rw [Floor.transfer, batch_batches, upd_eq_set, at', Option.map_some, moving]
  rfl


theorem waitingTransfer_inv (waits : waitingTransfer f b = some (x, tr)) :
    f.batches[b] = some x ∧ x.transfer = some tr ∧ tr.phase = .pendingSample := by
  simp only [waitingTransfer] at waits
  split at waits
  · next y at' =>
    split at waits
    · next t moving =>
      split at waits
      · next pending =>
        cases waits
        exact ⟨at', moving, pending⟩
      · cases waits
    · cases waits
  · cases waits

/-- R103: a slot that takes its sample waits no more, and no other slot has changed. -/
theorem writeTransfer_idle (others : ∀ c : Fin 20, c ≠ b → waitingTransfer f c = none) :
    (writeTransfer e b x (unitVotes e x.location) told f).NoneWaiting := by
  intro c
  have slots : (writeTransfer e b x (unitVotes e x.location) told f).batches =
      upd f.batches b fun y => y.map (Batch.moved e x f.register.retained.next) := by rw [writeTransfer_floor]
  by_cases here : c = b
  · subst here
    refine waitingTransfer_eq_none.mpr fun y t at' moving => ?_
    rw [slots, upd_get_self] at at'
    obtain ⟨z, -, rfl⟩ := Option.map_eq_some_iff.mp at'
    obtain ⟨u, -, rfl⟩ := Option.map_eq_some_iff.mp moving
    exact nofun
  · refine (waitingTransfer_congr_at ?_).trans (others c here)
    rw [slots, upd_get_ne _ _ (Ne.symm here)]

theorem voteWaitDue_idle (none : waitingTransfer f b = none) : voteWaitDue e f b = false := by
  simp only [voteWaitDue, none]

theorem voteWaitDue_early (waits : waitingTransfer f b = some (x, tr)) (asked : tr.voteWait = some e.second)
    (wait : 0 < e.bank.unsigned 0 0 14) : voteWaitDue e f b = false := by
  simp only [voteWaitDue, waits, asked]
  simp
  omega

theorem expireWait_idle (early : voteWaitDue e f b = false) : expireWait e b f = f := by
  rw [expireWait, if_neg (by rw [early]; exact Bool.false_ne_true)]

theorem noticeIfWritten_same {op : Floor → Floor} (same : (op f).register.retained.next = f.register.retained.next) :
    noticeIfWritten e op f = op f := if_pos same

theorem noticeIfWritten_idle {op : Floor → Floor} (none : (op f).NoneWaiting) : noticeIfWritten e op f = op f := by
  simp only [noticeIfWritten]
  split
  · rfl
  · exact registerChanged_idle none

theorem voteWaitExpiry_idle (early : voteWaitDue e f b = false) : voteWaitExpiry e b f = f := by
  have idle := expireWait_idle early
  rw [voteWaitExpiry, noticeIfWritten_same (by rw [idle]), idle]

/-! ### The start of a transfer -/

variable {dest : Option PlantUnit} {reply : Status → Int → Floor → Floor} {id : Nat}

/-- R101: the transfer record of an accepted TRANSFER. -/
def newTransfer (e : Env) (f : Floor) (dest : Option PlantUnit) : Transfer :=
  { dest := dest, phase := .pendingSample, startTime := e.time, startUnset := e.timeUnset, startSecond := e.second,
    voteWait := none, waitExpired := false, sample := none, overdue := false, order := f.acceptCount }

theorem acceptTransfer_batches (at' : f.batches[b] = some x) :
    (acceptTransfer e b x dest f).batches = f.batches.set b (some (x.under (newTransfer e f dest))) := by
  cases dest with
  | none => simp [acceptTransfer, upd_eq_set, show f.batches[(b : Nat)] = some x from at']; rfl
  | some u => simp [acceptTransfer, upd_eq_set, show f.batches[(b : Nat)] = some x from at']; rfl

theorem acceptTransfer_same : (acceptTransfer e b x dest f).register = f.register ∧
    (acceptTransfer e b x dest f).arbiter = f.arbiter := by
  cases dest <;> simp [acceptTransfer]

/-- R101: the units of an accepted transfer. -/
theorem acceptTransfer_ctx (w : PlantUnit) (apart : some x.location ≠ dest) :
    (acceptTransfer e b x dest f).ctx w =
      if some w = dest then { f.ctx w with state := .receiving }
      else if w = x.location then { f.ctx w with state := .discharging } else f.ctx w := by
  have source (w : PlantUnit) : (f.updCtx x.location fun c => { c with state := .discharging }).ctx w =
      if w = x.location then { f.ctx w with state := .discharging } else f.ctx w := by
    rw [updCtx_ctx]
    split
    · next here => rw [here]
    · rfl
  cases leads : dest with
  | none => exact (source w).trans (if_neg (by simp)).symm
  | some u =>
    have received : (acceptTransfer e b x (some u) f).ctx w =
        ((f.updCtx x.location fun c => { c with state := .discharging }).updCtx u fun c => { c with state := .receiving }).ctx w := rfl
    have other : u ≠ x.location := fun same => apart (by rw [leads, same])
    rw [received, updCtx_ctx, source, source, if_neg other]
    simp only [Option.some.injEq]
    split
    · next here => rw [here]
    · rfl


theorem transferSample_at {y : Batch} (at' : f.batches[b] = some y) (moving : y.transfer = some tr) :
    transferSample f b = tr.sample := by
  simp only [transferSample, at', moving]

/-- What the first attempt of an accepted transfer gives, and whether its sample is taken. -/
theorem transferBegins_waits {g : Floor} (attempted : attemptOnce e b false f = g) (none : transferSample g b = none)
    (early : voteWaitDue e (reply .wait id g) b = false) : transferBegins e b id reply f = reply .wait id g := by
  simp only [transferBegins, attempted, none]
  exact voteWaitExpiry_idle early

theorem transferBegins_takes {g : Floor} {n : Nat} (attempted : attemptOnce e b false f = g)
    (taken : transferSample g b = some n) (idle : (reply .ok n g).NoneWaiting) :
    transferBegins e b id reply f = reply .ok n g := by
  simp only [transferBegins, attempted, taken]
  exact registerChanged_idle idle

/-- R38, R39: a vote that agrees has a value. -/
theorem voteValues_agreed {tol : Int} {l : List Int} (agrees : VoteStatus.agreed (voteValues tol l).status = true) :
    (voteValues tol l).value.isSome = true := by
  unfold voteValues voteThree at *
  (repeat' split) <;> simp_all [VoteStatus.agreed]

theorem vote_figure {e : Env} {g : Nat} (agrees : VoteStatus.agreed (e.vote g).status = true) : some (e.vote g).figure = (e.vote g).value := by
  obtain ⟨i, value⟩ := Option.isSome_iff_exists.mp (voteValues_agreed agrees)
  have value : (e.vote g).value = some i := value
  rw [figure_eq, value]
  rfl

/-- What the first attempt of an accepted transfer `tr` of batch `x` leaves of the floor `f` on which it was accepted. -/
structure Floor.Attempted (e : Env) (b : Fin 20) (x : Batch) (tr : Transfer) (f g : Floor) : Prop where
  ctx : ∀ w, g.ctx w = f.ctx w
  arbiter : g.arbiter = f.arbiter
  slots : ∃ y, g.batches = f.batches.set b y
  slot : ∃ y u, g.batches[b] = some y ∧ y.transfer = some u ∧ u.dest = tr.dest ∧ u.startTime = tr.startTime ∧
    u.startSecond = tr.startSecond ∧ u.overdue = tr.overdue ∧ y.id = x.id ∧ y.location = x.location ∧
    (¬f.register.takes → g.register = f.register ∧ u.phase = .pendingSample ∧ u.voteWait = none ∧ y.inTransit = x.inTransit) ∧
    (f.register.takes → ¬votesAgree e x.location → 0 < e.bank.unsigned 0 0 14 →
      g.register = f.register ∧ u.phase = .pendingSample ∧ u.voteWait = some e.second ∧ y.inTransit = x.inTransit) ∧
    (f.register.takes → votesAgree e x.location → u.phase = .inTransit ∧ u.sample = some f.register.retained.next ∧
      y.inTransit = true ∧ g.register = { f.register with
        retained := { f.register.retained with
          records := f.register.retained.records ++ [transferRecord e f x]
          next := f.register.retained.next + 1
          valid := true }
        reservations := f.register.reservations ++ [transferReservation e f x] })

theorem moved_same (e : Env) (x : Batch) (n : Nat) (y : Batch) :
    (Batch.moved e x n y).id = y.id ∧ (Batch.moved e x n y).location = y.location := by
  simp only [Batch.moved, Batch.sampled, Batch.withFigures]
  split <;> exact ⟨rfl, by simp [*]⟩

/-- The slot of a transfer whose sample has been taken. -/
theorem writeTransfer_slot (at' : f.batches[b] = some x) :
    (writeTransfer e b x (unitVotes e x.location) told f).batches =
      f.batches.set b (some (Batch.moved e x f.register.retained.next x)) := by
  rw [writeTransfer_floor]
  dsimp only
  rw [upd_eq_set, at']
  rfl

theorem writeTransfer_ctx (w : PlantUnit) : (writeTransfer e b x (unitVotes e x.location) told f).ctx w = f.ctx w := by
  rw [writeTransfer_floor]
  cases w <;> rfl

/-- What the attempt that takes the sample at once, or at an expired wait, leaves. -/
theorem attempted_taken {g h : Floor} {y : Batch} {u : Transfer} (at' : g.batches[b] = some y) (moving : y.transfer = some u)
    (same : u = { tr with voteWait := u.voteWait, waitExpired := u.waitExpired }) (batch : y = x.under u)
    (slots : ∃ z, g.batches = f.batches.set b z) (register : g.register = f.register) (ctx : ∀ w, g.ctx w = f.ctx w)
    (arbiter : g.arbiter = f.arbiter) (kilns : g.kilns = f.kilns)
    (open' : f.register.takes) (late : ¬(¬votesAgree e x.location ∧ 0 < e.bank.unsigned 0 0 14))
    (queue : ∃ q, h = (writeTransfer e b y (unitVotes e y.location) told g).withQueue q) : f.Attempted e b x tr h := by
  obtain ⟨q, rfl⟩ := queue
  obtain ⟨z, slots⟩ := slots
  have written := writeTransfer_slot (e := e) (told := told) at'
  have location : y.location = x.location := by rw [batch]; rfl
  obtain ⟨id, place⟩ := moved_same e y g.register.retained.next y
  have record : transferRecord e g y = transferRecord e f x := by
    rw [batch]
    simp only [transferRecord, kilnFigures, register, kilns, Batch.under]
  have reservation : transferReservation e g y = transferReservation e f x := by
    rw [batch]
    simp only [transferReservation, register, Batch.under]
  refine ⟨fun w => ?_, ?_, ⟨some (Batch.moved e y g.register.retained.next y), ?_⟩,
    ⟨Batch.moved e y g.register.retained.next y, { u with phase := .inTransit, sample := some g.register.retained.next },
      ?_, ?_, ?_, ?_, ?_, ?_, ?_, place.trans location, fun shut => absurd open' shut, fun _ differ wait => absurd ⟨differ, wait⟩ late,
      fun _ _ => ⟨rfl, by rw [register], rfl, ?_⟩⟩⟩
  · exact (ctx_withQueue ..).trans ((writeTransfer_ctx w).trans (ctx w))
  · rw [withQueue_arbiter, writeTransfer_floor]
    exact arbiter
  · rw [withQueue_batches, written, slots]
    simp
  · rw [withQueue_batches, written, set_get]
  · simp only [Batch.moved, Batch.sampled, moving, Option.map_some]
  · rw [same]
  · rw [same]
  · rw [same]
  · rw [same]
  · rw [id, batch]
    rfl
  · rw [withQueue_register, writeTransfer_floor]
    dsimp only
    rw [record, reservation, register]

/-- R104: a vote wait that is due is taken with the sample, whatever the votes say. -/
theorem expireWait_takes (waits : waitingTransfer f b = some (x, tr)) (due : voteWaitDue e f b = true)
    (open' : f.register.takes) :
    expireWait e b f = writeTransfer e b (x.under { tr with waitExpired := true }) (unitVotes e x.location) true
      (f.transfer b fun t => { t with waitExpired := true }) := by
  obtain ⟨at', moving, pending⟩ := waitingTransfer_inv waits
  have late : waitingTransfer (f.transfer b fun t => { t with waitExpired := true }) b =
      some (x.under { tr with waitExpired := true }, { tr with waitExpired := true }) :=
    waitingTransfer_some (by rw [transfer_slot at' moving, set_get]) rfl pending
  exact (if_pos due).trans (attemptOnce_takes late open' (.inl rfl))

/-- What is left of the floor `f` by an expiry in the floor `g` that an attempt at `f` has left. -/
theorem voteWaitExpiry_attempted {g : Floor} {u : Transfer} (waits : waitingTransfer g b = some (x.under u, u))
    (same : u = { tr with voteWait := u.voteWait }) (due : voteWaitDue e g b = true) (open' : f.register.takes)
    (late : ¬(¬votesAgree e x.location ∧ 0 < e.bank.unsigned 0 0 14))
    (others : ∀ c : Fin 20, c ≠ b → waitingTransfer f c = none) (slots : g.batches = f.batches.set b (some (x.under u)))
    (register : g.register = f.register) (ctx : ∀ w, g.ctx w = f.ctx w) (arbiter : g.arbiter = f.arbiter)
    (kilns : g.kilns = f.kilns) : f.Attempted e b x tr (voteWaitExpiry e b g) := by
  have open'' : g.register.takes := register ▸ open'
  have takes := expireWait_takes waits due open''
  have slot := transfer_slot (b := b) (f := g) (x := x.under u) (tr := u) (by rw [slots, set_get]) rfl
    fun t => { t with waitExpired := true }
  have idle : (expireWait e b g).NoneWaiting := by
    rw [takes]
    refine writeTransfer_idle fun c other => (waitingTransfer_congr_at ?_).trans (others c other)
    rw [slot, slots, set_get_ne _ _ (Ne.symm other), set_get_ne _ _ (Ne.symm other)]
  rw [voteWaitExpiry, noticeIfWritten_idle idle, takes]
  refine attempted_taken (y := x.under { u with waitExpired := true }) (by rw [slot, set_get]; rfl) rfl (by rw [same]) rfl
    ⟨some (x.under { u with waitExpired := true }), slot.trans ?_⟩ register (fun w => (transfer_ctx w ..).trans (ctx w)) arbiter
    kilns open' late ⟨_, rfl⟩
  rw [slots]
  simp
  rfl

/-- The first attempt of an accepted transfer, with the wait that it may begin and end. -/
theorem transferBegins_attempted (e : Env) (fn : Function) (r : Req) (at' : f.batches[b] = some (x.under tr))
    (pending : tr.phase = .pendingSample) (unexpired : tr.waitExpired = false) (unasked : tr.voteWait = none)
    (unsampled : tr.sample = none) (others : ∀ c : Fin 20, c ≠ b → waitingTransfer f c = none) :
    f.Attempted e b x tr (transferBegins e b id (replyTo e fn r) f) := by
  have waits : waitingTransfer f b = some (x.under tr, tr) := waitingTransfer_some at' rfl pending
  by_cases open' : f.register.takes
  · by_cases agree : votesAgree e x.location
    · have attempted := attemptOnce_takes (e := e) (told := false) waits open' (.inr agree)
      have begins : transferBegins e b id (replyTo e fn r) f = _ :=
        transferBegins_takes (n := f.register.retained.next) attempted
          (transferSample_at (f := writeTransfer e b (x.under tr) (unitVotes e (x.under tr).location) false f)
            (y := Batch.moved e (x.under tr) f.register.retained.next (x.under tr))
            (tr := { tr with phase := .inTransit, sample := some f.register.retained.next })
            (by rw [writeTransfer_slot at', set_get]) rfl)
          (noneWaiting_congr (replyTo_frame ..).2.2.2.2.2.2.1 (writeTransfer_idle others))
      rw [begins]
      exact attempted_taken at' rfl rfl rfl ⟨some (x.under tr), set_same at'⟩ rfl (fun _ => rfl) rfl rfl open'
        (fun h => h.1 agree) ⟨_, rfl⟩
    · have attempted := attemptOnce_asks (e := e) (told := false) waits open' unexpired agree unasked
      have slot : (f.transfer b fun t => { t with voteWait := some e.second }).batches =
          f.batches.set b (some (x.under { tr with voteWait := some e.second })) := transfer_slot at' rfl _
      have asked : (f.transfer b fun t => { t with voteWait := some e.second }).batches[b] =
          some (x.under { tr with voteWait := some e.second }) := by rw [slot, set_get]
      have sample := (transferSample_at asked rfl).trans unsampled
      have due (st : Status) (v : Int) := waitingTransfer_some
        (f := replyTo e fn r st v (f.transfer b fun t => { t with voteWait := some e.second })) asked rfl pending
      by_cases wait : 0 < e.bank.unsigned 0 0 14
      · rw [transferBegins_waits attempted sample (voteWaitDue_early (due _ _) rfl wait)]
        exact ⟨fun w => transfer_ctx w f b fun t => { t with voteWait := some e.second }, rfl, ⟨_, slot⟩, _, _, asked, rfl, rfl,
          rfl, rfl, rfl, rfl, rfl, fun h => absurd open' h, fun _ _ _ => ⟨rfl, pending, rfl, rfl⟩, fun _ h => absurd h agree⟩
      · have begins : transferBegins e b id (replyTo e fn r) f =
            voteWaitExpiry e b (replyTo e fn r .wait id (f.transfer b fun t => { t with voteWait := some e.second })) := by
          simp only [transferBegins, attempted, sample]
        rw [begins]
        refine voteWaitExpiry_attempted (due _ _) rfl ?_ open' (fun h => wait h.2) others slot rfl
          (fun w => transfer_ctx w f b fun t => { t with voteWait := some e.second }) rfl rfl
        simp only [voteWaitDue, due, unexpired]
        simp
        omega
  · have begins : transferBegins e b id (replyTo e fn r) f = replyTo e fn r .wait id f :=
      transferBegins_waits (attemptOnce_waits open') ((transferSample_at at' rfl).trans unsampled)
        (by simp only [voteWaitDue, waitingTransfer_some (f := replyTo e fn r .wait id f) at' rfl pending, unasked])
    rw [begins]
    exact ⟨fun _ => rfl, rfl, ⟨some (x.under tr), set_same at'⟩, x.under tr, tr, at', rfl, rfl, rfl, rfl, rfl, rfl, rfl,
      fun _ => ⟨rfl, pending, unasked, rfl⟩, fun h => absurd h open', fun h => absurd h open'⟩

/-! ### The tests of TRANSFER -/

theorem serveTransfer_unknown {qual : Byte} (absent : f.findBatch id = none) :
    serveTransfer e id qual reply f = reply .badArgument 0 f := by
  simp only [serveTransfer, absent]

theorem serveTransfer_tested {qual : Byte} (found : f.findBatch id = some b) (at' : f.batches[b] = some x) :
    serveTransfer e id qual reply f =
      let dest := unitOf qual.toNat
      if dest = none ∧ qual ≠ 255#8 then reply .badArgument 0 f
      else if x.transfer ≠ none then reply .busy 0 f
      else if x.exciseHold then reply .hold 0 f
      else if (f.ctx x.location).state ≠ .done ∨ !pathAllowed x.location dest then reply .refused 0 f
      else if !destinationReady e f dest then reply .refused 0 f
      else transferBegins e b id reply (acceptTransfer e b x dest f) := by
  simp only [serveTransfer, found, at', unitOfByte]
  rfl

/-- R101 test 4. -/
theorem pathAllowed_iff (source : PlantUnit) (dest : Option PlantUnit) :
    pathAllowed source dest = true ↔
      (∃ v n, source = .vessel v ∧ dest = some (.box n)) ∨ (∃ n k, source = .box n ∧ dest = some (.kiln k)) ∨
        (∃ k, source = .kiln k ∧ dest = none) := by
  rcases source with v | n | k <;> rcases dest with _ | w | w | w <;> simp [pathAllowed]

theorem pathAllowed_apart {source : PlantUnit} {dest : Option PlantUnit} (path : pathAllowed source dest = true) :
    some source ≠ dest := by
  obtain ⟨v, n, rfl, rfl⟩ | ⟨n, k, rfl, rfl⟩ | ⟨k, rfl, rfl⟩ := (pathAllowed_iff ..).mp path <;> simp

/-- R101 test 5. -/
theorem destinationReady_iff (dest : Option PlantUnit) :
    destinationReady e f dest = true ↔ ∀ u, dest = some u →
      (f.ctx u).state = .empty ∧ e.bank.inService u.index = true ∧ ∀ n, u = .box n → e.bank.boxBinding n 5 ≠ 0 := by
  rcases dest with _ | v | n | k <;> simp [destinationReady, and_assoc]

theorem destinationReady_arrived {s t : State} (arrived : s.Arrived t) (dest : Option PlantUnit) :
    destinationReady t.env t.floor dest = destinationReady s.env s.floor dest := by
  rw [arrived.env]
  cases dest with
  | none => rfl
  | some u => simp only [destinationReady, arrived.ctx]

end Attempts

/-- What an accepted transfer leaves in a state, whatever its first attempt gives. -/
structure State.Began (s t : State) (b : Fin 20) (x : Batch) (dest : Option PlantUnit) : Prop where
  source : t.floor.ctx x.location = { s.floor.ctx x.location with state := .discharging }
  target : ∀ u, dest = some u → t.floor.ctx u = { s.floor.ctx u with state := .receiving }
  others : ∀ w, w ≠ x.location → some w ≠ dest → t.floor.ctx w = s.floor.ctx w
  slots : ∀ c : Fin 20, c ≠ b → t.floor.batches[c] = s.floor.batches[c]
  arbiter : t.floor.arbiter = s.floor.arbiter

section Begins

variable {s t : State} {b : Fin 20} {x : Batch} {dest : Option PlantUnit} {q : Queue} {g h : Floor}

theorem began_of (at' : s.floor.batches[b] = some x) (apart : some x.location ≠ dest) (told : h.ToldOnly t.floor)
    (ctx : ∀ w, h.ctx w = (acceptTransfer s.env b x dest (s.floor.withQueue q)).ctx w)
    (slots : ∃ y, h.batches = (acceptTransfer s.env b x dest (s.floor.withQueue q)).batches.set b y)
    (arbiter : h.arbiter = (acceptTransfer s.env b x dest (s.floor.withQueue q)).arbiter) : s.Began t b x dest := by
  have units (w : PlantUnit) := (told.ctx w).trans ((ctx w).trans (acceptTransfer_ctx w apart))
  obtain ⟨y, slots⟩ := slots
  refine ⟨?_, fun u leads => ?_, fun w notSource notDest => ?_, fun c other => ?_, ?_⟩
  · rw [units, if_neg apart, if_pos rfl]
    rfl
  · rw [units, if_pos leads.symm]
    rfl
  · rw [units, if_neg notDest, if_neg notSource]
    rfl
  · rw [told.batches, slots, acceptTransfer_batches (f := s.floor.withQueue q) at', set_get_ne _ _ (Ne.symm other),
      set_get_ne _ _ (Ne.symm other)]
    rfl
  · exact told.arbiter.trans (arbiter.trans acceptTransfer_same.2)

end Begins

/-- Settles O31: the tests of TRANSFER, and what the first attempt of an accepted one gives. -/
theorem transferTakesSampleOrWaits : Obligations.TransferTakesSampleOrWaits := by
  refine ⟨fun r s h => ⟨fun unknown => ?_, fun b x found at' => ?_⟩,
    fun r s b x dest h found at' still free done leads store path receives none => ?_⟩
  · refine exec_ready_told h fun t arrived => congrArg (fun f => { t with floor := f }) ?_
    exact serveTransfer_unknown ((findBatch_arrived arrived _).trans unknown)
  · have tested (t : State) (arrived : s.Arrived t) :
        serveTransfer t.env (Req.lower r) r.qual (replyTo t.env .transfer r) t.floor =
          let dest := unitOf r.qual.toNat
          if dest = none ∧ r.qual ≠ 255#8 then replyTo t.env .transfer r .badArgument 0 t.floor
          else if x.transfer ≠ none then replyTo t.env .transfer r .busy 0 t.floor
          else if x.exciseHold then replyTo t.env .transfer r .hold 0 t.floor
          else if (s.floor.ctx x.location).state ≠ .done ∨ !pathAllowed x.location dest then
            replyTo t.env .transfer r .refused 0 t.floor
          else if !destinationReady s.env s.floor dest then replyTo t.env .transfer r .refused 0 t.floor
          else transferBegins t.env b (Req.lower r) (replyTo t.env .transfer r) (acceptTransfer t.env b x dest t.floor) := by
      rw [serveTransfer_tested (id := Req.lower r) ((findBatch_arrived arrived _).trans found) (by rw [batches_arrived arrived]; exact at'),
        arrived.ctx]
      dsimp only
      rw [destinationReady_arrived arrived]
    refine ⟨fun unnamed notStore => ?_, fun names => ⟨fun moving => ?_, fun still hold => ?_, fun still free =>
      ⟨fun unfit => ?_, fun done path full => ?_⟩⟩⟩
    all_goals refine exec_ready_told h fun t arrived => congrArg (fun f => { t with floor := f }) ((tested t arrived).trans ?_)
    · exact if_pos ⟨unnamed, notStore⟩
    all_goals refine (if_neg fun wrong => names.elim (fun h => h wrong.1) wrong.2).trans ?_
    · exact if_pos moving
    all_goals refine (if_neg (not_not.mpr still)).trans ?_
    · exact if_pos hold
    all_goals refine (if_neg (by simp [free])).trans ?_
    · refine if_pos (unfit.imp_right fun noPath => ?_)
      rw [Bool.not_eq_true', ← Bool.not_eq_true]
      exact fun path => noPath ((pathAllowed_iff ..).mp path)
    · refine (if_neg ?_).trans (if_pos ?_)
      · rintro (notDone | noPath)
        · exact notDone done
        · rw [(pathAllowed_iff ..).mpr path] at noPath
          cases noPath
      · rw [Bool.not_eq_true', ← Bool.not_eq_true]
        exact fun ready => full ((destinationReady_iff ..).mp ready)
  · obtain ⟨t, q, runs, served, told⟩ := exec_ready_works h (by decide)
    have apart := pathAllowed_apart path
    have begins : floorWork .transfer r s.env (s.floor.withQueue q) =
        transferBegins s.env b (Req.lower r) (replyTo s.env .transfer r)
          (acceptTransfer s.env b x dest (s.floor.withQueue q)) := by
      have ready : destinationReady s.env (s.floor.withQueue q) dest = true := by
        rw [← receives]
        cases dest <;> rfl
      subst leads
      refine (serveTransfer_tested (f := s.floor.withQueue q) found at').trans ?_
      refine (if_neg fun wrong => wrong.2 (store wrong.1)).trans ((if_neg (not_not.mpr still)).trans
        ((if_neg (by simp [free])).trans ((if_neg ?_).trans (if_neg (by rw [ready]; decide)))))
      rintro (notDone | noPath)
      · exact notDone done
      · rw [path] at noPath
        cases noPath
    have slot : (acceptTransfer s.env b x dest (s.floor.withQueue q)).batches =
        s.floor.batches.set b (some (x.under (newTransfer s.env s.floor dest))) :=
      acceptTransfer_batches (f := s.floor.withQueue q) at'
    obtain ⟨register, arbiter⟩ := acceptTransfer_same (e := s.env) (b := b) (x := x) (dest := dest) (f := s.floor.withQueue q)
    have attempted := transferBegins_attempted (x := x) (tr := newTransfer s.env s.floor dest) (id := Req.lower r)
      (f := acceptTransfer s.env b x dest (s.floor.withQueue q)) s.env .transfer r (by rw [slot, set_get]) rfl rfl rfl rfl
      fun c other => (waitingTransfer_congr_at (by rw [slot, set_get_ne _ _ (Ne.symm other)])).trans (none c)
    rw [← begins] at attempted
    have began : s.Began t b x dest := began_of (q := q) at' apart told attempted.ctx attempted.slots attempted.arbiter
    obtain ⟨y, u, at'', moving, target, time, second, overdue, id, location, waits, asks, takes⟩ := attempted.slot
    have next : (acceptTransfer s.env b x dest (s.floor.withQueue q)).register.retained.next =
        s.floor.register.retained.next := by rw [register]; rfl
    rw [register] at waits asks takes
    rw [← told.register] at waits asks takes
    rw [← told.batches] at at''
    refine ⟨t, runs, served, began.source, began.target, began.others, began.slots, began.arbiter, y, u, at'', moving, target, time,
      second, overdue, id, location, waits, fun ready differ wait => asks ready differ wait, fun ready mass moisture => ?_⟩
    obtain ⟨phase, sample, transit, written⟩ := takes ready ⟨mass, moisture⟩
    refine ⟨phase, sample, transit, ?_, by rw [written]; rfl, by rw [written]; exact ready.1, ?_⟩
    · rw [written]
      exact ⟨_, rfl, next, rfl, rfl, rfl, rfl, rfl, vote_figure mass, rfl, vote_figure moisture,
        (sealRecord_check _ _).trans (congrArg (fun g : Register => recordCheck (chainSeed g.retained) _) register)⟩
    · rw [written]
      exact ⟨_, rfl, next, rfl, rfl⟩

/-! ### The transfers that wait -/

section Waiting

variable {s t : State} {b : Fin 20} {x : Batch} {tr : Transfer} {i : Instr} {e : Env} {f g : Floor}

/-- A step that follows from an arrival and that is work on the floor. -/
theorem exec_now_works (awake : s.inReset = false) {op : Env → Floor → Floor}
    (runs : exec i s = .next (takeNow (fun u => u.onFloor op) s)) :
    ∃ t, exec i s = .next t ∧ s.TookNow t ∧ (op s.env s.floor).ToldOnly t.floor := by
  refine ⟨_, runs.trans (congrArg Host.Outcome.next (takeNow_taken _ s awake)), finish_onFloor_took s op, ?_⟩
  rw [finish_onFloor_floor]
  exact told_only _ _ _ _ (op s.env s.floor).queue

/-- An attempt whose slot has no wait to end. -/
theorem transferAttempt_once (attempted : attemptOnce e b true f = g) (early : voteWaitDue e g b = false)
    (quiet : g.register.retained.next = f.register.retained.next ∨ g.NoneWaiting) : transferAttempt e b f = g := by
  have slot : attemptSlot e f b = g := by rw [attemptSlot, attempted, expireWait_idle early]
  rw [transferAttempt]
  obtain same | none := quiet
  · rw [noticeIfWritten_same (by rw [slot]; exact same), slot]
  · rw [noticeIfWritten_idle (by rw [slot]; exact none), slot]

/-- R105, R200: what the sample of a waiting transfer leaves. -/
theorem sampled_of {y : Batch} {u : Transfer} {told : Bool} (at' : g.batches[b] = some y) (moving : y.transfer = some u)
    (register : g.register = s.floor.register) (ctx : ∀ w, g.ctx w = s.floor.ctx w)
    (only : (writeTransfer e b y (unitVotes e y.location) told g).ToldOnly t.floor) :
    t.floor.register.retained.next = s.floor.register.retained.next + 1 ∧
      t.floor.register.retained.records.length = s.floor.register.retained.records.length + 1 ∧
      t.floor.register.reservations.length = s.floor.register.reservations.length + 1 ∧
      (∃ z v, t.floor.batches[b] = some z ∧ z.transfer = some v ∧ v.phase = .inTransit ∧
        v.sample = some s.floor.register.retained.next ∧ z.inTransit = true) ∧
      (∀ w, t.floor.ctx w = s.floor.ctx w) := by
  have written : t.floor.register = _ := only.register.trans (congrArg Floor.register (writeTransfer_floor e b y told g))
  have slots := only.batches.trans (writeTransfer_slot at')
  dsimp only at written
  rw [register] at written slots
  refine ⟨by rw [written], by rw [written]; simp, by rw [written]; simp, ?_, fun w =>
    (only.ctx w).trans ((writeTransfer_ctx w).trans (ctx w))⟩
  refine ⟨_, { u with phase := .inTransit, sample := some s.floor.register.retained.next }, by rw [slots, set_get], ?_, rfl, rfl, rfl⟩
  simp only [Batch.moved, Batch.sampled, moving, Option.map_some]

/-- R223: a transfer is overdue in the slot of some batch. -/
theorem anyOverdue_iff : f.anyOverdue = true ↔
    ∃ (c : Fin 20) (y : Batch) (u : Transfer), f.batches[c] = some y ∧ y.transfer = some u ∧ u.overdue = true := by
  rw [Floor.anyOverdue, List.any_eq_true]
  constructor
  · rintro ⟨slot, mem, overdue⟩
    obtain ⟨c, bound, rfl⟩ := Vector.mem_iff_getElem.mp (Vector.mem_toList_iff.mp mem)
    split at overdue
    · next y at' =>
      split at overdue
      · next u moving => exact ⟨⟨c, bound⟩, y, u, at', moving, overdue⟩
      · cases overdue
    · cases overdue
  · rintro ⟨c, y, u, at', moving, overdue⟩
    refine ⟨f.batches[c], Vector.mem_toList_iff.mpr (Vector.getElem_mem c.isLt), ?_⟩
    simp only [at', moving, overdue]

theorem anyOverdue_set (at' : f.batches[b] = some x) (moving : x.transfer = some tr) {u : Transfer}
    (same : u.overdue = tr.overdue) :
    ({ f with batches := f.batches.set b (some (x.under u)) } : Floor).anyOverdue = f.anyOverdue := by
  refine Bool.eq_iff_iff.mpr (anyOverdue_iff.trans (Iff.trans (exists_congr fun c => ?_) anyOverdue_iff.symm))
  by_cases here : b = c
  · subst here
    dsimp only
    rw [set_get, at']
    constructor
    · rintro ⟨y, v, is, own, overdue⟩
      obtain rfl := Option.some.inj is
      obtain rfl := Option.some.inj own
      exact ⟨x, tr, rfl, moving, same.symm.trans overdue⟩
    · rintro ⟨y, v, is, own, overdue⟩
      obtain rfl := Option.some.inj is
      obtain rfl := Option.some.inj (moving.symm.trans own)
      exact ⟨x.under u, u, rfl, rfl, same.trans overdue⟩
  · dsimp only
    rw [set_get_ne _ _ here]

/-- R108: a transfer that is overdue. -/
theorem transferOverdue_due (at' : f.batches[b] = some x) (due : overdueDue e f b = true) :
    transferOverdue e b f = raiseEvent e 13 x.location.index x.id (f.transfer b fun t => { t with overdue := true }) := by
  rw [transferOverdue, if_pos due]
  simp only [at']

end Waiting

/-- Settles O34: an attempt by its votes, the expiry of a wait, and a transfer that is overdue. -/
theorem waitingTransferProceeds : Obligations.WaitingTransferProceeds := by
  intro s b x tr awake at' moving
  refine ⟨fun pending others => ⟨fun lines shut early => ?_, fun ready agree => ?_,
    fun lines ready differ unexpired unasked wait => ?_, fun due ready expires => ?_⟩, fun due overdue => ?_⟩
  · have attempts : transferAttempt s.env b s.floor = s.floor :=
      transferAttempt_once (attemptOnce_waits shut) early (.inl rfl)
    have same : s.onFloor (fun e => transferAttempt e b) = s := by rw [State.onFloor, attempts]
    exact congrArg Host.Outcome.next
      ((takeNow_taken _ s awake).trans (by rw [same]; exact finish_of_endInputs lines rfl))
  · obtain ⟨t, runs, took, only⟩ := exec_now_works awake (i := .transferAttempt b) (op := fun e => transferAttempt e b) rfl
    have idle := writeTransfer_idle (e := s.env) (x := x) (told := true) others
    rw [transferAttempt_once (attemptOnce_takes (waitingTransfer_some at' moving pending) ready (.inr agree))
      (voteWaitDue_idle (idle b)) (.inr idle)] at only
    exact ⟨t, runs, took, sampled_of at' moving rfl (fun _ => rfl) only⟩
  · have attempts : transferAttempt s.env b s.floor = s.floor.transfer b fun t => { t with voteWait := some s.second } := by
      have asked : (s.floor.transfer b fun t => { t with voteWait := some s.second }).batches[b] =
          some (x.under { tr with voteWait := some s.second }) := by rw [transfer_slot at' moving, set_get]
      exact transferAttempt_once (attemptOnce_asks (waitingTransfer_some at' moving pending) ready unexpired differ unasked)
        (voteWaitDue_early (waitingTransfer_some asked rfl pending) rfl wait) (.inl rfl)
    have same : s.onFloor (fun e => transferAttempt e b) = { s with floor := { s.floor with
        batches := s.floor.batches.set b (some (x.under { tr with voteWait := some s.second })) } } := by
      rw [State.onFloor, attempts, ← transfer_slot at' moving fun t => { t with voteWait := some s.second }]
      rfl
    refine congrArg Host.Outcome.next ((takeNow_taken _ s awake).trans ?_)
    rw [same]
    exact finish_of_endInputs lines (setBatches_endInputs s (anyOverdue_set at' moving rfl))
  · obtain ⟨t, runs, took, only⟩ := exec_due_works awake due (op := fun e => voteWaitExpiry e b) rfl
    have takes := expireWait_takes (waitingTransfer_some at' moving pending) expires ready
    have idle : (expireWait s.env b s.floor).NoneWaiting := by
      rw [takes]
      refine writeTransfer_idle fun c other => (waitingTransfer_congr_at ?_).trans (others c other)
      rw [transfer_slot at' moving, set_get_ne _ _ (Ne.symm other)]
    rw [voteWaitExpiry, noticeIfWritten_idle idle, takes] at only
    have slot : (s.floor.transfer b fun t => { t with waitExpired := true }).batches[b] =
        some (x.under { tr with waitExpired := true }) := by rw [transfer_slot at' moving, set_get]
    exact ⟨t, runs, took, sampled_of slot rfl rfl (fun w => transfer_ctx w _ _ _) only⟩
  · obtain ⟨t, runs, took, floor⟩ := exec_due_floor awake due (op := fun e => transferOverdue e b) rfl
    have raises := transferOverdue_due (e := s.env) at' overdue
    have slots := transfer_slot at' moving fun t => { t with overdue := true }
    have vessels : (transferOverdue s.env b s.floor).vessels = s.floor.vessels := by
      rw [raises, (raiseEvent_frame ..).1]
      rfl
    have kilns : (transferOverdue s.env b s.floor).kilns = s.floor.kilns := by
      rw [raises, (raiseEvent_frame ..).2.2.2.2.1]
      rfl
    rw [tellOwners_still _ _ _ vessels kilns, raises] at floor
    have batches : t.floor.batches = s.floor.batches.set b (some (x.under { tr with overdue := true })) := by
      rw [floor, (raiseEvent_frame ..).2.2.2.2.2.1]
      exact slots
    refine ⟨t, runs, took, ?_, ?_⟩
    · have frame := raiseEvent_frame s.env 13 x.location.index x.id (s.floor.transfer b fun t => { t with overdue := true })
      rw [← floor] at frame
      obtain ⟨vessels, channels, boxes, arbiter, kilns, -, register, accept, free⟩ := frame
      exact Floor.eq_of_fields rfl rfl vessels channels boxes arbiter kilns batches register accept free
    · refine alertLow_of took.2 (took.inReset.trans awake) ?_
      have any : t.floor.anyOverdue = true :=
        anyOverdue_iff.mpr ⟨b, x.under { tr with overdue := true }, { tr with overdue := true },
          by rw [batches, set_get], rfl, rfl⟩
      simp [alertConditions, any]

end Sys2Proof.Machine

/-! SUPPORT. The fans of the boxes and the arbiter after each operation (R152 to R166). -/

namespace Sys2Proof.Machine

/-- The record of box `b`. -/
def Floor.boxAt (f : Floor) (b : Fin 12) : Box := f.boxes[b]

section Fans

variable {e : Env} {b c : Fin 12} {f g h : Floor}

theorem boxAt_congr (boxes : g.boxes = f.boxes) : g.boxAt b = f.boxAt b := by
  rw [Floor.boxAt, boxes]
  rfl

theorem box_boxAt (op : Box → Box) : (f.box b op).boxAt c = if b = c then op (f.boxAt c) else f.boxAt c :=
  upd_get f.boxes b c op

/-! ### The fan of a box (R153) -/

/-- A box's record with another fan record. -/
def Box.blown (x : Box) (fan : Option Int) (pending : Bool) : Box := { x with fan := fan, fanPending := pending }

/-- From `f` to `g` no more of the boxes has changed than the fan record of box `b`. -/
def Floor.FanOf (f : Floor) (b : Fin 12) (g : Floor) : Prop :=
  ∃ fan pending, ∀ c, g.boxAt c = if b = c then (f.boxAt c).blown fan pending else f.boxAt c

theorem Floor.FanOf.refl (f : Floor) (b : Fin 12) : f.FanOf b f := by
  refine ⟨(f.boxAt b).fan, (f.boxAt b).fanPending, fun c => ?_⟩
  split
  · next here => subst here; rfl
  · rfl

theorem Floor.FanOf.trans (p : f.FanOf b g) (q : g.FanOf b h) : f.FanOf b h := by
  obtain ⟨fan, pending, first⟩ := p
  obtain ⟨fan', pending', second⟩ := q
  refine ⟨fan', pending', fun c => ?_⟩
  rw [second, first]
  split <;> rfl

theorem Floor.FanOf.same (p : f.FanOf b g) (boxes : h.boxes = g.boxes) : f.FanOf b h := by
  obtain ⟨fan, pending, only⟩ := p
  exact ⟨fan, pending, fun c => (boxAt_congr boxes).trans (only c)⟩

theorem Floor.FanOf.other (p : f.FanOf b g) (other : c ≠ b) : g.boxAt c = f.boxAt c := by
  obtain ⟨fan, pending, only⟩ := p
  rw [only, if_neg (Ne.symm other)]

theorem Floor.FanOf.box (p : f.FanOf b g) (c : Fin 12) :
    g.boxAt c = (f.boxAt c).blown (g.boxAt c).fan (g.boxAt c).fanPending := by
  obtain ⟨fan, pending, only⟩ := p
  rw [only]
  split <;> rfl

theorem box_fanOf {op : Box → Box} (fan : ∃ v p, op (f.boxAt b) = (f.boxAt b).blown v p) : f.FanOf b (f.box b op) := by
  obtain ⟨v, p, is⟩ := fan
  refine ⟨v, p, fun c => (box_boxAt op).trans ?_⟩
  split
  · next here => subst here; exact is
  · rfl

theorem offerFan_fanOf (e : Env) (b : Fin 12) (f : Floor) : f.FanOf b (offerFan e b f) := by
  simp only [offerFan]
  split
  · exact (Floor.FanOf.refl f b).trans (box_fanOf (f := (offerCommand _ f).1) ⟨_, _, rfl⟩)
  · exact .refl f b

/-- R153: a fan decision that is recorded. -/
theorem decideFan_fanOf (e : Env) (b : Fin 12) (v : Int) (f : Floor) : f.FanOf b (decideFan e b v f) := by
  simp only [decideFan]
  split
  · exact .refl f b
  · split
    · exact box_fanOf ⟨_, _, rfl⟩
    · exact (box_fanOf ⟨some v, (f.boxAt b).fanPending, rfl⟩).trans (offerFan_fanOf ..)

theorem reofferFan_fanOf (e : Env) (b : Fin 12) (f : Floor) : f.FanOf b (reofferFan e b f) := by
  simp only [reofferFan]
  split
  · exact offerFan_fanOf ..
  · exact .refl f b

theorem boxRound_fanOf (e : Env) (b : Fin 12) (f : Floor) : f.FanOf b (boxRound e b f) := by
  have counted : f.FanOf b (if (fanDecision e f b).2 then { f with freeCount := f.freeCount + 1 } else f) :=
    (Floor.FanOf.refl f b).same (by split <;> rfl)
  simp only [boxRound]
  cases (fanDecision e f b).1 with
  | none => exact counted
  | some v => exact counted.trans (decideFan_fanOf ..)

/-- R152: the states in which a box decides its fan. -/
def UnitState.decides (st : UnitState) : Prop := st = .running ∨ st = .held ∨ st = .done ∨ st = .discharging

/-- R152: in any other state a box makes no fan decision. -/
theorem boxRound_idle (idle : ¬UnitState.decides (f.boxAt b).ctx.state) : boxRound e b f = f := by
  have decision : fanDecision e f b = (none, false) := by
    simp only [fanDecision]
    cases pos : f.boxes[b].ctx.pos with
    | none => rfl
    | some p =>
      have at' : (f.boxAt b).ctx.state = f.boxes[b].ctx.state := rfl
      rw [at'] at idle
      cases state : f.boxes[b].ctx.state <;> simp_all [UnitState.decides]
  simp only [boxRound, decision]
  rfl

/-! ### The grant (R159 to R161) -/

/-- R159: the box that the turner is granted to decides its fan; no other does. -/
theorem enterPreparing_fanOf (e : Env) (b : Fin 12) (f : Floor) : f.FanOf b (enterPreparing e b f) := by
  have granted := boxRound_fanOf e b (f.arb fun a => { a with
    state := .preparing, grant := some b, result := .none, parked := false, parkTimer := none,
    timer := some (e.second + entryPrepTimeout f.boxes[b].ctx.entry) })
  exact (((Floor.FanOf.refl f b).same rfl).trans granted).same (by simp [enterPreparing])

/-- R159: a grant decision grants the turner to the first eligible request, or to none. -/
theorem grantDecision_cases (e : Env) (f : Floor) :
    (grantDecision e f = f ∧ ¬((f.arbiter.state = .idle ∨ f.arbiter.state = .parking) ∧ turnerReady e = true ∧
        ∃ r, f.arbiter.queue.find? (eligible e f) = some r)) ∨
      ∃ r, (f.arbiter.state = .idle ∨ f.arbiter.state = .parking) ∧ turnerReady e = true ∧
        f.arbiter.queue.find? (eligible e f) = some r ∧ grantDecision e f = enterPreparing e r.box f := by
  simp only [grantDecision]
  split
  · next ready =>
    cases first : f.arbiter.queue.find? (eligible e f) with
    | none => exact .inl ⟨rfl, by simp⟩
    | some r => exact .inr ⟨r, ready.1, ready.2, rfl, rfl⟩
  · next shut => exact .inl ⟨rfl, fun h => shut ⟨h.1, h.2.1⟩⟩

/-- R158: an eligible request is one of a RUNNING box. -/
theorem eligible_running {r : Request} (first : f.arbiter.queue.find? (eligible e f) = some r) :
    (f.boxAt r.box).ctx.state = .running ∧ r ∈ f.arbiter.queue := by
  have chosen := List.find?_some first
  simp only [eligible, Bool.and_eq_true] at chosen
  exact ⟨by simpa [Floor.boxAt] using chosen.1, List.mem_of_find?_eq_some first⟩

/-- R159: a grant decision changes no box but a RUNNING one that has a request. -/
theorem grantDecision_boxAt (idle : (f.boxAt b).ctx.state ≠ .running ∨ f.arbiter.hasRequest b = false) :
    (grantDecision e f).boxAt b = f.boxAt b := by
  obtain ⟨same, -⟩ | ⟨r, -, -, first, grants⟩ := grantDecision_cases e f
  · rw [same]
  · rw [grants]
    obtain ⟨running, mem⟩ := eligible_running first
    refine (enterPreparing_fanOf e r.box f).other ?_
    rintro rfl
    obtain notRunning | absent := idle
    · exact notRunning running
    · simp only [Arbiter.hasRequest, List.any_eq_false] at absent
      exact absent r mem (by simp)

theorem enterIdle_boxAt (idle : (f.boxAt b).ctx.state ≠ .running ∨ f.arbiter.hasRequest b = false) :
    (enterIdle e f).boxAt b = f.boxAt b :=
  grantDecision_boxAt (f := f.arb _) idle

/-! ### The arbiter -/

theorem offerTurner_arbiter (e : Env) (l : List TurnerCommand) (f : Floor) :
    ∃ w, (offerTurner e l f).arbiter = { f.arbiter with waiting := w } := by
  induction l generalizing f with
  | nil => exact ⟨[], rfl⟩
  | cons t l ih =>
    simp only [offerTurner]
    split
    · exact ih _
    · exact ⟨t :: l, rfl⟩

theorem turnerStep_arbiter (e : Env) (l : List TurnerCommand) (f : Floor) :
    ∃ w, (turnerStep e l f).arbiter = { f.arbiter with waiting := w } := by
  simp only [turnerStep]
  split
  · exact ⟨_, rfl⟩
  · exact offerTurner_arbiter ..

theorem turnerStop_arbiter (e : Env) (f : Floor) : ∃ w, (turnerStop e f).arbiter = { f.arbiter with waiting := w } :=
  offerTurner_arbiter ..

theorem enterDispatched_arbiter (e : Env) (b : Fin 12) (f : Floor) :
    ∃ w, (enterDispatched e b f).arbiter = { f.arbiter with
      state := .dispatched, timer := some (e.second + entryStartTimeout f.boxes[b].ctx.entry), waiting := w } := by
  obtain ⟨w, step⟩ := turnerStep_arbiter e [.goto (b : Nat), .turn]
    (f.arb fun a => { a with state := .dispatched, timer := some (e.second + entryStartTimeout f.boxes[b].ctx.entry) })
  exact ⟨w, step⟩

/-- R161: the fan test in PREPARING. -/
theorem fanTest_preparing (state : f.arbiter.state = .preparing) (grant : f.arbiter.grant = some b) :
    fanTest e f = if feedbackMet e f b then enterDispatched e b f else f := by
  simp only [fanTest, state, grant]

/-! ### Grants -/

/-- The arbiter once the turner is granted to box `b`. -/
def Arbiter.granted (a : Arbiter) (b : Fin 12) (st : ArbiterState) (ending : Nat) (w : List TurnerCommand) : Arbiter :=
  { a with
    state := st, grant := some b, result := .none, parked := false, parkTimer := none, timer := some ending, waiting := w }

/-- The state of a turn that has been granted, by whether its fan feedback is met. -/
def grantedState (met : Bool) : ArbiterState := if met then .dispatched else .preparing

/-- R159, R160, R161: the arbiter once the turner is granted. -/
theorem enterPreparing_arbiter (e : Env) (b : Fin 12) (f : Floor) :
    ∃ w, (enterPreparing e b f).arbiter = f.arbiter.granted b (grantedState (feedbackMet e f b))
      (e.second + if feedbackMet e f b then entryStartTimeout (f.boxAt b).ctx.entry else entryPrepTimeout (f.boxAt b).ctx.entry)
      w := by
  have granted := boxRound_fanOf e b (f.arb fun a => { a with
    state := .preparing, grant := some b, result := .none, parked := false, parkTimer := none,
    timer := some (e.second + entryPrepTimeout f.boxes[b].ctx.entry) })
  have ctx : ((boxRound e b (f.arb fun a => { a with
      state := .preparing, grant := some b, result := .none, parked := false, parkTimer := none,
      timer := some (e.second + entryPrepTimeout f.boxes[b].ctx.entry) })).boxAt b).ctx = (f.boxAt b).ctx := by
    rw [granted.box]
    rfl
  have frame := (boxRound_frame e b (f.arb fun a => { a with
    state := .preparing, grant := some b, result := .none, parked := false, parkTimer := none,
    timer := some (e.second + entryPrepTimeout f.boxes[b].ctx.entry) })).2.2.2.1
  simp only [enterPreparing]
  generalize boxRound e b _ = g at ctx frame
  have met : feedbackMet e g b = feedbackMet e f b := by
    change (_ && decide (_ ≤ entryTurnAirMax (g.boxAt b).ctx.entry)) = (_ && decide (_ ≤ entryTurnAirMax (f.boxAt b).ctx.entry))
    rw [ctx]
  rw [fanTest_preparing (b := b) (by rw [frame]; rfl) (by rw [frame]; rfl), met]
  cases feedbackMet e f b with
  | true =>
    obtain ⟨w, dispatched⟩ := enterDispatched_arbiter e b g
    refine ⟨w, dispatched.trans ?_⟩
    change { g.arbiter with state := .dispatched, timer := some (e.second + entryStartTimeout (g.boxAt b).ctx.entry), waiting := w } = _
    rw [frame, ctx]
    rfl
  | false => exact ⟨f.arbiter.waiting, frame⟩

/-- What a grant decision may do to the arbiter: nothing, or it grants the turner, if it can be granted, to a box of the queue. -/
def Arbiter.Grants (ready : Bool) (a a' : Arbiter) : Prop :=
  a' = a ∨ (ready = true ∧ ∃ r ∈ a.queue, ∃ st ending w, a' = a.granted r.box st ending w)

namespace Arbiter.Grants

variable {ready : Bool} {a a' : Arbiter}

theorem unready (h : a.Grants ready a') (not : ready = false) : a' = a :=
  h.resolve_right fun granted => Bool.false_ne_true (not.symm.trans granted.1)

theorem queue (h : a.Grants ready a') : a'.queue = a.queue := by
  obtain rfl | ⟨-, r, -, st, ending, w, rfl⟩ := h <;> rfl

theorem faults (h : a.Grants ready a') : a'.faults = a.faults := by
  obtain rfl | ⟨-, r, -, st, ending, w, rfl⟩ := h <;> rfl

theorem counter (h : a.Grants ready a') : a'.counter = a.counter := by
  obtain rfl | ⟨-, r, -, st, ending, w, rfl⟩ := h <;> rfl

/-- A box without a request is not granted. -/
theorem other (h : a.Grants ready a') (absent : a.hasRequest b = false) (notBefore : a.grant ≠ some b) : a'.grant ≠ some b := by
  obtain rfl | ⟨-, r, mem, st, ending, w, rfl⟩ := h
  · exact notBefore
  · rintro same
    simp only [Arbiter.hasRequest, List.any_eq_false] at absent
    exact absent r mem (by simpa [Arbiter.granted] using same)

end Arbiter.Grants

theorem grantDecision_grants (e : Env) (f : Floor) : f.arbiter.Grants (turnerReady e) (grantDecision e f).arbiter := by
  obtain ⟨same, -⟩ | ⟨r, -, ready, first, grants⟩ := grantDecision_cases e f
  · exact .inl (by rw [same])
  · obtain ⟨w, granted⟩ := enterPreparing_arbiter e r.box f
    rw [grants]
    exact .inr ⟨ready, r, (eligible_running first).2, _, _, w, granted⟩

/-- The arbiter as it enters IDLE. -/
def Arbiter.idled (a : Arbiter) : Arbiter := { a with state := .idle, timer := none, result := .none }

theorem enterIdle_grants (e : Env) (f : Floor) : f.arbiter.idled.Grants (turnerReady e) (enterIdle e f).arbiter :=
  grantDecision_grants e _

theorem withdraw_arbiter (e : Env) (b : Fin 12) (f : Floor) :
    (withdraw e b f).arbiter = { f.arbiter with grant := none, timer := none, result := .none } := by
  simp only [withdraw]
  split <;> simp

/-- The request of a box is gone once it is dropped. -/
theorem drop_hasRequest (a : Arbiter) (b : Fin 12) : (a.drop b).hasRequest b = false := by
  simp [Arbiter.hasRequest, Arbiter.drop, Arbiter.without]

/-! ### What the boxes keep -/

/-- From `f` to `g` no more of the boxes has changed than their fan records. -/
structure Floor.FansOnly (f g : Floor) : Prop where
  each : ∀ c : Fin 12, g.boxAt c = (f.boxAt c).blown (g.boxAt c).fan (g.boxAt c).fanPending

namespace Floor.FansOnly

theorem same (boxes : g.boxes = f.boxes) : f.FansOnly g := ⟨fun c => by rw [boxAt_congr boxes]; rfl⟩

theorem trans (p : f.FansOnly g) (q : g.FansOnly h) : f.FansOnly h := ⟨fun c => by rw [q.each c, p.each c]; rfl⟩

theorem turnClock (p : f.FansOnly g) (c : Fin 12) : (g.boxAt c).turnClock = (f.boxAt c).turnClock := by
  rw [p.each c]
  rfl

end Floor.FansOnly

theorem Floor.FanOf.fansOnly (p : f.FanOf b g) : f.FansOnly g := ⟨p.box⟩

theorem grantDecision_fansOnly (e : Env) (f : Floor) : f.FansOnly (grantDecision e f) := by
  obtain ⟨same, -⟩ | ⟨r, -, -, -, grants⟩ := grantDecision_cases e f
  · exact .same (by rw [same])
  · rw [grants]
    exact (enterPreparing_fanOf e r.box f).fansOnly

theorem enterIdle_fansOnly (e : Env) (f : Floor) : f.FansOnly (enterIdle e f) :=
  Floor.FansOnly.trans (g := f.arb Arbiter.idled) (.same rfl) (grantDecision_fansOnly e (f.arb Arbiter.idled))

/-! ### Releases (R163) and a granted box that leaves RUNNING (R166) -/

/-- The arbiter once the turn of box `b` is released. -/
def Arbiter.released (a : Arbiter) (b : Fin 12) : Arbiter :=
  { a.drop b with
    grant := none, state := .idle, timer := none, result := .none
    faults := if a.result = .complete then 0 else a.faults }

/-- The floor once the turn of box `b` is released, before the arbiter enters IDLE. -/
def releasedFloor (e : Env) (b : Fin 12) (f : Floor) : Floor :=
  let g := boxRound e b (withdraw e b (f.arb (·.drop b)))
  if f.arbiter.result = .complete then
    raiseEvent e 28 (6 + b) 0 ((g.box b fun x => { x with turnClock := 0 }).arb fun a => { a with faults := 0 })
  else g

theorem releaseTurn_granted (grant : f.arbiter.grant = some b) : releaseTurn e f = enterIdle e (releasedFloor e b f) := by
  simp only [releaseTurn, grant]
  rfl

theorem releasedFloor_arbiter (e : Env) (b : Fin 12) (f : Floor) :
    (releasedFloor e b f).arbiter.idled = f.arbiter.released b := by
  simp only [releasedFloor]
  split
  · next complete => simp [withdraw_arbiter, Floor.arb, Arbiter.idled, Arbiter.released, Arbiter.drop, complete]
  · next incomplete => simp [withdraw_arbiter, Floor.arb, Arbiter.idled, Arbiter.released, Arbiter.drop, incomplete]

theorem releaseTurn_grants (grant : f.arbiter.grant = some b) :
    (f.arbiter.released b).Grants (turnerReady e) (releaseTurn e f).arbiter := by
  rw [releaseTurn_granted grant, ← releasedFloor_arbiter e b f]
  exact enterIdle_grants e _

theorem released_hasRequest (a : Arbiter) (b : Fin 12) : (a.released b).hasRequest b = false := drop_hasRequest a b

/-- R163: a released turn leaves the turn clock, but after a complete turn. -/
theorem releaseTurn_turnClock (grant : f.arbiter.grant = some b) :
    ((releaseTurn e f).boxAt b).turnClock = if f.arbiter.result = .complete then 0 else (f.boxAt b).turnClock := by
  have round : f.FansOnly (boxRound e b (withdraw e b (f.arb (·.drop b)))) :=
    Floor.FansOnly.trans (.same (by simp)) (boxRound_fanOf e b _).fansOnly
  rw [releaseTurn_granted grant, (enterIdle_fansOnly e _).turnClock]
  simp only [releasedFloor]
  split
  · rw [boxAt_congr (g := raiseEvent ..) (raiseEvent_frame ..).2.2.1]
    exact congrArg Box.turnClock ((box_boxAt (b := b) (c := b) _).trans (if_pos rfl))
  · exact round.turnClock b

/-- A box that does not run keeps its record as its turn is released incomplete. -/
theorem releaseTurn_boxAt (grant : f.arbiter.grant = some b) (incomplete : f.arbiter.result ≠ .complete)
    (idle : ¬UnitState.decides (f.boxAt b).ctx.state) : (releaseTurn e f).boxAt b = f.boxAt b := by
  have given : (withdraw e b (f.arb (·.drop b))).boxAt b = f.boxAt b := boxAt_congr (by simp)
  have notRunning : (f.boxAt b).ctx.state ≠ .running := fun h => idle (.inl h)
  have floor : releasedFloor e b f = withdraw e b (f.arb (·.drop b)) := by
    simp only [releasedFloor]
    rw [if_neg incomplete, boxRound_idle (by rw [given]; exact idle)]
  rw [releaseTurn_granted grant, floor, enterIdle_boxAt (.inl (by rw [given]; exact notRunning)), given]

/-- From `f` to `g` box `b` has given up the turner, with its request and no turn to its credit. -/
structure Floor.GivesUp (e : Env) (b : Fin 12) (f g : Floor) : Prop where
  request : g.arbiter.hasRequest b = false
  grant : g.arbiter.grant ≠ some b
  faults : g.arbiter.faults = f.arbiter.faults
  turnClock : (g.boxAt b).turnClock = (f.boxAt b).turnClock
  unready : turnerReady e = false → g.arbiter.state = .idle ∧ g.arbiter.grant = none
  kept : ¬UnitState.decides (f.boxAt b).ctx.state → g.boxAt b = f.boxAt b

/-- An arbiter that enters IDLE once the grant and the request of a box are gone. -/
theorem enterIdle_givesUp (boxes : g.boxes = f.boxes) (request : g.arbiter.hasRequest b = false) (grant : g.arbiter.grant = none)
    (faults : g.arbiter.faults = f.arbiter.faults) : f.GivesUp e b (enterIdle e g) := by
  have grants := enterIdle_grants e g
  refine ⟨?_, ?_, grants.faults.trans faults, ?_, fun unready => ?_, fun _ => ?_⟩
  · rw [Arbiter.hasRequest, grants.queue]
    exact request
  · exact grants.other request (by simp [Arbiter.idled, grant])
  · rw [(enterIdle_fansOnly e g).turnClock, boxAt_congr boxes]
  · rw [grants.unready unready]
    exact ⟨rfl, grant⟩
  · rw [enterIdle_boxAt (.inr request), boxAt_congr boxes]

/-- R163: a turn that is released incomplete. -/
theorem releaseTurn_givesUp (grant : f.arbiter.grant = some b) (incomplete : f.arbiter.result ≠ .complete) :
    f.GivesUp e b (releaseTurn e f) := by
  have grants := releaseTurn_grants (e := e) grant
  refine ⟨?_, ?_, ?_, ?_, fun unready => ?_, releaseTurn_boxAt grant incomplete⟩
  · rw [Arbiter.hasRequest, grants.queue]
    exact released_hasRequest ..
  · exact grants.other (released_hasRequest ..) (by simp [Arbiter.released])
  · rw [grants.faults]
    simp [Arbiter.released, Arbiter.drop, incomplete]
  · rw [releaseTurn_turnClock grant, if_neg incomplete]
  · rw [grants.unready unready]
    exact ⟨rfl, rfl⟩

theorem Floor.GivesUp.of_same (p : g.GivesUp e b h) (boxes : g.boxes = f.boxes) (faults : g.arbiter.faults = f.arbiter.faults) :
    f.GivesUp e b h := by
  have at' : g.boxAt b = f.boxAt b := boxAt_congr boxes
  exact ⟨p.request, p.grant, p.faults.trans faults, p.turnClock.trans (by rw [at']), p.unready,
    fun idle => (p.kept (by rw [at']; exact idle)).trans at'⟩

/-- R163: with no channel of the box open, a turn that enters RELEASING is released at once. -/
theorem enterReleasing_released {r : TurnResult} (grant : f.arbiter.grant = some b)
    (shut : ChannelsShut e.bank (.box b) f) :
    enterReleasing e r f = releaseTurn e (f.arb fun a => { a with
      state := .releasing, result := r, timer := some (e.second + entrySprayTrail (f.boxAt b).ctx.entry) }) := by
  have none : openSpray e b (f.arb fun a => { a with
      state := .releasing, result := r, timer := some (e.second + entrySprayTrail (f.boxAt b).ctx.entry) }) = none :=
    (openSpray_none ..).mpr shut
  simp only [enterReleasing, grant]
  simp only [Floor.boxAt] at none
  rw [none]
  rfl

/-- R162, R166: a turn that is broken off: its spray is stopped and it is released incomplete. -/
theorem turnBroken_givesUp (grant : f.arbiter.grant = some b) :
    f.GivesUp e b (enterReleasing e .incomplete (stopSpray e b (turnerStop e f))) := by
  obtain ⟨w, stop⟩ := turnerStop_arbiter e f
  have arbiter : (stopSpray e b (turnerStop e f)).arbiter = { f.arbiter with waiting := w } := by simpa using stop
  rw [enterReleasing_released (b := b) (by rw [arbiter]; exact grant) (stopSpray_shut e b _)]
  refine Floor.GivesUp.of_same (releaseTurn_givesUp (b := b) ?_ ?_) ?_ ?_
  · simp [Floor.arb, stop, grant]
  · simp [Floor.arb]
  · simp
  · simp [Floor.arb, stop]

/-- R166: a granted box that leaves RUNNING gives up the turner, but in RELEASING. -/
theorem boxLeaves_givesUp (grant : f.arbiter.grant = some b)
    (state : f.arbiter.state = .preparing ∨ f.arbiter.state = .dispatched ∨ f.arbiter.state = .turning) :
    f.GivesUp e b (boxLeaves e b f) := by
  simp only [boxLeaves, if_pos grant]
  obtain state | state | state := state
  · rw [state]
    refine enterIdle_givesUp (by simp) ?_ ?_ ?_ <;> simp [withdraw_arbiter, Floor.arb, Arbiter.hasRequest, Arbiter.drop,
      Arbiter.without]
  · rw [state]
    obtain ⟨w, stop⟩ := turnerStop_arbiter e f
    refine enterIdle_givesUp (by simp) ?_ ?_ ?_ <;> simp [withdraw_arbiter, Floor.arb, Arbiter.hasRequest, Arbiter.drop,
      Arbiter.without, stop]
  · rw [state]
    exact turnBroken_givesUp grant

theorem boxLeaves_ungranted (other : f.arbiter.grant ≠ some b) : boxLeaves e b f = f := if_neg other

theorem boxLeaves_releasing (state : f.arbiter.state = .releasing) : boxLeaves e b f = f := by
  simp only [boxLeaves, state]
  split <;> rfl

/-- R166: a box that decides no fan keeps its record as it leaves RUNNING. -/
theorem boxLeaves_boxAt (idle : ¬UnitState.decides (f.boxAt b).ctx.state) : (boxLeaves e b f).boxAt b = f.boxAt b := by
  by_cases grant : f.arbiter.grant = some b
  · by_cases state : f.arbiter.state = .preparing ∨ f.arbiter.state = .dispatched ∨ f.arbiter.state = .turning
    · exact (boxLeaves_givesUp grant state).kept idle
    · simp only [boxLeaves, if_pos grant]
      cases now : f.arbiter.state <;> simp_all
  · rw [boxLeaves_ungranted grant]

end Fans

end Sys2Proof.Machine

/-! SUPPORT. The unit commands HOLD, MANUAL, AUTO, STOP_PROGRAM and DISCARD (R94, R96, R97, R98): O26, O28, O29, O30. -/

namespace Sys2Proof.Machine

/-! ### A unit command that is served -/

section Commands

variable {s : State} {fn : Function} {r : Req} {u : PlantUnit} {e : Env} {f g h : Floor}

theorem floorWork_unit (command : fn ∈ unitFunctions) (r : Req) (e : Env) :
    floorWork fn r e = unitCommand r.qual (serveUnit fn r e) (replyTo e fn r) := by
  simp only [unitFunctions, List.mem_cons, List.not_mem_nil, or_false] at command
  obtain rfl | rfl | rfl | rfl | rfl | rfl | rfl := command <;> rfl

theorem unitFunctions_floor (command : fn ∈ unitFunctions) : fn ∈ floorFunctions := by
  simp only [unitFunctions, List.mem_cons, List.not_mem_nil, or_false] at command
  obtain rfl | rfl | rfl | rfl | rfl | rfl | rfl := command <;> decide

/-- A reply offered before the end of the event is of no account to what the event leaves but the queue. -/
theorem Floor.ToldOnly.replied {st : Status} {v : Int} (told : (replyTo e fn r st v f).ToldOnly g) : f.ToldOnly g := by
  obtain ⟨eventSeq, vessels, channels, boxes, arbiter, kilns, batches, register, accept, free⟩ := replyTo_frame e fn r st v f
  exact ⟨told.eventSeq.trans eventSeq, told.vessels.trans vessels, told.boxes.trans boxes, told.arbiter.trans arbiter,
    told.kilns.trans kilns, told.batches.trans batches, told.register.trans register, told.accept.trans accept,
    told.free.trans free, Floor.Settles.trans (.same channels) told.channels⟩

/-- R91: a unit command to a unit that is not in a transfer. -/
theorem exec_unit_works (h : s.Ready fn r) (command : fn ∈ unitFunctions) (named : unitOf r.qual.toNat = some u)
    (still : (s.floor.ctx u).state.moving = false) :
    ∃ t q, exec (fn.command r) s = .next t ∧ s.ServedOn t ∧
      (serveUnit fn r s.env u (s.floor.withQueue q)).1.ToldOnly t.floor := by
  obtain ⟨t, q, runs, served, told⟩ := exec_ready_works h (unitFunctions_floor command)
  rw [floorWork_unit command, unitCommand_served (f := s.floor.withQueue q) named still] at told
  exact ⟨t, q, runs, served, told.replied⟩

/-- R91: the same, with what the owners tell their channels. -/
theorem exec_unit_tells (h : s.Ready fn r) (command : fn ∈ unitFunctions) (named : unitOf r.qual.toNat = some u)
    (still : (s.floor.ctx u).state.moving = false) :
    ∃ t q q', exec (fn.command r) s = .next t ∧ s.ServedOn t ∧
      t.floor = tellOwners s.env s.floor s.env ((serveUnit fn r s.env u (s.floor.withQueue q)).1.withQueue q') := by
  obtain ⟨t, q, q', runs, served, floor⟩ := exec_ready_leaves h (unitFunctions_floor command)
  rw [floorWork_unit command, unitCommand_served (f := s.floor.withQueue q) named still] at floor
  exact ⟨t, q, q', runs, served, floor⟩

/-- R91: a unit command that only answers, with the unit's state. -/
theorem exec_unit_stays (h : s.Ready fn r) (command : fn ∈ unitFunctions) (named : unitOf r.qual.toNat = some u)
    (still : (s.floor.ctx u).state.moving = false) {st : Status}
    (stays : ∀ t, s.Arrived t → serveUnit fn r t.env u t.floor = (t.floor, ⟨st, true⟩)) :
    exec (fn.command r) s = .next (s.afterRequest fn r fun t => t.answer fn r st (s.floor.ctx u).replyValue) := by
  refine exec_ready_told h fun t arrived => ?_
  have serves : serveUnit fn { r with fillFirst := false } t.env u t.floor = (t.floor, ⟨st, true⟩) := by
    rw [← stays t arrived]
    cases fn <;> rfl
  rw [serveFunction_unit command]
  refine congrArg (fun f => { t with floor := f }) ?_
  rw [← arrived.ctx]
  refine (unitCommand_served named (by rw [arrived.ctx]; exact still)).trans ?_
  rw [serves]
  rfl

theorem Floor.OnlyUnit.told (only : f.OnlyUnit u g) (told : g.ToldOnly h) : f.OnlyUnit u h :=
  ⟨fun w other => (told.ctx w).trans (only.others w other), told.batches.trans only.batches, told.register.trans only.register,
    told.accept.trans only.acceptCount⟩

/-- The queue is of no account to what a unit's command leaves of the others. -/
theorem Floor.OnlyUnit.queued {q : Queue} (only : (f.withQueue q).OnlyUnit u g) : f.OnlyUnit u g :=
  ⟨only.others, only.batches, only.register, only.acceptCount⟩

/-- An operation that changes the context of one unit alone. -/
theorem onlyUnit_of_ctx {c : Ctx} (ctx : ∀ w, g.ctx w = if w = u then c else f.ctx w) (batches : g.batches = f.batches)
    (register : g.register = f.register) (accept : g.acceptCount = f.acceptCount) : f.OnlyUnit u g :=
  ⟨fun w other => (ctx w).trans (if_neg other), batches, register, accept⟩

theorem moving_of_state {c : Ctx} {st : UnitState} (state : c.state = st) (still : st.moving = false) : c.state.moving = false := by
  rw [state]
  exact still

end Commands

/-! ### STOP_PROGRAM (R97, R128, R169, R192) -/

section Stops

variable {e : Env} {f g : Floor} {u w : PlantUnit} {c : Fin 12}

/-- The context of a unit that has left its program. -/
def Ctx.stopped (u : PlantUnit) (c : Ctx) : Ctx :=
  ⟨match u with | .vessel _ => .done | _ => .loaded, none, none, c.batch, none, none⟩

/-- R128: the records of a vessel that leaves its program, before it decides. -/
def Vessel.stopped (x : Vessel) : Vessel :=
  { x with
    fill := .none
    endCo2 := match x.ctx.pos with
      | some p => some (stepCo2Limit p.fields, stepCo2Hysteresis p.fields)
      | none => x.endCo2
    ctx := { x.ctx.enter .done with pos := none } }

theorem vesselStopProgram_eq (e : Env) (v : Fin 6) (f : Floor) :
    vesselStopProgram e v f = vesselRound e v ((stopUnitChannel e (.vessel v) f).vessel v Vessel.stopped) := rfl

/-- R97: the channels of a kiln that leaves its program are those of its STOP. -/
theorem kilnStopProgram_channels (e : Env) (k : Fin 2) (f : Floor) : (kilnStopProgram e k f).channels =
    (stopUnitChannel e (.kiln k) (if f.kilns[k].peat ≠ .none then endPeat e k f else f)).channels := by
  simp only [kilnStopProgram]
  generalize stopUnitChannel e (.kiln k) (if f.kilns[k].peat ≠ .none then endPeat e k f else f) = g
  rw [apply_ite Floor.channels]
  simp

theorem stopProgram_ctx (u w : PlantUnit) : (stopProgram e u f).ctx w = if w = u then (f.ctx u).stopped u else f.ctx w := by
  cases u with
  | vessel v =>
    have vessels : (stopUnitChannel e (.vessel v) f).vessels = f.vessels := by simp
    rw [stopProgram, vesselStopProgram_eq, vesselRound_ctx, vessel_ctx, stopUnitChannel_ctx, vessels]
    rfl
  | box b =>
    rw [stopProgram, boxStopped_ctx, updCtx_ctx]
    rfl
  | kiln k =>
    rw [stopProgram, updCtx_ctx, kilnStopProgram_ctx, kilnStopProgram_ctx]
    rfl


theorem stopProgram_onlyUnit (u : PlantUnit) : f.OnlyUnit u (stopProgram e u f) :=
  onlyUnit_of_ctx (stopProgram_ctx u) (by simp) (by simp) (by simp)

/-- R97: the channel of a vessel or kiln that has left its program is not open. -/
theorem stopProgram_shut (binds : e.bank.unitChannel u = some c) (notBox : ∀ b, u ≠ .box b) :
    (stopProgram e u f).channels[c].isOpen = false := by
  cases u with
  | vessel v =>
    have channels : (stopProgram e (.vessel v) f).channels = (stopUnitChannel e (.vessel v) f).channels := by
      simp [stopProgram, vesselStopProgram]
    rw [channels]
    exact stopUnitChannel_shut binds
  | box b => exact absurd rfl (notBox b)
  | kiln k =>
    rw [stopProgram, updCtx_channels, kilnStopProgram_channels]
    exact stopUnitChannel_shut binds

/-- R157: a box that does not hold the grant has no request left once it is dropped. -/
theorem dropRequest_gone {b : Fin 12} (other : f.arbiter.grant ≠ some b) :
    (dropRequest b f).arbiter = f.arbiter.drop b := by
  rw [dropRequest, if_neg other]
  rfl

theorem boxStopped_request {b : Fin 12} (other : f.arbiter.grant ≠ some b) (day : Option (List Int)) :
    (boxStopped e b day f).arbiter.hasRequest b = false := by
  have left : boxLeaves e b (dropRequest b f) = dropRequest b f :=
    boxLeaves_ungranted (by rw [dropRequest_gone other]; exact other)
  have arbiter : (boxStopped e b day f).arbiter = f.arbiter.drop b := by
    simp only [boxStopped, left]
    cases day <;> simp [dropRequest_gone other]
  rw [arbiter]
  exact drop_hasRequest _ _

end Stops

/-- Settles O29: STOP_PROGRAM of a vessel, a box and a kiln. -/
theorem stopProgramUnloads : Obligations.StopProgramUnloads := by
  intro r s u h named state
  have still : (s.floor.ctx u).state.moving = false := by
    simp only [List.mem_cons, List.not_mem_nil, or_false] at state
    obtain state | state | state | state := state <;> rw [state] <;> rfl
  obtain ⟨t, q, runs, served, told⟩ := exec_unit_works h (by decide) named still
  have serves : (serveUnit .stopProgram r s.env u (s.floor.withQueue q)).1 = stopProgram s.env u (s.floor.withQueue q) := by
    simp only [List.mem_cons, List.not_mem_nil, or_false] at state
    simp only [serveUnit, serveStopProgram, withQueue_ctx]
    obtain state | state | state | state := state <;> rw [state]
  rw [serves] at told
  refine ⟨t, runs, served, (stopProgram_onlyUnit u).queued.told told, ?_, ?_, fun c binds notBox => ?_⟩
  · rw [told.ctx, stopProgram_ctx, if_pos rfl]
    rfl
  · rintro b rfl other
    rw [told.arbiter]
    exact boxStopped_request (f := (s.floor.withQueue q).updCtx (.box b) Ctx.unloadProgram) other _
  · exact (told.channels.each c).shut (stopProgram_shut binds notBox)

/-! ### MANUAL and AUTO (R96, R127, R169, R192) -/

section Manual

variable {e : Env} {f g h : Floor} {u w : PlantUnit} {back : ResumeState}

/-- R96: the states that a unit may leave for MANUAL, with the state to return to. -/
theorem manualResume_of {c : Ctx} (leaves : (c.state = .loaded ∧ back = .loaded) ∨ (c.state = .running ∧ back = .running) ∨
    (c.state = .done ∧ back = .done) ∨ (c.state = .held ∧ c.reason ≠ some .programGone ∧ c.resume = some back)) :
    manualResume c = some back ∧ c.state ≠ .manual ∧ c.state.moving = false := by
  obtain ⟨state, rfl⟩ | ⟨state, rfl⟩ | ⟨state, rfl⟩ | ⟨state, there, resume⟩ := leaves
  · simp only [manualResume, state]
    decide
  · simp only [manualResume, state]
    decide
  · simp only [manualResume, state]
    decide
  · simp only [manualResume, state, if_neg there, resume]
    exact ⟨trivial, by decide, rfl⟩

/-- A unit that enters MANUAL. -/
def entersManual (u : PlantUnit) (back : ResumeState) (f : Floor) : Floor :=
  f.updCtx u fun c => { c.enter .manual with resume := some back }

theorem unitManual_ctx (u w : PlantUnit) : (unitManual e u f).ctx w = f.ctx w := by
  cases u <;> simp [unitManual]

theorem entersManual_ctx : (unitManual e u (entersManual u back f)).ctx w =
    if w = u then { f.ctx u with state := .manual, reason := none, resume := some back, noted := none } else f.ctx w := by
  rw [unitManual_ctx, entersManual, updCtx_ctx]
  rfl

theorem entersManual_onlyUnit : f.OnlyUnit u (unitManual e u (entersManual u back f)) :=
  onlyUnit_of_ctx (fun _ => entersManual_ctx) (by simp [entersManual]) (by simp [entersManual]) (by simp [entersManual])

/-- R127: a vessel in MANUAL has no decisions. -/
theorem vesselManual_outs (e : Env) (v : Fin 6) (f : Floor) (o : Fin 5) :
    ((vesselManual e v f).vesselAt v).outs[o] = ⟨.none, false⟩ := by
  rw [vesselManual, Floor.vesselAt, vessel_vessels, upd_get_self]
  simp [Vessel.forgetOutputs]

/-- R169: a box in MANUAL has no fan decision. -/
theorem boxManual_fan {b : Fin 12} (manual : (f.boxAt b).ctx.state = .manual) : ((boxManual e b f).boxAt b).fan = none := by
  have forgets : (f.box b fun x => { x with fan := none, fanPending := false }).boxAt b =
      { f.boxAt b with fan := none, fanPending := false } :=
    (box_boxAt (b := b) (c := b) _).trans (if_pos rfl)
  have idle : ¬UnitState.decides ((f.box b fun x => { x with fan := none, fanPending := false }).boxAt b).ctx.state := by
    rw [forgets]
    simp [UnitState.decides, manual]
  rw [boxManual, boxLeaves_boxAt idle, forgets]

theorem autoStops_ctx (u w : PlantUnit) : (autoStops e u f).ctx w = f.ctx w := by
  cases u <;> simp [autoStops]

theorem unitAuto_ctx (u w : PlantUnit) : (unitAuto e u f).ctx w = f.ctx w := by
  cases u with
  | vessel v => exact vesselRound_ctx w
  | box b => exact boxRound_ctx w
  | kiln k =>
    simp only [unitAuto]
    split
    · exact decidePhase_ctx w
    · rfl

/-- R96: the context of a unit that has left MANUAL. -/
def Ctx.leavesManual (back : ResumeState) (c : Ctx) : Ctx :=
  match back with
  | .running => c.heldFor .station
  | .loaded => { c with state := .loaded, reason := none, resume := none, noted := none }
  | .done => { c with state := .done, reason := none, resume := none, noted := none }

theorem leaveManual_ctx (resume : (f.ctx u).resume = some back) :
    (leaveManual e u f).ctx w = if w = u then (f.ctx u).leavesManual back else f.ctx w := by
  simp only [leaveManual, resume]
  cases back with
  | running => exact enterHeld_ctx ..
  | loaded => exact updCtx_ctx ..
  | done => exact updCtx_ctx ..

theorem serveAuto_ctx (manual : (f.ctx u).state = .manual) (resume : (f.ctx u).resume = some back) :
    (serveAuto e u f).1.ctx w = if w = u then (f.ctx u).leavesManual back else f.ctx w := by
  rw [serveAuto, if_pos manual, unitAuto_ctx, leaveManual_ctx (by rw [autoStops_ctx]; exact resume), autoStops_ctx, autoStops_ctx]

end Manual

/-- Settles O28: MANUAL and AUTO, with and without effect. -/
theorem manualAndAuto : Obligations.ManualAndAuto := by
  intro r s u named
  refine ⟨fun h => ⟨fun back leaves => ?_, fun manual => ?_, fun held gone => ?_⟩,
    fun h notDischarging notReceiving => ⟨fun manual back resume => ?_, fun notManual => ?_⟩⟩
  · obtain ⟨resumes, notManual, still⟩ := manualResume_of leaves
    obtain ⟨t, q, runs, served, told⟩ := exec_unit_works h (by decide) named still
    have serves : (serveUnit .manual r s.env u (s.floor.withQueue q)).1 =
        unitManual s.env u (entersManual u back (s.floor.withQueue q)) := by
      simp only [serveUnit, serveManual, withQueue_ctx, if_neg notManual, resumes]
      rfl
    rw [serves] at told
    refine ⟨t, runs, served, entersManual_onlyUnit.queued.told told, ?_, ?_, ?_, ?_⟩
    · rw [told.ctx, entersManual_ctx, if_pos rfl]
      rfl
    · rintro v rfl o
      rw [told.vessels]
      exact vesselManual_outs ..
    · rintro b rfl
      rw [told.boxes]
      refine boxManual_fan ?_
      change ((entersManual (.box b) back (s.floor.withQueue q)).ctx (.box b)).state = .manual
      rw [entersManual, updCtx_ctx, if_pos rfl]
      rfl
    · rintro k rfl
      rw [told.kilns]
      simp only [unitManual, kilnManual, kiln_kilns]
      rw [upd_get_self]
      exact ⟨rfl, rfl⟩
  · refine exec_unit_stays h (by decide) named (moving_of_state manual rfl) fun t arrived => ?_
    simp only [serveUnit, serveManual, arrived.ctx, manual]
    rfl
  · refine exec_unit_stays h (by decide) named (moving_of_state held rfl) fun t arrived => ?_
    simp only [serveUnit, serveManual, arrived.ctx, manualResume, held, gone]
    rfl
  · obtain ⟨t, q, runs, served, told⟩ := exec_unit_works h (by decide) named (moving_of_state manual rfl)
    have ctx (w : PlantUnit) := serveAuto_ctx (e := s.env) (f := s.floor.withQueue q) (w := w) manual resume
    refine ⟨t, runs, served, (onlyUnit_of_ctx ctx (by simp) (by simp) (by simp)).queued.told told, ?_⟩
    rw [told.ctx]
    refine (ctx u).trans ((if_pos rfl).trans ?_)
    cases back <;> rfl
  · have still : (s.floor.ctx u).state.moving = false := by
      cases state : (s.floor.ctx u).state <;> simp_all [UnitState.moving]
    refine exec_unit_stays h (by decide) named still fun t arrived => ?_
    simp only [serveUnit, serveAuto, arrived.ctx, if_neg notManual]
    rfl

/-! ### HOLD (R94) -/

section Holds

variable {e : Env} {f g before : Floor} {u w : PlantUnit} {k : Fin 2} {c : Fin 12}

/-- The record of kiln `k`. -/
def Floor.kilnAt (f : Floor) (k : Fin 2) : Kiln := f.kilns[k]

/-- An event that changes no vessel's demand and the context of one kiln at most tells the channel of that kiln alone. -/
theorem tellOwners_kiln (k : Fin 2) (demand : ∀ v, vesselDemand f v = vesselDemand before v)
    (others : ∀ j, j ≠ k → (f.kilnAt j).ctx = (before.kilnAt j).ctx) :
    tellOwners e before e f = tellChangedKiln e before e f k := by
  have vessels : (List.finRange 6).foldl (tellVessel before e) f = f := by
    refine foldl_inv (fun g => g = f) _ ?_ _ _ rfl
    rintro g v rfl
    simp [tellVessel, demand]
  have skips (g : Floor) (kilns : g.kilns = f.kilns) (j : Fin 2) (other : j ≠ k) : tellChangedKiln e before e g j = g := by
    have ctx : before.kilns[j].ctx = g.kilns[j].ctx := by
      rw [kilns]
      exact (others j other).symm
    refine if_pos ⟨ctx, ?_⟩
    simp only [permit, ctx]
  have kept : (tellChangedKiln e before e f k).kilns = f.kilns := by
    simp only [tellChangedKiln]
    split <;> simp
  rw [tellOwners, vessels]
  have pair : List.finRange 2 = [0, 1] := rfl
  rw [pair]
  fin_cases k
  · exact skips _ kept 1 (by decide)
  · change tellChangedKiln e before e (tellChangedKiln e before e f 0) 1 = _
    rw [skips f rfl 0 (by decide)]
    rfl

theorem tellChangedKiln_changed (changed : (before.kilnAt k).ctx ≠ (f.kilnAt k).ctx) :
    tellChangedKiln e before e f k = tellKiln e k f := if_neg fun h => changed h.1

/-- A box's record once it is HELD. -/
theorem enterHeld_boxAt {b : Fin 12} {r : HoldReason} {back : ResumeState} :
    (enterHeld e (.box b) r back f).boxAt b = { f.boxAt b with ctx := (f.boxAt b).ctx.enterHeld r back } := by
  have enters : (enterHeld e (.box b) r back f).boxes = (f.box b fun x => { x with ctx := x.ctx.enterHeld r back }).boxes :=
    (raiseEvent_frame ..).2.2.1
  rw [boxAt_congr enters]
  exact (box_boxAt _).trans (if_pos rfl)

theorem holdUnit_ctx (u w : PlantUnit) (r : HoldReason) :
    (holdUnit e u r f).ctx w = if w = u then (f.ctx w).heldFor r else f.ctx w := by
  cases u with
  | vessel v => exact holdVessel_ctx w r
  | box b => exact holdBox_ctx w r
  | kiln k =>
    refine (enterHeld_ctx ..).trans ?_
    split
    · next here => rw [here]; rfl
    · rfl

theorem holdUnit_onlyUnit (u : PlantUnit) (r : HoldReason) : f.OnlyUnit u (holdUnit e u r f) :=
  ⟨fun w other => (holdUnit_ctx u w r).trans (if_neg other), by simp, by simp, by simp⟩

/-- R124: a vessel that is held as it fills stops its channel. -/
theorem holdVessel_stops {v : Fin 6} {r : HoldReason} (filling : (f.vesselAt v).fill = .filling)
    (binds : e.bank.unitChannel (.vessel v) = some c) (isOpen : f.openAt c = true) :
    (holdVessel e v r f).channels[c].state = .stopped ∧ (holdVessel e v r f).channels[c].valve = .closed := by
  have entered : (enterHeld e (.vessel v) r .running f).channels = f.channels := by simp
  have fills : (enterHeld e (.vessel v) r .running f).vessels[v].fill = .filling := by
    rw [enterHeld, (raiseEvent_frame ..).1, Floor.updCtx, vessel_vessels, upd_get_self]
    exact filling
  have opens : unitChannelOpen e (.vessel v) (enterHeld e (.vessel v) r .running f) = true := by
    simp only [unitChannelOpen, binds, entered]
    exact isOpen
  obtain ⟨p, stopped⟩ := stopChannel_channels e c (enterHeld e (.vessel v) r .running f)
  have channels : (holdVessel e v r f).channels =
      upd f.channels c fun x => if x.isOpen then x.entered e.second .stopped p else x := by
    rw [holdVessel, stopFillForHold, if_pos ⟨fills, opens⟩, (vesselRound_frame ..).2.1, stopUnitChannel, binds]
    exact stopped.trans (by rw [entered])
  rw [channels, upd_get_self]
  have isOpen' : f.channels[c].isOpen = true := isOpen
  rw [if_pos isOpen']
  simp [Channel.entered]

/-- A channel that is shut keeps its state and its valve as it settles. -/
theorem Channel.Settles.stands {x y : Channel} (a : x.Settles y) (shut : x.isOpen = false) :
    y.state = x.state ∧ y.valve = x.valve ∧ y.base = x.base ∧ y.current = x.current := by
  rw [a.2 shut]
  exact ⟨rfl, rfl, rfl, rfl⟩

/-- R136, R186: a kiln that is held tells its DEMAND channel so. -/
theorem told_held {second : Nat} {pending : Bool} {x : Channel} :
    (x.told second true false pending).demand = false ∧ (x.told second true false pending).current = x.current ∧
      (x.state = .active →
        (x.told second true false pending).state = .paused ∧ (x.told second true false pending).valve = .closed) := by
  by_cases active : x.state = .active
  · simp [Channel.told, active, Channel.entered]
  · simp [Channel.told, active]

/-- R136: the channels of a kiln that has been held. -/
theorem holdKiln_channels {q : Queue} {r : HoldReason} (running : (before.kilnAt k).ctx.state = .running)
    (binds : e.bank.unitChannel (.kiln k) = some c) (mode : e.bank.channelMode c = .demand)
    (boxes : f.kilns = before.kilns) (vessels : f.vessels = before.vessels) (channels : f.channels = before.channels) :
    ∃ p, (tellOwners e before e ((enterHeld e (.kiln k) r .running f).withQueue q)).channels =
      upd before.channels c (Channel.told e.second true false p) := by
  have kilns : ((enterHeld e (.kiln k) r .running f).withQueue q).kilns =
      upd f.kilns k fun x => { x with ctx := x.ctx.enterHeld r .running } := by
    rw [withQueue_kilns, enterHeld, (raiseEvent_frame ..).2.2.2.2.1]
    rfl
  have held : (((enterHeld e (.kiln k) r .running f).withQueue q).kilnAt k).ctx =
      ((before.kilnAt k).ctx).enterHeld r .running := by
    rw [Floor.kilnAt, kilns, upd_get_self, boxes]
    rfl
  have same : ((enterHeld e (.kiln k) r .running f).withQueue q).vessels = before.vessels := by simp [vessels]
  have demand (v : Fin 6) : vesselDemand ((enterHeld e (.kiln k) r .running f).withQueue q) v = vesselDemand before v := by
    simp only [vesselDemand, same]
  have others (j : Fin 2) (other : j ≠ k) : (((enterHeld e (.kiln k) r .running f).withQueue q).kilnAt j).ctx =
      (before.kilnAt j).ctx := by
    rw [Floor.kilnAt, kilns, upd_get_ne _ _ (Ne.symm other), boxes]
    rfl
  have changed : (before.kilnAt k).ctx ≠ (((enterHeld e (.kiln k) r .running f).withQueue q).kilnAt k).ctx := by
    rw [held]
    intro same
    have state := congrArg Ctx.state same
    rw [running] at state
    cases state
  have quiet : kilnDemand e ((enterHeld e (.kiln k) r .running f).withQueue q) k = false := by
    have state : ((enterHeld e (.kiln k) r .running f).withQueue q).kilns[k].ctx.state = .held := congrArg Ctx.state held
    simp only [kilnDemand, state]
    rfl
  obtain ⟨p, told⟩ := tellDemand_channels e c false ((enterHeld e (.kiln k) r .running f).withQueue q)
  refine ⟨p, ?_⟩
  rw [tellOwners_kiln k demand others, tellChangedKiln_changed changed]
  simp only [tellKiln, binds, quiet]
  rw [told, withQueue_channels, (enterHeld_frame ..).1, channels, mode]
  rfl

end Holds

/-- Settles O26: HOLD of a running unit, with its fill, its peat and its turn, and of a held one. -/
theorem holdHoldsRunningUnit : Obligations.HoldHoldsRunningUnit := by
  intro r s u h named
  refine ⟨fun running => ?_, fun held => ?_⟩
  · obtain ⟨t, q, q', runs, served, floor⟩ := exec_unit_tells h (by decide) named (moving_of_state running rfl)
    have serves : (serveUnit .hold r s.env u (s.floor.withQueue q)).1 = holdUnit s.env u .station (s.floor.withQueue q) := by
      simp only [serveUnit, serveHoldUnit, withQueue_ctx, running]
    rw [serves] at floor
    have told : (holdUnit s.env u .station (s.floor.withQueue q)).ToldOnly t.floor := by
      rw [floor]
      exact told_only ..
    have tables : t.tables = s.tables := by
      rw [served.1]
      rfl
    refine ⟨t, runs, served, (holdUnit_onlyUnit u .station).queued.told told, ?_, ?_, ?_, ?_⟩
    · rw [told.ctx, holdUnit_ctx, if_pos rfl]
      rfl
    · rintro v rfl filling isOpen c binds
      have opens : s.floor.openAt c = true := by
        have binds' : s.env.bank.unitChannel (.vessel v) = some c := binds
        simp only [unitChannelOpen, binds'] at isOpen
        exact isOpen
      obtain ⟨state, valve⟩ := holdVessel_stops (e := s.env) (f := s.floor.withQueue q) (r := .station) filling binds opens
      have shut : (holdUnit s.env (.vessel v) .station (s.floor.withQueue q)).channels[c].isOpen = false := by
        simp only [Channel.isOpen, holdUnit, state]
        rfl
      obtain ⟨state', valve', -⟩ := (told.channels.each c).stands shut
      exact ⟨state'.trans state, valve'.trans valve⟩
    · rintro k c rfl binds mode
      obtain ⟨p, channels⟩ := holdKiln_channels (e := s.env) (before := s.floor) (f := s.floor.withQueue q) (q := q')
        (r := .station) running binds mode rfl rfl rfl
      have at' : t.floor.channels[c] = s.floor.channels[c].told s.second true false p := by
        rw [floor]
        exact (congrArg (fun v : Vector Channel 12 => v[c]) channels).trans (upd_get_self ..)
      rw [at']
      exact told_held
    · rintro b rfl granted
      have arbiter : (enterHeld s.env (.box b) .station .running (s.floor.withQueue q)).arbiter = s.floor.arbiter := by simp
      have clock : ((enterHeld s.env (.box b) .station .running (s.floor.withQueue q)).boxAt b).turnClock =
          (s.floor.boxAt b).turnClock := by
        rw [enterHeld_boxAt]
        rfl
      refine ⟨fun state => ?_, fun state => ?_, fun state => ?_⟩
      · have gives := boxLeaves_givesUp (e := s.env) (b := b)
          (f := enterHeld s.env (.box b) .station .running (s.floor.withQueue q)) (by rw [arbiter]; exact granted)
          (by rw [arbiter]; simpa using state)
        rw [told.arbiter, told.boxes]
        exact ⟨gives.request, gives.grant, gives.faults.trans (by rw [arbiter]), gives.turnClock.trans clock⟩
      · rw [sprayShut_iff, tables]
        intro c owner
        exact (told.channels.each c).shut (boxLeaves_shut s.env b
          (enterHeld s.env (.box b) .station .running (s.floor.withQueue q)) (by rw [arbiter]; exact state)
          (by rw [arbiter]; exact granted) c owner)
      · rw [told.arbiter]
        change (boxLeaves s.env b _).arbiter = _
        rw [boxLeaves_releasing (by rw [arbiter]; exact state), arbiter]
  · refine exec_unit_stays h (by decide) named (moving_of_state held rfl) fun t arrived => ?_
    simp only [serveUnit, serveHoldUnit, arrived.ctx, held]
    rfl

end Sys2Proof.Machine

/-! SUPPORT. DISCARD (R98, R128, R213, R222): O30. -/

namespace Sys2Proof.Machine

/-! ### An event whose vessels change but not their demand conditions -/

theorem State.Arrived.vessels {s t : State} (h : s.Arrived t) : t.floor.vessels = s.floor.vessels := by rw [h.floor]

theorem State.Arrived.eventSeq {s t : State} (h : s.Arrived t) : t.floor.eventSeq = s.floor.eventSeq := by rw [h.floor]

/-- What the end of an event reads, with these vessels in the place of the state's. -/
def State.endInputsBut (t : State) (vessels : Vector Vessel 6) : EndInputs := { t.endInputs with vessels := vessels }

/-- An event that leaves what its end reads but for the vessels, and leaves their demand conditions, ends as it stands. -/
theorem finish_undemanding {s t : State} (lines : s.LinesFollow) (env : t.env = s.env)
    (same : t.endInputsBut s.floor.vessels = s.endInputs)
    (demand : ∀ v, vesselDemand t.floor v = vesselDemand s.floor v) : finish s t = t := by
  obtain ⟨pins, inReset, bank, points, up, silence, -, kilns, congested, overdue, arbiter, register⟩ := EndInputs.mk.inj same
  have told : finish s t = setLines t := by
    simp only [finish, State.onFloor, env, tellOwners_undemanding demand kilns]
  rw [told]
  exact setLines_same s t lines pins
    (lines_congr s t inReset bank points up silence kilns congested overdue arbiter register)

section Requests

variable {fn : Function} {r : Req} {s : State}

/-- A request whose function is, on what it finds, a work that changes no demand condition and nothing else that the end of the
event reads. -/
theorem exec_ready_undemanding (h : s.Ready fn r) {op : State → State}
    (does : ∀ t, s.Arrived t → serveFunction fn { r with fillFirst := false } t = op t)
    (env : ∀ t, s.Arrived t → (op t).env = t.env)
    (same : ∀ t, s.Arrived t → (op t).endInputsBut t.floor.vessels = t.endInputs)
    (demand : ∀ t, s.Arrived t → ∀ v, vesselDemand (op t).floor v = vesselDemand t.floor v) :
    exec (fn.command r) s = .next (s.afterRequest fn r op) := by
  rw [exec_ready fn r s h, State.afterRequest, takenOff_congr_arrived s _ _ does]
  refine congrArg Host.Outcome.next ?_
  rw [finish_undemanding h.reaches.lines]
  · rfl
  · cases r.fillFirst with
    | true => exact (env _ (arrived_filled _ s)).trans (arrived_filled _ s).env
    | false =>
      refine Eq.trans ?_ ((env _ (arrived_counted s)).trans (arrived_counted s).env)
      simp only [State.takenOff, fillSlot_floor]
      rfl
  · cases r.fillFirst with
    | true =>
      have filled := fillSlot_endInputs (mgmtSlot s.loop.node fn.code r) s
      have vessels : ((fillSlot (mgmtSlot s.loop.node fn.code r) s).1.counted false).floor.vessels = s.floor.vessels :=
        congrArg EndInputs.vessels filled
      have kept := same _ (arrived_filled (mgmtSlot s.loop.node fn.code r) s)
      rw [vessels] at kept
      exact kept.trans filled
    | false =>
      have filled := fillSlot_endInputs (mgmtSlot s.loop.node fn.code r) (op (s.counted false))
      refine Eq.trans ?_ (same (s.counted false) (arrived_counted s))
      exact congrArg (fun i : EndInputs => { i with vessels := s.floor.vessels }) filled
  · intro v
    cases r.fillFirst with
    | true =>
      refine (demand _ (arrived_filled (mgmtSlot s.loop.node fn.code r) s) v).trans ?_
      rw [fillSlot_floor]
      rfl
    | false =>
      refine Eq.trans ?_ (demand _ (arrived_counted s) v)
      simp only [State.takenOff, fillSlot_floor]
      rfl

end Requests

/-! ### The vessel that is emptied -/

section Discards

variable {e : Env} {f : Floor} {v : Fin 6} {b : Fin 20} {x : Batch}

/-- A vessel's record once it is EMPTY. -/
def Vessel.emptied (x : Vessel) : Vessel := { x with ctx := ⟨.empty, none, none, none, none, none⟩, endCo2 := none }

theorem restOutput_decides (e : Env) (v : Fin 6) (f : Floor) (o : Fin 5) : ∃ d, f.Decides v (restOutput e v f o) d := by
  simp only [restOutput]
  split
  · exact ⟨_, decideOutput_decides ..⟩
  · exact ⟨_, .refl f v⟩

theorem foldl_rest_decides (e : Env) (v : Fin 6) (l : List (Fin 5)) (f : Floor) :
    ∃ d, f.Decides v (l.foldl (restOutput e v) f) d := by
  induction l generalizing f with
  | nil => exact ⟨_, .refl f v⟩
  | cons o l ih =>
    obtain ⟨_, one⟩ := restOutput_decides e v f o
    obtain ⟨d, rest⟩ := ih (restOutput e v f o)
    exact ⟨d, one.trans rest⟩

/-- R128: the vessels once one is emptied. -/
theorem emptyUnit_vessels (e : Env) (v : Fin 6) (f : Floor) :
    ∃ outs : Vector Output 5, (emptyUnit e (.vessel v) f).vessels = upd f.vessels v fun x => { x.emptied with outs := outs } := by
  obtain ⟨d, outs, changed, -⟩ := foldl_rest_decides e v (List.finRange 5)
    (f.updCtx (.vessel v) fun c => { c.enter .empty with batch := none, pos := none })
  refine ⟨outs, ?_⟩
  rw [emptyUnit, unitEmptied, vesselEmptied, vessel_vessels, changed, upd_upd, Floor.updCtx, vessel_vessels, upd_upd]
  rfl

theorem emptyUnit_vessel_frame (e : Env) (v : Fin 6) (f : Floor) :
    (emptyUnit e (.vessel v) f).eventSeq = f.eventSeq ∧ (emptyUnit e (.vessel v) f).channels = f.channels ∧
      (emptyUnit e (.vessel v) f).boxes = f.boxes ∧ (emptyUnit e (.vessel v) f).arbiter = f.arbiter ∧
      (emptyUnit e (.vessel v) f).kilns = f.kilns ∧ (emptyUnit e (.vessel v) f).batches = f.batches ∧
      (emptyUnit e (.vessel v) f).register = f.register ∧ (emptyUnit e (.vessel v) f).acceptCount = f.acceptCount ∧
      (emptyUnit e (.vessel v) f).freeCount = f.freeCount := by
  simp [emptyUnit, unitEmptied, Floor.updCtx]

/-- A vessel that enters EMPTY, its outputs not yet at rest. -/
def leftEmpty (v : Fin 6) (f : Floor) : Floor :=
  f.vessel v fun x => { x with ctx := { x.ctx.enter .empty with batch := none, pos := none } }

/-- R128: a vessel without an output that is ON commands none as it is emptied. -/
theorem emptyUnit_still (still : ∀ o : Fin 5, f.vessels[v].outs[o].decision ≠ .on) :
    emptyUnit e (.vessel v) f = { f with vessels := upd f.vessels v Vessel.emptied } := by
  have outs : (leftEmpty v f).vessels[v].outs = f.vessels[v].outs := by rw [leftEmpty, vessel_vessels, upd_get_self]
  have rests : (List.finRange 5).foldl (restOutput e v) (leftEmpty v f) = leftEmpty v f :=
    foldl_inv (fun h => h = leftEmpty v f) _ (fun h o same => by
      rw [same]
      exact if_neg (by rw [outs]; exact still o)) _ _ rfl
  change ((List.finRange 5).foldl (restOutput e v) (leftEmpty v f)).vessel v (fun x => { x with endCo2 := none }) = _
  rw [rests]
  refine Floor.eq_of_fields rfl rfl ?_ rfl rfl rfl rfl rfl rfl rfl rfl
  rw [vessel_vessels, leftEmpty, vessel_vessels, upd_upd]
  rfl

theorem emptied_demand (vessels : ∃ outs : Vector Output 5, f.vessels = upd g.vessels v fun x => { x.emptied with outs := outs })
    (idle : (g.vesselAt v).ctx.state ≠ .running) (w : Fin 6) : vesselDemand f w = vesselDemand g w := by
  obtain ⟨outs, vessels⟩ := vessels
  simp only [vesselDemand, vessels]
  by_cases here : v = w
  · subst here
    have idle' : g.vessels[v].ctx.state ≠ .running := idle
    have before : (g.vessels[v].ctx.state == .running) = false := beq_eq_false_iff_ne.mpr idle'
    rw [upd_get_self, before]
    rfl
  · rw [upd_get_ne _ _ here]

theorem serveDiscard_served (state : (f.vesselAt v).ctx.state = .loaded ∨ (f.vesselAt v).ctx.state = .done)
    (holds : (f.vesselAt v).ctx.batch = some x.id) (found : f.findBatch x.id = some b) (at' : f.batches[b] = some x) :
    serveDiscard e (.vessel v) f =
      if x.exciseHold then (f, .plain .hold) else (freeBatch e b x (emptyUnit e (.vessel v) f), .ok) := by
  have discards : discardBatch e v f =
      if x.exciseHold then (f, .plain .hold) else (freeBatch e b x (emptyUnit e (.vessel v) f), .ok) := by
    simp only [Floor.vesselAt] at holds
    simp only [discardBatch, holds, found, at']
  have ctx : (f.ctx (.vessel v)).state = (f.vesselAt v).ctx.state := rfl
  simp only [serveDiscard, ctx]
  obtain state | state := state <;> simp only [state, discards]

/-- R98: a batch that is freed. -/
theorem freeBatch_operating (operating : e.operating = true) : freeBatch e b x f = { f with
    queue := f.queue.offerEvent (eventCell e f 10 x.location.index x.id)
    eventSeq := f.eventSeq + 1#8
    batches := f.batches.set b none } :=
  raiseEvent_operating _ _ _ operating

/-- The floor once the batch of an idle vessel is discarded. -/
def discarded (s : State) (v : Fin 6) (b : Fin 20) (x : Batch) (f : Floor) : Floor :=
  { f with
    queue := f.queue.offerEvent ⟨BitVec.ofInt 8 (s.tables.active.field 0 0 5), 7#8, 10#8, s.floor.eventSeq + 1#8,
      Word.ofValue x.id, BitVec.ofNat 8 x.location.index, s.second⟩
    eventSeq := s.floor.eventSeq + 1#8
    vessels := s.floor.vessels.set v
      { s.floor.vessels[v] with ctx := ⟨.empty, none, none, none, none, none⟩, endCo2 := none }
    batches := s.floor.batches.set b none }

theorem anyOverdue_freed (at' : f.batches[b] = some x) (still : x.transfer = none) :
    ({ f with batches := f.batches.set b none } : Floor).anyOverdue = f.anyOverdue := by
  refine Bool.eq_iff_iff.mpr (anyOverdue_iff.trans (Iff.trans (exists_congr fun c => ?_) anyOverdue_iff.symm))
  by_cases here : b = c
  · subst here
    dsimp only
    rw [set_get, at']
    constructor
    · rintro ⟨y, u, never, -⟩
      cases never
    · rintro ⟨y, u, is, moving, -⟩
      obtain rfl := Option.some.inj is
      cases still.symm.trans moving
  · dsimp only
    rw [set_get_ne _ _ here]

end Discards

/-- Settles O30: a batch under hold, one that is freed, and the event and the reply where nothing else happens. -/
theorem discardFreesBatch : Obligations.DiscardFreesBatch := by
  intro r s v b x h qual state holds found at'
  have named : unitOf r.qual.toNat = some (.vessel v) := unitOf_eq_some.mpr qual
  have still : (s.floor.ctx (.vessel v)).state.moving = false := by
    obtain state | state := state <;> exact moving_of_state state rfl
  have operating : s.env.operating = true := h.operating rfl
  have idle : s.floor.vessels[v].ctx.state ≠ .running := by obtain state | state := state <;> rw [state] <;> decide
  have serves (t : State) (arrived : s.Arrived t) : serveDiscard t.env (.vessel v) t.floor =
      if x.exciseHold then (t.floor, .plain .hold) else
        (freeBatch t.env b x (emptyUnit t.env (.vessel v) t.floor), .ok) := by
    have vessels : t.floor.vesselAt v = s.floor.vesselAt v := vesselAt_congr arrived.vessels
    exact serveDiscard_served (by rw [vessels]; exact state) (by rw [vessels]; exact holds)
      ((findBatch_arrived arrived _).trans found) (by rw [batches_arrived arrived]; exact at')
  refine ⟨fun hold => ?_, fun free => ?_, fun free noTransfer none => ?_⟩
  · refine exec_ready_told h fun t arrived => ?_
    rw [serveFunction_unit (by decide)]
    refine congrArg (fun f => { t with floor := f }) ?_
    refine (unitCommand_served named (by rw [arrived.ctx]; exact still)).trans ?_
    simp only [serveUnit, serves t arrived, hold]
    rfl
  · obtain ⟨t, q, q', runs, served, floor⟩ := exec_unit_tells h (by decide) named still
    have frees : (serveUnit .discard r s.env (.vessel v) (s.floor.withQueue q)).1 =
        freeBatch s.env b x (emptyUnit s.env (.vessel v) (s.floor.withQueue q)) := by
      have discards := serveDiscard_served (e := s.env) (f := s.floor.withQueue q) (x := x) state holds found at'
      simp only [serveUnit, discards, free]
      rfl
    obtain ⟨outs, vessels⟩ := emptyUnit_vessels s.env v (s.floor.withQueue q)
    have frame := emptyUnit_vessel_frame s.env v (s.floor.withQueue q)
    rw [frees, freeBatch_operating operating] at floor
    generalize emptyUnit s.env (.vessel v) (s.floor.withQueue q) = g at vessels frame floor
    obtain ⟨eventSeq, channels, boxes, arbiter, kilns, batches, register, accept, freeCount⟩ := frame
    have quiet := tellOwners_undemanding (e := s.env) (before := s.floor) (f := Floor.withQueue { g with
      queue := g.queue.offerEvent (eventCell s.env g 10 x.location.index x.id), eventSeq := g.eventSeq + 1#8,
      batches := g.batches.set b Option.none } q') (emptied_demand (g := s.floor) ⟨outs, vessels⟩ idle) kilns
    rw [quiet] at floor
    have after : t.floor.vessels = upd s.floor.vessels v fun x => { x.emptied with outs := outs } := by
      rw [floor]
      exact vessels
    refine ⟨t, runs, served, ?_, fun w other => ?_, ?_, ?_⟩
    · rw [floor]
      exact Floor.eq_of_fields rfl (congrArg (· + 1#8) eventSeq) rfl channels boxes arbiter kilns
        (congrArg (fun l => l.set b Option.none) batches) register accept freeCount
    · rw [after, upd_get_ne _ _ (Ne.symm other)]
    · rw [after, upd_get_self]
      rfl
    · rw [after, upd_get_self]
      rfl
  · have empties (t : State) (arrived : s.Arrived t) : emptyUnit t.env (.vessel v) t.floor =
        { t.floor with vessels := upd s.floor.vessels v Vessel.emptied } := by
      have stands : ∀ o : Fin 5, t.floor.vessels[v].outs[o].decision ≠ .on := by
        rw [arrived.vessels]
        exact none
      rw [emptyUnit_still stands, arrived.vessels]
    have event (t : State) (arrived : s.Arrived t) : eventCell t.env t.floor 10 x.location.index x.id =
        ⟨BitVec.ofInt 8 (s.tables.active.field 0 0 5), 7#8, 10#8, s.floor.eventSeq + 1#8, Word.ofValue x.id,
          BitVec.ofNat 8 x.location.index, s.second⟩ := by
      rw [eventCell, arrived.env, arrived.eventSeq]
      rfl
    have freed (t : State) (arrived : s.Arrived t) : freeBatch t.env b x (emptyUnit t.env (.vessel v) t.floor) =
        discarded s v b x t.floor := by
      rw [empties t arrived, freeBatch_operating (by rw [arrived.env]; exact operating)]
      refine Floor.eq_of_fields ?_ ?_ ?_ rfl rfl rfl rfl ?_ rfl rfl rfl
      · exact congrArg t.floor.queue.offerEvent (event t arrived)
      · exact congrArg (· + 1#8) arrived.eventSeq
      · exact upd_eq_set ..
      · exact congrArg (fun l => l.set b Option.none) (batches_arrived arrived)
    refine exec_ready_undemanding (op := fun t => ({ t with floor := discarded s v b x t.floor } : State).answer .discard r .ok 0)
      h (fun t arrived => ?_) (fun t arrived => ?_) (fun t arrived => ?_) fun t arrived => ?_
    · rw [serveFunction_unit (by decide)]
      have frees : serveUnit .discard { r with fillFirst := false } t.env (.vessel v) t.floor =
          (freeBatch t.env b x (emptyUnit t.env (.vessel v) t.floor), .ok) := by
        simp only [serveUnit, serves t arrived, free]
        rfl
      have served := unitCommand_served (answer := replyTo t.env .discard { r with fillFirst := false })
        (serve := serveUnit .discard { r with fillFirst := false } t.env) (f := t.floor) named
        (by rw [arrived.ctx]; exact still)
      rw [frees, freed t arrived] at served
      refine congrArg (fun f => { t with floor := f }) (served.trans ?_)
      have empty : (discarded s v b x t.floor).ctx (.vessel v) = ⟨.empty, Option.none, Option.none, Option.none,
          Option.none, Option.none⟩ := by
        change (Vector.set s.floor.vessels v _)[v].ctx = _
        rw [set_get]
      simp only [empty]
      rfl
    · rfl
    · have overdue : (discarded s v b x t.floor).anyOverdue = t.floor.anyOverdue := by
        refine Eq.trans ?_ (anyOverdue_freed (f := t.floor) (by rw [batches_arrived arrived]; exact at') noTransfer)
        rw [batches_arrived arrived]
        rfl
      have told := (answer_quiet .discard r .ok 0).endInputs { t with floor := discarded s v b x t.floor }
      refine (congrArg (fun i : EndInputs => { i with vessels := t.floor.vessels }) told).trans ?_
      exact congrArg₂ (fun c o => { t.endInputs with congested := c, overdue := o }) (offerEvent_congested ..) overdue
    · refine emptied_demand (v := v) (g := t.floor) ⟨(s.floor.vesselAt v).outs, ?_⟩ ?_
      · rw [arrived.vessels]
        exact (upd_eq_set s.floor.vessels v fun x => { x.emptied with outs := (s.floor.vesselAt v).outs }).symm
      · rw [vesselAt_congr arrived.vessels]
        exact idle

end Sys2Proof.Machine

/-! SUPPORT. The evaluation of a box and the end of its day (R152 to R157): O50. -/

namespace Sys2Proof.Machine

section Fans

variable {e : Env} {b : Fin 12} {f g : Floor} {v : Int}

theorem box_boxAt_self (op : Box → Box) : (f.box b op).boxAt b = op (f.boxAt b) := (box_boxAt op).trans (if_pos rfl)

/-- R153: an offer of a fan's cell keeps the decision. -/
theorem offerFan_fan : ((offerFan e b f).boxAt b).fan = (f.boxAt b).fan := by
  simp only [offerFan]
  split
  · rw [box_boxAt_self]
    rfl
  · rfl

theorem reofferFan_fan : ((reofferFan e b f).boxAt b).fan = (f.boxAt b).fan := by
  simp only [reofferFan]
  split
  · exact offerFan_fan
  · rfl

/-- R153: a fan decision is the record's percentage. -/
theorem decideFan_fan : ((decideFan e b v f).boxAt b).fan = some v := by
  simp only [decideFan]
  split
  · next same => exact same
  · split
    · rw [box_boxAt_self]
    · rw [offerFan_fan, box_boxAt_self]

/-- R152: a round that decides a percentage and draws no free value. -/
theorem boxRound_decides (decision : fanDecision e f b = (some v, false)) : boxRound e b f = decideFan e b v f := by
  simp only [boxRound, decision]
  rfl

/-- R152: a RUNNING box with a usable bed decides by the formula, kept to the turn-air maximum while it holds the grant. -/
theorem fanDecision_running {p : Position} (pos : (f.boxAt b).ctx.pos = some p) (running : (f.boxAt b).ctx.state = .running)
    (usable : (e.bed b).usable = true) :
    fanDecision e f b = (some (turnAirLimit f b (fanFormula p.fields (e.bed b).value)), false) := by
  simp only [Floor.boxAt] at pos running
  simp only [fanDecision, pos, running, usable, if_true]

/-- R152: a box that is HELD, DONE or DISCHARGING decides by the formula, or the maximum air without a reading. -/
theorem fanDecision_resting {p : Position} (pos : (f.boxAt b).ctx.pos = some p)
    (state : (f.boxAt b).ctx.state = .held ∨ (f.boxAt b).ctx.state = .done ∨ (f.boxAt b).ctx.state = .discharging) :
    fanDecision e f b =
      (some (if (e.bed b).usable then fanFormula p.fields (e.bed b).value else dayMaxAir p.fields), false) := by
  simp only [Floor.boxAt] at pos state
  obtain state | state | state := state <;> simp only [fanDecision, pos, state]

theorem fields_of {c : Ctx} {p : Position} (pos : c.pos = some p) : c.fields = p.fields := by
  simp only [Ctx.fields, pos]

/-- The floor once a box has decided its fan and offered it again. -/
theorem decided_box (e : Env) (b : Fin 12) (v : Int) (f : Floor) :
    (reofferFan e b (decideFan e b v f)).boxAt b =
        { f.boxAt b with fan := some v, fanPending := ((reofferFan e b (decideFan e b v f)).boxAt b).fanPending } ∧
      ∀ w, w ≠ b → (reofferFan e b (decideFan e b v f)).boxAt w = f.boxAt w := by
  have changed := (decideFan_fanOf e b v f).trans (reofferFan_fanOf e b _)
  refine ⟨(changed.box b).trans ?_, fun w other => changed.other other⟩
  rw [reofferFan_fan, decideFan_fan]
  rfl

/-- R157: the urgent test of a box that has no urgent turn to ask for. -/
theorem urgentTest_idle (none : urgentCondition e b (f.boxAt b) = false) : urgentTest e b f = f := by
  rw [Floor.boxAt] at none
  simp only [urgentTest, none]
  rfl

/-- The urgent condition reads nothing of the fan. -/
theorem urgentCondition_fan (p : f.FanOf b g) : urgentCondition e b (g.boxAt b) = urgentCondition e b (f.boxAt b) := by
  rw [p.box b]
  rfl

theorem boxEvaluate_running (running : (f.boxAt b).ctx.state = .running) (usable : (e.bed b).usable = true)
    (calm : urgentCondition e b (f.boxAt b) = false) : boxEvaluate e b f = reofferFan e b (boxRound e b f) := by
  have read : (e.bed b).quality ≠ .none := by
    intro none
    simp [Point.usable, none] at usable
  have still : urgentTest e b (boxRound e b f) = boxRound e b f :=
    urgentTest_idle ((urgentCondition_fan (boxRound_fanOf e b f)).trans calm)
  simp only [Floor.boxAt] at running
  simp only [boxEvaluate, running, if_neg read, still]

theorem boxEvaluate_resting
    (state : (f.boxAt b).ctx.state = .held ∨ (f.boxAt b).ctx.state = .done ∨ (f.boxAt b).ctx.state = .discharging) :
    boxEvaluate e b f = reofferFan e b (boxRound e b f) := by
  simp only [Floor.boxAt] at state
  obtain state | state | state := state <;> simp only [boxEvaluate, state]

/-- R154: a RUNNING box that has never taken a bed reading. -/
theorem boxEvaluate_unread (running : (f.boxAt b).ctx.state = .running) (none : (e.bed b).quality = .none) :
    boxEvaluate e b f = reofferFan e b (boxRound e b (holdBox e b .point f)) := by
  simp only [Floor.boxAt] at running
  simp only [boxEvaluate, running, if_pos none, bedLost, if_true]

/-! ### The end of a day (R155) -/

/-- R166: a box that leaves RUNNING keeps its turn clock. -/
theorem boxLeaves_turnClock : ((boxLeaves e b f).boxAt b).turnClock = (f.boxAt b).turnClock := by
  by_cases grant : f.arbiter.grant = some b
  · by_cases state : f.arbiter.state = .preparing ∨ f.arbiter.state = .dispatched ∨ f.arbiter.state = .turning
    · exact (boxLeaves_givesUp grant state).turnClock
    · simp only [boxLeaves, if_pos grant]
      cases now : f.arbiter.state <;> simp_all
  · rw [boxLeaves_ungranted grant]

/-- R155: the floor at the end of a day, its event raised. -/
def dayReported (e : Env) (b : Fin 12) (f : Floor) : Floor := raiseEvent e 24 (6 + b) f.boxes[b].ctx.item f

theorem dayReported_boxAt (c : Fin 12) : (dayReported e b f).boxAt c = f.boxAt c := boxAt_congr (by simp [dayReported])

theorem dayReported_ctx (w : PlantUnit) : (dayReported e b f).ctx w = f.ctx w := by simp [dayReported]

/-- R155: a day of a RUNNING box has ended. -/
def DayOver (f : Floor) (b : Fin 12) : Prop :=
  (f.boxAt b).ctx.state = .running ∧ dayLength (f.boxAt b).ctx.fields * 60 ≤ (f.boxAt b).dayClock

theorem dayEnded_next {p : Position} (past : DayOver f b) (next : boundary e.bank (.box b) (f.boxAt b).ctx = .next p) :
    dayEnded e b f = enterDay e b p (dayReported e b f) := by
  obtain ⟨running, length⟩ := past
  simp only [Floor.boxAt] at running length next
  simp only [dayEnded, if_pos (And.intro running length), next, dayReported]

theorem dayEnded_gone {i : Nat} (past : DayOver f b) (gone : boundary e.bank (.box b) (f.boxAt b).ctx = .gone i) :
    dayEnded e b f = boxLeaves e b (enterGone e (.box b) i (dayReported e b f)) := by
  obtain ⟨running, length⟩ := past
  simp only [Floor.boxAt] at running length gone
  simp only [dayEnded, if_pos (And.intro running length), gone, dayReported]

/-- R85: the floor as a box enters DONE. -/
def boxDone (e : Env) (b : Fin 12) (program : Int) (f : Floor) : Floor :=
  raiseEvent e 9 (6 + b) program (f.box b fun x => { x with ctx := x.ctx.enter .done })

theorem boxDone_boxAt {program : Int} :
    (boxDone e b program f).boxAt b = { f.boxAt b with ctx := (f.boxAt b).ctx.enter .done } := by
  rw [boxDone, boxAt_congr (raiseEvent_frame ..).2.2.1, box_boxAt_self]

theorem dayEnded_ended (past : DayOver f b) (ended : boundary e.bank (.box b) (f.boxAt b).ctx = .ended) :
    ∃ program, dayEnded e b f =
      boxRound e b (boxLeaves e b (dropRequest b (boxDone e b program (dayReported e b f)))) := by
  obtain ⟨running, length⟩ := past
  simp only [Floor.boxAt] at running length ended
  exact ⟨_, by simp only [dayEnded, if_pos (And.intro running length), ended, dayReported]; rfl⟩

theorem enterDay_boxAt {p : Position} :
    ((enterDay e b p f).boxAt b).ctx = { (f.boxAt b).ctx with pos := some p } ∧ ((enterDay e b p f).boxAt b).dayClock = 0 ∧
      ((enterDay e b p f).boxAt b).turnClock = (f.boxAt b).turnClock := by
  have entered (g : Floor) (boxes : g.boxes = (f.box b fun x =>
      { x with dayClock := 0, ctx := { x.ctx with pos := some p } }).boxes) :
      (boxRound e b g).boxAt b = { f.boxAt b with
        dayClock := 0
        ctx := { (f.boxAt b).ctx with pos := some p }
        fan := ((boxRound e b g).boxAt b).fan
        fanPending := ((boxRound e b g).boxAt b).fanPending } := by
    refine ((boxRound_fanOf e b g).box b).trans ?_
    rw [boxAt_congr (f := f.box b _) boxes, box_boxAt_self]
    rfl
  simp only [enterDay]
  rw [entered _ (by split <;> simp)]
  exact ⟨rfl, rfl, rfl⟩

/-- R155: the end of a day changes no context but that of its box. -/
theorem dayEnded_others (past : DayOver f b) {w : PlantUnit} (other : w ≠ .box b) : (dayEnded e b f).ctx w = f.ctx w := by
  cases meets : boundary e.bank (.box b) (f.boxAt b).ctx with
  | next p =>
    rw [dayEnded_next past meets, enterDay, boxRound_ctx]
    split
    · rw [dropRequest_ctx, box_ctx, if_neg other, dayReported_ctx]
    · rw [box_ctx, if_neg other, dayReported_ctx]
  | gone i =>
    rw [dayEnded_gone past meets, boxLeaves_ctx, enterGone, enterHeld_ctx, if_neg other, updCtx_ctx, if_neg other, dayReported_ctx]
  | ended =>
    obtain ⟨program, ends⟩ := dayEnded_ended past meets
    rw [ends, boxRound_ctx, boxLeaves_ctx, dropRequest_ctx, boxDone, raiseEvent_ctx, box_ctx, if_neg other, dayReported_ctx]

theorem dayEnded_turnClock (past : DayOver f b) : ((dayEnded e b f).boxAt b).turnClock = (f.boxAt b).turnClock := by
  cases meets : boundary e.bank (.box b) (f.boxAt b).ctx with
  | next p => rw [dayEnded_next past meets, enterDay_boxAt.2.2, dayReported_boxAt]
  | gone i =>
    rw [dayEnded_gone past meets, boxLeaves_turnClock, enterGone, enterHeld_boxAt]
    change ((Floor.box _ b _).boxAt b).turnClock = _
    rw [box_boxAt_self, dayReported_boxAt]
  | ended =>
    obtain ⟨program, ends⟩ := dayEnded_ended past meets
    rw [ends, (boxRound_fanOf e b _).fansOnly.turnClock, boxLeaves_turnClock, boxAt_congr (dropRequest_frame ..).2.2.2.2.1,
      boxDone_boxAt, dayReported_boxAt]

/-- R155: the context of a box at the end of a day. -/
theorem dayEnded_ctx (past : DayOver f b) :
    (∀ p, boundary e.bank (.box b) (f.boxAt b).ctx = .next p →
      ((dayEnded e b f).boxAt b).ctx = { (f.boxAt b).ctx with pos := some p } ∧ ((dayEnded e b f).boxAt b).dayClock = 0) ∧
    (boundary e.bank (.box b) (f.boxAt b).ctx = .ended → ((dayEnded e b f).boxAt b).ctx = (f.boxAt b).ctx.enter .done) ∧
    (∀ i, boundary e.bank (.box b) (f.boxAt b).ctx = .gone i →
      ((dayEnded e b f).boxAt b).ctx = { (f.boxAt b).ctx.heldFor .programGone with noted := some i }) := by
  refine ⟨fun p next => ?_, fun ended => ?_, fun i gone => ?_⟩
  · rw [dayEnded_next past next, enterDay_boxAt.1, enterDay_boxAt.2.1, dayReported_boxAt]
    exact ⟨rfl, rfl⟩
  · obtain ⟨program, ends⟩ := dayEnded_ended past ended
    have done : (dayEnded e b f).ctx (.box b) = (boxDone e b program (dayReported e b f)).ctx (.box b) := by
      rw [ends, boxRound_ctx, boxLeaves_ctx, dropRequest_ctx]
    refine done.trans ((congrArg Box.ctx boxDone_boxAt).trans ?_)
    rw [dayReported_boxAt]
  · have held : (dayEnded e b f).ctx (.box b) = (enterGone e (.box b) i (dayReported e b f)).ctx (.box b) := by
      rw [dayEnded_gone past gone, boxLeaves_ctx]
    refine held.trans ?_
    rw [enterGone, enterHeld_ctx, if_pos rfl, updCtx_ctx, if_pos rfl, dayReported_ctx]
    rfl

end Fans

section Statements

variable {s : State} {n : Fin 12}

/-- An evaluation of a box that decides a percentage. -/
theorem exec_box_decides {v : Int} (awake : s.inReset = false) (due : .boxEvaluation n ∈ s.due)
    (evaluates : boxEvaluate s.env n s.floor = reofferFan s.env n (boxRound s.env n s.floor))
    (decision : fanDecision s.env s.floor n = (some v, false)) :
    ∃ t, exec (.boxEvaluation n) s = .next t ∧ s.TookDue t (.boxEvaluation n) ∧
      t.floor = { s.floor with queue := t.floor.queue, boxes := t.floor.boxes } ∧
      (∀ w : Fin 12, w ≠ n → t.floor.boxes[w] = s.floor.boxes[w]) ∧
      t.floor.boxes[n] = { s.floor.boxes[n] with fan := some v, fanPending := t.floor.boxes[n].fanPending } := by
  obtain ⟨t, runs, took, floor⟩ := exec_due_floor awake due (op := fun e => boxEvaluate e n) rfl
  obtain ⟨box, others⟩ := decided_box s.env n v s.floor
  rw [evaluates, boxRound_decides decision, tellOwners_still _ _ _ (by simp) (by simp)] at floor
  rw [← floor] at box others
  refine ⟨t, runs, took, ?_, others, box⟩
  rw [floor]
  refine Floor.eq_of_fields rfl ?_ ?_ ?_ rfl ?_ ?_ ?_ ?_ ?_ ?_ <;> simp

end Statements

/-- Settles O50: the decisions of an evaluation, a box without a bed reading, and the end of a day. -/
theorem boxEvaluatesAndEndsDays : Obligations.BoxEvaluatesAndEndsDays := by
  intro s n awake
  refine ⟨fun due held => ⟨fun running usable calm => ?_, fun state => ?_, fun running none => ?_⟩,
    fun due running length => ?_⟩
  · obtain ⟨p, pos⟩ := Option.isSome_iff_exists.mp held
    rw [fields_of pos]
    exact exec_box_decides awake due (boxEvaluate_running running usable calm) (fanDecision_running pos running usable)
  · obtain ⟨p, pos⟩ := Option.isSome_iff_exists.mp held
    rw [fields_of pos]
    have resting : s.floor.boxes[n].ctx.state = .held ∨ s.floor.boxes[n].ctx.state = .done ∨
        s.floor.boxes[n].ctx.state = .discharging := by simpa using state
    exact exec_box_decides awake due (boxEvaluate_resting resting) (fanDecision_resting pos resting)
  · obtain ⟨t, runs, took, told⟩ := exec_due_works awake due (op := fun e => boxEvaluate e n) rfl
    have ctx (w : PlantUnit) : (boxEvaluate s.env n s.floor).ctx w =
        if w = .box n then (s.floor.ctx w).enterHeld .point .running else s.floor.ctx w := by
      rw [boxEvaluate_unread running none, reofferFan_ctx, boxRound_ctx, holdBox_ctx]
    have only : s.floor.OnlyUnit (.box n) (boxEvaluate s.env n s.floor) :=
      ⟨fun w other => (ctx w).trans (if_neg other), by simp, by simp, by simp⟩
    exact ⟨t, runs, took, only.told told, (told.ctx (.box n)).trans ((ctx _).trans (if_pos rfl))⟩
  · obtain ⟨t, runs, took, told⟩ := exec_due_works awake due (op := fun e => dayEnded e n) rfl
    have past : DayOver s.floor n := ⟨running, length⟩
    have only : s.floor.OnlyUnit (.box n) (dayEnded s.env n s.floor) :=
      ⟨fun w other => dayEnded_others past other, by simp, by simp, by simp⟩
    have box : t.floor.boxAt n = (dayEnded s.env n s.floor).boxAt n := boxAt_congr told.boxes
    refine ⟨t, runs, took, only.told told, ?_, ?_⟩
    · exact (congrArg Box.turnClock box).trans (dayEnded_turnClock past)
    · have ctx := dayEnded_ctx (e := s.env) past
      rw [← box] at ctx
      exact ctx

end Sys2Proof.Machine

/-! SUPPORT. The request queue of the arbiter and its grants (R157 to R161): O51. -/

namespace Sys2Proof.Machine

/-! ### The order of the queue -/

section Order

variable {r x y z : Request} {l : List Request} {n : Fin 12}

theorem before_iff : r.before x = true ↔ r.StandsBefore x := by
  simp [Request.before, Request.StandsBefore]

theorem standsBefore_trans (first : x.StandsBefore y) (second : y.StandsBefore z) : x.StandsBefore z := by
  obtain ⟨a, b⟩ | ⟨a, b⟩ := first <;> obtain ⟨c, d⟩ | ⟨c, d⟩ := second
  · exact absurd c (by simp [b])
  · exact .inl ⟨a, c.symm.trans b⟩
  · exact .inl ⟨a.trans c, d⟩
  · exact .inr ⟨a.trans c, b.trans d⟩

/-- Of two requests under different numbers one stands before the other. -/
theorem standsBefore_total (apart : x.number ≠ r.number) (after : ¬r.StandsBefore x) : x.StandsBefore r := by
  obtain ⟨box, urgent, number⟩ := r
  obtain ⟨box', urgent', number'⟩ := x
  simp only [Request.StandsBefore, not_or, not_and] at apart after ⊢
  cases urgent <;> cases urgent' <;> simp_all <;> omega

theorem mem_insertRequest : x ∈ insertRequest r l ↔ x = r ∨ x ∈ l := by
  induction l with
  | nil => simp [insertRequest]
  | cons y l ih =>
    simp only [insertRequest]
    split
    · simp
    · simp only [List.mem_cons, ih]
      tauto

/-- A relation that holds between the new request and each of the others, either way round. -/
theorem pairwise_insertRequest {p : Request → Request → Prop} (symm : ∀ a b, p a b → p b a) (with' : ∀ x ∈ l, p r x)
    (pairs : l.Pairwise p) : (insertRequest r l).Pairwise p := by
  induction l with
  | nil => simp [insertRequest]
  | cons y l ih =>
    rw [List.pairwise_cons] at pairs
    simp only [insertRequest]
    split
    · exact List.pairwise_cons.mpr ⟨with', List.pairwise_cons.mpr pairs⟩
    · refine List.pairwise_cons.mpr ⟨fun x mem => ?_, ih (fun x mem => with' x (List.mem_cons_of_mem _ mem)) pairs.2⟩
      obtain rfl | mem := mem_insertRequest.mp mem
      · exact symm _ _ (with' y List.mem_cons_self)
      · exact pairs.1 x mem

/-- R158: a request under a number of its own takes its place in the order. -/
theorem order_insertRequest (apart : ∀ x ∈ l, x.number ≠ r.number) (order : l.Pairwise Request.StandsBefore) :
    (insertRequest r l).Pairwise Request.StandsBefore := by
  induction l with
  | nil => simp [insertRequest]
  | cons y l ih =>
    rw [List.pairwise_cons] at order
    simp only [insertRequest]
    split
    · next first =>
      have here := before_iff.mp first
      refine List.pairwise_cons.mpr ⟨fun x mem => ?_, List.pairwise_cons.mpr order⟩
      obtain rfl | later := List.mem_cons.mp mem
      · exact here
      · exact standsBefore_trans here (order.1 x later)
    · next behind =>
      refine List.pairwise_cons.mpr ⟨fun x mem => ?_, ih (fun x mem => apart x (List.mem_cons_of_mem _ mem)) order.2⟩
      obtain rfl | mem := mem_insertRequest.mp mem
      · exact standsBefore_total (apart y List.mem_cons_self) fun h => behind (before_iff.mpr h)
      · exact order.1 x mem

theorem insertRequest_filter (own : r.box = n) : (insertRequest r l).filter (·.box != n) = l.filter (·.box != n) := by
  induction l with
  | nil => simp [insertRequest, own]
  | cons y l ih =>
    simp only [insertRequest]
    split
    · simp [own]
    · simp only [List.filter_cons, ih]

theorem insertRequest_find (own : r.box = n) (absent : ∀ x ∈ l, x.box ≠ n) :
    (insertRequest r l).find? (·.box == n) = some r := by
  induction l with
  | nil => simp [insertRequest, own]
  | cons y l ih =>
    simp only [insertRequest]
    split
    · simp [own]
    · have other : (y.box == n) = false := by simpa using absent y List.mem_cons_self
      rw [List.find?_cons, other]
      exact ih fun x mem => absent x (List.mem_cons_of_mem _ mem)

/-! ### The renumbering -/

theorem renumber_eq (k : Nat) (l : List Request) :
    renumber k l = (l.zipIdx k).map fun q => { q.1 with number := q.2 } := by
  induction l generalizing k with
  | nil => rfl
  | cons y l ih => simp [renumber, ih]

theorem mem_renumber {k : Nat} (mem : x ∈ renumber k l) :
    ∃ y ∈ l, x = { y with number := x.number } ∧ k ≤ x.number ∧ x.number < k + l.length := by
  induction l generalizing k with
  | nil => cases mem
  | cons y l ih =>
    simp only [renumber, List.mem_cons] at mem
    obtain rfl | mem := mem
    · exact ⟨y, List.mem_cons_self, rfl, Nat.le_refl _, by simp⟩
    · obtain ⟨z, there, same, low, high⟩ := ih mem
      exact ⟨z, List.mem_cons_of_mem _ there, same, by omega, by simp only [List.length_cons]; omega⟩

theorem order_renumber (k : Nat) (order : l.Pairwise Request.StandsBefore) : (renumber k l).Pairwise Request.StandsBefore := by
  induction l generalizing k with
  | nil => exact .nil
  | cons y l ih =>
    rw [List.pairwise_cons] at order
    refine List.pairwise_cons.mpr ⟨fun x mem => ?_, ih (k + 1) order.2⟩
    obtain ⟨z, there, same, low, -⟩ := mem_renumber mem
    have urgent : x.urgent = z.urgent := by rw [same]
    obtain ⟨a, b⟩ | ⟨a, -⟩ := order.1 z there
    · exact .inl ⟨a, urgent.trans b⟩
    · exact .inr ⟨a.trans urgent.symm, Nat.lt_of_lt_of_le (Nat.lt_succ_self k) low⟩

theorem boxes_renumber (k : Nat) (boxes : l.Pairwise fun x y => x.box ≠ y.box) :
    (renumber k l).Pairwise fun x y => x.box ≠ y.box := by
  induction l generalizing k with
  | nil => exact .nil
  | cons y l ih =>
    rw [List.pairwise_cons] at boxes
    refine List.pairwise_cons.mpr ⟨fun x mem => ?_, ih (k + 1) boxes.2⟩
    obtain ⟨z, there, same, -⟩ := mem_renumber mem
    have box : x.box = z.box := by rw [same]
    rw [box]
    exact boxes.1 z there

theorem numbers_renumber (k : Nat) (l : List Request) : (renumber k l).Pairwise fun x y => x.number ≠ y.number := by
  induction l generalizing k with
  | nil => exact .nil
  | cons y l ih =>
    refine List.pairwise_cons.mpr ⟨fun x mem => ?_, ih (k + 1)⟩
    obtain ⟨-, -, -, low, -⟩ := mem_renumber mem
    exact Nat.ne_of_lt low

end Order

/-! ### Requests that join, move back or become urgent -/

section Joins

variable {a a' : Arbiter} {n : Fin 12} {urgent : Bool} {q : Request}

theorem readyCounter_eq (a : Arbiter) : a.readyCounter = { a with queue := a.numbered, counter := a.numberGiven } := by
  simp only [Arbiter.readyCounter, Arbiter.numbered, Arbiter.numberGiven, renumber_eq]
  split <;> rfl

theorem readyCounter_ordered (ordered : a.Ordered) : a.readyCounter.Ordered := by
  obtain ⟨order, boxes, numbers, below⟩ := ordered
  simp only [Arbiter.readyCounter]
  split
  · refine ⟨order_renumber 0 order, boxes_renumber 0 boxes, numbers_renumber 0 _, fun r mem => ?_⟩
    obtain ⟨-, -, -, -, high⟩ := mem_renumber mem
    simpa using high
  · exact ⟨order, boxes, numbers, below⟩

theorem mem_without {r : Request} : r ∈ a.without n ↔ r ∈ a.queue ∧ r.box ≠ n := by simp [Arbiter.without]

theorem without_ordered (ordered : a.Ordered) : (a.drop n).Ordered := by
  obtain ⟨order, boxes, numbers, below⟩ := ordered
  exact ⟨order.filter _, boxes.filter _, numbers.filter _, fun r mem => below r (List.mem_of_mem_filter mem)⟩

theorem without_filter (a : Arbiter) (n : Fin 12) : (a.without n).filter (·.box != n) = a.queue.filter (·.box != n) := by
  simp [Arbiter.without, List.filter_filter]

/-- The queue and the counter decide whether an arbiter is in order. -/
theorem ordered_congr (queue : a'.queue = a.queue) (counter : a'.counter = a.counter) (ordered : a.Ordered) : a'.Ordered := by
  obtain ⟨order, boxes, numbers, below⟩ := ordered
  exact ⟨queue ▸ order, queue ▸ boxes, queue ▸ numbers, fun r mem => counter ▸ below r (queue ▸ mem)⟩

/-- A request of box `n` under a number of its own, put in its place. -/
theorem ordered_insert {r : Request} {k : Nat} (ordered : (a.drop n).Ordered) (own : r.box = n)
    (apart : ∀ x ∈ a.without n, x.number ≠ r.number) (below : ∀ x ∈ a.without n, x.number < k) (given : r.number < k) :
    ({ a with queue := insertRequest r (a.without n), counter := k } : Arbiter).Ordered := by
  obtain ⟨order, boxes, numbers, -⟩ := ordered
  refine ⟨order_insertRequest apart order, pairwise_insertRequest (fun _ _ h => h.symm) (fun x mem => ?_) boxes,
    pairwise_insertRequest (fun _ _ h => h.symm) (fun x mem => (apart x mem).symm) numbers, fun x mem => ?_⟩
  · rw [own]
    exact (mem_without.mp mem).2.symm
  · obtain rfl | mem := mem_insertRequest.mp mem
    · exact given
    · exact below x mem

/-- R158: a request that joins. -/
theorem join_atBack (a : Arbiter) (n : Fin 12) (urgent : Bool) : a.AtBack (a.join n urgent) n urgent := by
  have ready := readyCounter_eq a
  have queue : a.readyCounter.queue = a.numbered := by rw [ready]
  have counter : a.readyCounter.counter = a.numberGiven := by rw [ready]
  refine ⟨?_, ?_, ?_, fun ordered => ?_⟩
  · rw [← counter]
    exact insertRequest_find rfl fun x mem => (mem_without.mp mem).2
  · rw [← queue]
    exact (insertRequest_filter (r := ⟨n, urgent, a.readyCounter.counter⟩) rfl).trans (without_filter _ n)
  · exact congrArg (· + 1) counter
  · have readied := readyCounter_ordered ordered
    have less (x : Request) (mem : x ∈ a.readyCounter.without n) : x.number < a.readyCounter.counter :=
      readied.below x (mem_without.mp mem).1
    exact ordered_insert (without_ordered readied) rfl (fun x mem => Nat.ne_of_lt (less x mem))
      (fun x mem => Nat.lt_succ_of_lt (less x mem)) (Nat.lt_succ_self _)

theorem atBack_congr {b b' : Arbiter} (back : a.AtBack b n urgent) (queue : b'.queue = b.queue) (counter : b'.counter = b.counter) :
    a.AtBack b' n urgent := by
  obtain ⟨request, others, rises, ordered⟩ := back
  refine ⟨?_, queue ▸ others, counter.trans rises, fun h => ordered_congr queue counter (ordered h)⟩
  rw [Arbiter.request, queue]
  exact request

/-- R157: a request that becomes URGENT. -/
theorem upgrade_upgraded (holds : a.request n = some q) : a.Upgraded (a.upgrade n) n q := by
  have own : q.box = n := by simpa using List.find?_some holds
  have mem : q ∈ a.queue := List.mem_of_find?_eq_some holds
  have upgraded : a.upgrade n = { a with queue := insertRequest { q with urgent := true } (a.without n) } := by
    simp only [Arbiter.upgrade, holds]
  rw [upgraded]
  refine ⟨insertRequest_find own fun x mem => (mem_without.mp mem).2, ?_, rfl, fun ordered => ?_⟩
  · exact (insertRequest_filter (r := { q with urgent := true }) own).trans (without_filter a n)
  · refine ordered_insert (without_ordered ordered) own (fun x inside => ?_) (fun x inside => ordered.below x (mem_without.mp inside).1)
      (ordered.below q mem)
    obtain ⟨inside, other⟩ := mem_without.mp inside
    have symmetric : Std.Symm fun x y : Request => x.number ≠ y.number := ⟨fun _ _ h => h.symm⟩
    have apart : x ≠ q := fun same => other (same ▸ own)
    have numbers : x.number ≠ q.number := ordered.numbers.forall inside mem apart
    exact numbers

theorem upgraded_congr {b b' : Arbiter} (up : a.Upgraded b n q) (queue : b'.queue = b.queue) (counter : b'.counter = b.counter) :
    a.Upgraded b' n q := by
  obtain ⟨request, others, stays, ordered⟩ := up
  refine ⟨?_, queue ▸ others, counter.trans stays, fun h => ordered_congr queue counter (ordered h)⟩
  rw [Arbiter.request, queue]
  exact request

end Joins

end Sys2Proof.Machine

/-! SUPPORT. Turns that are asked for and granted (R152, R157 to R161): O51. -/

namespace Sys2Proof.Machine

section Grants

variable {e : Env} {f g h : Floor} {b : Fin 12} {r : Request}

theorem Floor.FansOnly.ctx (p : f.FansOnly g) (c : Fin 12) : (g.boxAt c).ctx = (f.boxAt c).ctx := by
  rw [p.each c]
  rfl

theorem eligible_congr (p : f.FansOnly g) : eligible e g = eligible e f := by
  funext r
  have ctx : g.boxes[r.box].ctx = f.boxes[r.box].ctx := p.ctx r.box
  simp only [eligible, ctx]

theorem feedbackMet_congr (p : f.FansOnly g) : feedbackMet e g b = feedbackMet e f b := by
  have ctx : g.boxes[b].ctx = f.boxes[b].ctx := p.ctx b
  simp only [feedbackMet, ctx]

/-- The turner may be granted. -/
def Floor.Free (e : Env) (f : Floor) : Prop :=
  (f.arbiter.state = .idle ∨ f.arbiter.state = .parking) ∧ turnerReady e = true

theorem grantDecision_none (none : ¬f.Free e ∨ f.arbiter.queue.find? (eligible e f) = none) : grantDecision e f = f := by
  obtain ⟨same, -⟩ | ⟨r, state, ready, first, -⟩ := grantDecision_cases e f
  · exact same
  · obtain notFree | nobody := none
    · exact absurd ⟨state, ready⟩ notFree
    · cases nobody.symm.trans first

theorem grantDecision_some (free : f.Free e) (first : f.arbiter.queue.find? (eligible e f) = some r) :
    grantDecision e f = enterPreparing e r.box f := by
  obtain ⟨-, notEligible⟩ | ⟨q, -, -, first', grants⟩ := grantDecision_cases e f
  · exact absurd ⟨free.1, free.2, r, first⟩ notEligible
  · obtain rfl := Option.some.inj (first.symm.trans first')
    exact grants

/-- A grant, told by the state that it was made from: `g` is the floor on which it is made. -/
theorem grant_gives {s t : State} (boxes : s.floor.FansOnly g) (faults : g.arbiter.faults = s.floor.arbiter.faults)
    (free : g.Free s.env) (first : g.arbiter.queue.find? (eligible s.env g) = some r)
    (arbiter : t.floor.arbiter = (grantDecision s.env g).arbiter) : s.GrantsTo t r := by
  obtain ⟨w, granted⟩ := enterPreparing_arbiter s.env r.box g
  rw [grantDecision_some free first, granted, feedbackMet_congr boxes, boxes.ctx] at arbiter
  refine ⟨by rw [arbiter]; rfl, by rw [arbiter]; rfl, by rw [arbiter]; exact ⟨rfl, rfl⟩, by rw [arbiter]; exact faults,
    fun unmet => ?_, fun met => ?_⟩
  · rw [arbiter, unmet]
    exact ⟨rfl, rfl⟩
  · rw [arbiter, met]
    exact ⟨rfl, rfl⟩

/-- What a grant decision leaves, told by the state that it was made from: `g` is the floor on which it is made. -/
theorem grant_decides {s t : State} (boxes : s.floor.FansOnly g)
    (asked : g.arbiter = { s.floor.arbiter with queue := g.arbiter.queue, counter := g.arbiter.counter })
    (arbiter : t.floor.arbiter = (grantDecision s.env g).arbiter) :
    (∀ r, s.floor.Free s.env → t.floor.arbiter.queue.find? (eligible s.env s.floor) = some r → s.GrantsTo t r) ∧
      (¬s.floor.Free s.env ∨ t.floor.arbiter.queue.find? (eligible s.env s.floor) = none →
        grantDecision s.env g = g ∧ t.floor.arbiter =
          { s.floor.arbiter with queue := t.floor.arbiter.queue, counter := t.floor.arbiter.counter }) := by
  have state : g.arbiter.state = s.floor.arbiter.state := by rw [asked]
  have faults : g.arbiter.faults = s.floor.arbiter.faults := by rw [asked]
  have queue : t.floor.arbiter.queue = g.arbiter.queue := by rw [arbiter, (grantDecision_grants s.env g).queue]
  have free : g.Free s.env ↔ s.floor.Free s.env := by rw [Floor.Free, Floor.Free, state]
  rw [queue, ← eligible_congr boxes]
  refine ⟨fun r able first => ?_, fun none => ?_⟩
  · exact grant_gives boxes faults (free.mpr able) first arbiter
  · have still := grantDecision_none (none.imp (fun n h => n (free.mp h)) id)
    refine ⟨still, ?_⟩
    rw [arbiter, still]
    exact asked

/-- Floors that the turner and the fans alone have changed. -/
theorem onlyTurns_of (boxes : f.FansOnly g) (eventSeq : g.eventSeq = f.eventSeq) (vessels : g.vessels = f.vessels)
    (channels : g.channels = f.channels) (kilns : g.kilns = f.kilns) (batches : g.batches = f.batches)
    (register : g.register = f.register) (accept : g.acceptCount = f.acceptCount) : f.OnlyTurns g :=
  ⟨Floor.eq_of_fields rfl eventSeq vessels channels rfl rfl kilns batches register accept rfl, boxes.each⟩

/-- R157: the interval of a box that asks. -/
theorem intervalReached_iff (running : (f.boxAt b).ctx.state = .running) (some' : 0 < dayInterval (f.boxAt b).ctx.fields)
    (reached : dayInterval (f.boxAt b).ctx.fields * 60 ≤ (f.boxAt b).turnClock) :
    intervalReached f b = !f.arbiter.hasRequest b := by
  simp only [Floor.boxAt] at running some' reached
  simp only [intervalReached, running, some', reached, decide_true, beq_self_eq_true, Bool.true_and]

/-- A request that joins or becomes URGENT changes the queue and the counter alone. -/
theorem join_eq (a : Arbiter) (n : Fin 12) (urgent : Bool) :
    a.join n urgent = { a with queue := (a.join n urgent).queue, counter := (a.join n urgent).counter } := by
  simp only [Arbiter.join, readyCounter_eq]

theorem upgrade_eq (a : Arbiter) (n : Fin 12) :
    a.upgrade n = { a with queue := (a.upgrade n).queue, counter := (a.upgrade n).counter } := by
  simp only [Arbiter.upgrade]
  cases a.request n <;> rfl

theorem turnIntervalReached_fansOnly (e : Env) (b : Fin 12) (f : Floor) : f.FansOnly (turnIntervalReached e b f) := by
  simp only [turnIntervalReached]
  split
  · exact Floor.FansOnly.trans (g := f.arb (·.join b false)) (.same rfl) (grantDecision_fansOnly e _)
  · exact .same rfl

/-- R157: an urgent box. -/
theorem urgentCondition_of {x : Box} (running : x.ctx.state = .running) (interval : 0 < dayInterval x.ctx.fields)
    (delta : 0 < entryUrgentDelta x.ctx.entry) (usable : (e.bed b).usable = true)
    (hot : dayTarget x.ctx.fields + entryUrgentDelta x.ctx.entry ≤ (e.bed b).value)
    (gap : entryMinGap x.ctx.entry * 60 ≤ x.turnClock) : urgentCondition e b x = true := by
  simp [urgentCondition, running, interval, delta, usable, hot, gap]

/-- R157: the urgent test of an urgent box. -/
theorem urgentTest_urgent (urgent : urgentCondition e b (f.boxAt b) = true) :
    (f.arbiter.request b = none → urgentTest e b f = grantDecision e (f.arb (·.join b true))) ∧
      (∀ q, f.arbiter.request b = some q → q.urgent = false → f.arbiter.grant ≠ some b →
        urgentTest e b f = grantDecision e (f.arb (·.upgrade b))) ∧
      (∀ q, f.arbiter.request b = some q → q.urgent = true ∨ f.arbiter.grant = some b → urgentTest e b f = f) := by
  rw [Floor.boxAt] at urgent
  refine ⟨fun none => ?_, fun q holds calm other => ?_, fun q holds stays => ?_⟩
  · simp only [urgentTest, urgent, none]
    rfl
  · simp only [urgentTest, urgent, holds, if_true]
    exact if_neg (by simp [calm, other])
  · simp only [urgentTest, urgent, holds, if_pos stays]
    rfl

theorem urgentTest_fansOnly (e : Env) (b : Fin 12) (f : Floor) : f.FansOnly (urgentTest e b f) := by
  have arb (op : Arbiter → Arbiter) : f.FansOnly (grantDecision e (f.arb op)) :=
    Floor.FansOnly.trans (g := f.arb op) (.same rfl) (grantDecision_fansOnly e _)
  simp only [urgentTest]
  split
  · split
    · exact arb _
    · split
      · exact .same rfl
      · exact arb _
  · exact .same rfl

/-- R152: an evaluation of a RUNNING box with a usable bed. -/
theorem boxEvaluate_usable (running : (f.boxAt b).ctx.state = .running) (usable : (e.bed b).usable = true) :
    boxEvaluate e b f = reofferFan e b (urgentTest e b (boxRound e b f)) := by
  have read : (e.bed b).quality ≠ .none := by
    intro none
    simp [Point.usable, none] at usable
  simp only [Floor.boxAt] at running
  simp only [boxEvaluate, running, if_neg read]

end Grants

section Statements

variable {s : State} {n : Fin 12}

/-- R157: a turn interval that is reached. -/
theorem exec_interval (awake : s.inReset = false) (due : .turnIntervalReached n ∈ s.due) :
    ∃ t, exec (.turnIntervalReached n) s = .next t ∧ s.TookDue t (.turnIntervalReached n) ∧
      t.floor = turnIntervalReached s.env n s.floor := by
  obtain ⟨t, runs, took, floor⟩ := exec_due_floor awake due (op := fun e => turnIntervalReached e n) rfl
  exact ⟨t, runs, took, floor.trans (tellOwners_still _ _ _ (by simp) (by simp))⟩

/-- A step of the arrival that is work on the floor. -/
theorem exec_now_floor {i : Instr} {op : Env → Floor → Floor} (awake : s.inReset = false)
    (runs : exec i s = .next (takeNow (fun u => u.onFloor op) s)) :
    ∃ t, exec i s = .next t ∧ s.TookNow t ∧ t.floor = tellOwners s.env s.floor s.env (op s.env s.floor) := by
  refine ⟨_, runs.trans (congrArg Host.Outcome.next (takeNow_taken _ s awake)), finish_onFloor_took s op, ?_⟩
  rw [finish_onFloor_floor]

end Statements

/-- Settles O51: the requests that a box makes, and the grant. -/
theorem turnIsAskedAndGranted : Obligations.TurnIsAskedAndGranted := by
  intro s awake lines
  refine ⟨fun n due running some' reached => ?_,
    fun n due running interval delta usable hot gap => ?_, fun none => ?_, fun r free first => ?_⟩
  · obtain ⟨t, runs, took, floor⟩ := exec_interval awake due
    have asks := intervalReached_iff (f := s.floor) (b := n) running some' reached
    have joins : s.floor.FansOnly (s.floor.arb (·.join n false)) := .same rfl
    refine ⟨t, runs, took, ?_, fun absent => ?_, fun present => ?_⟩
    · rw [floor]
      exact onlyTurns_of (turnIntervalReached_fansOnly ..) (by simp) (by simp) (by simp) (by simp) (by simp) (by simp) (by simp)
    · have grants : t.floor = grantDecision s.env (s.floor.arb (·.join n false)) := by
        rw [floor, turnIntervalReached, if_pos (by rw [asks, absent]; rfl)]
      have arbiter := grantDecision_grants s.env (s.floor.arb (·.join n false))
      rw [← grants] at arbiter
      obtain ⟨gives, keeps⟩ := grant_decides (s := s) (t := t) joins (join_eq ..) (by rw [grants])
      refine ⟨atBack_congr (join_atBack ..) arbiter.queue arbiter.counter, ⟨gives, fun none => ?_⟩, fun none => ?_⟩
      · exact (keeps none).2
      · rw [grants, (keeps none).1]
        rfl
    · rw [floor, turnIntervalReached, if_neg (by rw [asks, present]; decide)]
  · obtain ⟨t, runs, took, floor⟩ := exec_due_floor awake due (op := fun e => boxEvaluate e n) rfl
    rw [tellOwners_still _ _ _ (by simp) (by simp), boxEvaluate_usable running usable] at floor
    have round := boxRound_fanOf s.env n s.floor
    have urgent : urgentCondition s.env n ((boxRound s.env n s.floor).boxAt n) = true :=
      (urgentCondition_fan round).trans (urgentCondition_of running interval delta usable hot gap)
    have test := urgentTest_urgent urgent
    have same : (boxRound s.env n s.floor).arbiter = s.floor.arbiter := by simp
    rw [same] at test
    obtain ⟨joins, rises, stays⟩ := test
    have only : s.floor.OnlyTurns t.floor := by
      have boxes := (round.fansOnly.trans (urgentTest_fansOnly s.env n _)).trans (reofferFan_fanOf s.env n _).fansOnly
      rw [floor]
      exact onlyTurns_of boxes (by simp) (by simp) (by simp) (by simp) (by simp) (by simp) (by simp)
    have after : t.floor.arbiter = (urgentTest s.env n (boxRound s.env n s.floor)).arbiter := by
      rw [floor]
      simp
    generalize boxRound s.env n s.floor = g at round same joins rises stays after
    have arb (op : Arbiter → Arbiter) : s.floor.FansOnly (g.arb op) := round.fansOnly.trans (.same rfl)
    refine ⟨t, runs, took, only, fun none => ?_, fun q holds calm other => ?_, fun q holds kept => ?_⟩
    · rw [joins none] at after
      have arbiter := grantDecision_grants s.env (g.arb (·.join n true))
      rw [← after] at arbiter
      have asked : (g.arb (·.join n true)).arbiter = s.floor.arbiter.join n true := congrArg (·.join n true) same
      rw [asked] at arbiter
      obtain ⟨gives, keeps⟩ := grant_decides (s := s) (t := t) (arb _)
        (by rw [asked]; exact join_eq ..) after
      exact ⟨atBack_congr (join_atBack ..) arbiter.queue arbiter.counter, gives, fun none => (keeps none).2⟩
    · rw [rises q holds calm other] at after
      have arbiter := grantDecision_grants s.env (g.arb (·.upgrade n))
      rw [← after] at arbiter
      have asked : (g.arb (·.upgrade n)).arbiter = s.floor.arbiter.upgrade n := congrArg (·.upgrade n) same
      rw [asked] at arbiter
      obtain ⟨gives, keeps⟩ := grant_decides (s := s) (t := t) (arb _)
        (by rw [asked]; exact upgrade_eq ..) after
      exact ⟨upgraded_congr (upgrade_upgraded holds) arbiter.queue arbiter.counter, gives, fun none => (keeps none).2⟩
    · rw [after, stays q holds kept, same]
  · have still : grantDecision s.env s.floor = s.floor := by
      refine grantDecision_none (or_iff_not_imp_left.mpr fun free => List.find?_eq_none.mpr fun r mem able => none ?_)
      exact ⟨not_not.mp free, r, mem, able⟩
    have same : s.onFloor grantDecision = s := by rw [State.onFloor, still]
    exact congrArg Host.Outcome.next ((takeNow_taken _ s awake).trans (by rw [same]; exact finish_of_endInputs lines rfl))
  · obtain ⟨t, runs, took, floor⟩ := exec_now_floor awake (i := .grant) (op := grantDecision) rfl
    rw [tellOwners_still _ _ _ (by simp) (by simp)] at floor
    have grants := grantDecision_grants s.env s.floor
    rw [← floor] at grants
    refine ⟨t, runs, took, ?_, grant_gives (.same rfl) rfl free first (by rw [floor]), grants.queue, grants.counter⟩
    rw [floor]
    exact onlyTurns_of (grantDecision_fansOnly ..) (by simp) (by simp) (by simp) (by simp) (by simp) (by simp) (by simp)

end Sys2Proof.Machine

/-! SUPPORT. A turn from PREPARING to its release (R136, R158 to R163): O52. -/

namespace Sys2Proof.Machine

/-! ### START of a channel (R133) -/

section Doses

variable {e : Env} {f : Floor} {u : PlantUnit} {c : Fin 12} {quantity : Int}

/-- R133: a START that the mask rule lets through. -/
theorem startChannel_begins (owner : e.bank.channelOwner c = some u)
    (passes : pointsFresh e c = true ∨ maskedBefore e c f.channels[c] = false) :
    startChannel e u c quantity f =
      beginDose e c (baseCount quantity) (f.channel c fun x => { x with masked := maskedBefore e c x }) := by
  have lets : (!maskedBefore e c f.channels[c] || pointsFresh e c) = true := by
    obtain fresh | clear := passes
    · rw [fresh, Bool.or_true]
    · rw [clear]
      rfl
  simp only [startChannel, if_pos owner, maskRule_eq, lets, if_true]

/-- R133: a START that the mask rule refuses, or that is not its owner's. -/
theorem startChannel_refuses (refuses : e.bank.channelOwner c ≠ some u ∨
    (pointsFresh e c = false ∧ maskedBefore e c f.channels[c] = true)) :
    ∃ op : Channel → Channel, startChannel e u c quantity f = (f.channel c op, .refused) ∧
      ∀ x, op x = { x with masked := (op x).masked } := by
  by_cases owner : e.bank.channelOwner c = some u
  · obtain ⟨old, masked⟩ := refuses.resolve_left (not_not.mpr owner)
    have shuts : (!maskedBefore e c f.channels[c] || pointsFresh e c) = false := by
      rw [old, masked]
      rfl
    refine ⟨fun x => { x with masked := maskedBefore e c x }, ?_, fun _ => rfl⟩
    simp only [startChannel, if_pos owner, maskRule_eq, shuts]
    rfl
  · refine ⟨id, ?_, fun _ => rfl⟩
    rw [startChannel, if_neg owner, Floor.channel, upd_id]

/-- R133 step 4: the state that a dose is opened in. -/
def openedState (mode : ChannelMode) (demand : Bool) : ChannelState := if mode = .demand ∧ ¬demand then .paused else .active

theorem openChannel_eq (e : Env) (c : Fin 12) (f : Floor) :
    openChannel e c f = enterChannel e c (openedState (e.bank.channelMode c) f.channels[c].demand) f := rfl

/-- R133: a dose of a base count that is not 0. -/
theorem beginDose_accepts {base : Nat} (some' : base ≠ 0) :
    (beginDose e c base f).2 = .accepted ∧ ∃ p, (beginDose e c base f).1.channels = upd f.channels c fun x =>
      (x.dosed base).entered e.second (openedState (e.bank.channelMode c) x.demand) p := by
  have begins : beginDose e c base f = (openChannel e c (f.channel c (Channel.dosed base)), .accepted) := by
    simp only [beginDose, if_neg some']
    rfl
  rw [begins]
  refine ⟨rfl, ?_⟩
  have demand : (f.channel c (Channel.dosed base)).channels[c].demand = f.channels[c].demand := by
    rw [channel_channels, upd_get_self]
    rfl
  obtain ⟨p, entered⟩ := enterChannel_channels e c (openedState (e.bank.channelMode c) f.channels[c].demand)
    (f.channel c (Channel.dosed base))
  refine ⟨p, ?_⟩
  rw [openChannel_eq, demand, entered, channel_channels, upd_upd]
  exact upd_congr _ _ rfl

theorem beginDose_empty : beginDose e c 0 f = (f.channel c (Channel.dosed 0), .terminal) := rfl

/-- R133, R136: what a START leaves of the demand flag. -/
theorem startChannel_demand : (startChannel e u c quantity f).1.channels[c].demand = f.channels[c].demand := by
  by_cases refuses : e.bank.channelOwner c ≠ some u ∨ (pointsFresh e c = false ∧ maskedBefore e c f.channels[c] = true)
  · obtain ⟨op, refused, keeps⟩ := startChannel_refuses (quantity := quantity) refuses
    rw [refused, channel_channels, upd_get_self, keeps]
  · simp only [not_or, not_not, not_and, Bool.not_eq_true] at refuses
    rw [startChannel_begins refuses.1 (by
      cases fresh : pointsFresh e c with
      | true => exact .inl rfl
      | false => exact .inr (refuses.2 fresh))]
    by_cases empty : baseCount quantity = 0
    · rw [empty, beginDose_empty]
      dsimp only
      rw [channel_channels, upd_get_self, channel_channels, upd_get_self]
      rfl
    · obtain ⟨-, p, begun⟩ := beginDose_accepts (e := e) (c := c)
        (f := f.channel c fun x => { x with masked := maskedBefore e c x }) empty
      rw [begun, upd_get_self, channel_channels, upd_get_self, Channel.entered, turned_demand]
      rfl

/-- R131: a base count within the range of a word is taken as it is. -/
theorem baseCount_small (some' : 0 < quantity) (small : quantity < 2 ^ 31) : (baseCount quantity : Int) = quantity := by
  rw [baseCount, if_neg (by omega), if_pos small]
  omega

end Doses

/-! ### The steps of a turn -/

section Turns

variable {e : Env} {f g : Floor} {b : Fin 12} {c : Fin 12}

/-- R162: the floor as TURNING begins, its channels not yet told. -/
def turningBegun (e : Env) (b : Fin 12) (f : Floor) : Floor := f.arb fun a =>
  { a with
    state := .turning, result := .incomplete, timer := some (e.second + entryTurnTimeout (f.boxAt b).ctx.entry * 60) }

theorem enterTurning_unbound (none : e.bank.unitChannel (.box b) = none) : enterTurning e b f = turningBegun e b f := by
  simp only [enterTurning, none]
  rfl

/-- R162: a box's spray channel is told that the turn demands it. -/
def sprayTold (e : Env) (b c : Fin 12) (f : Floor) : Floor := tellDemand e c true (turningBegun e b f)

theorem enterTurning_dry (binds : e.bank.unitChannel (.box b) = some c) (dry : daySpray (f.boxAt b).ctx.fields ≤ 0) :
    enterTurning e b f = sprayTold e b c f := by
  have dry' : daySpray (f.arb fun a =>
    { a with
      state := .turning, result := .incomplete
      timer := some (e.second + entryTurnTimeout f.boxes[b].ctx.entry * 60) }).boxes[b].ctx.fields ≤ 0 := dry
  simp only [enterTurning, binds, if_pos dry']
  rfl

theorem enterTurning_wet (binds : e.bank.unitChannel (.box b) = some c) (wet : 0 < daySpray (f.boxAt b).ctx.fields) :
    (enterTurning e b f).channels =
      (startChannel e (.box b) c (daySpray (f.boxAt b).ctx.fields) (sprayTold e b c f)).1.channels := by
  have wet' : ¬daySpray (f.arb fun a =>
    { a with
      state := .turning, result := .incomplete
      timer := some (e.second + entryTurnTimeout f.boxes[b].ctx.entry * 60) }).boxes[b].ctx.fields ≤ 0 := by
    have : ¬daySpray (f.boxAt b).ctx.fields ≤ 0 := by omega
    exact this
  simp only [enterTurning, binds, if_neg wet']
  split
  · rw [(raiseEvent_frame ..).2.1]
    rfl
  · rfl

theorem enterTurning_arbiter : (enterTurning e b f).arbiter = (turningBegun e b f).arbiter := by
  cases binds : e.bank.unitChannel (.box b) with
  | none => rw [enterTurning_unbound binds]
  | some c =>
    simp only [enterTurning, binds]
    split
    · simp [turningBegun, Floor.arb, Floor.boxAt]
    · split <;> simp [turningBegun, Floor.arb, Floor.boxAt]

/-- R136: the spray channel's record once it is told. -/
theorem sprayTold_channels (e : Env) (b c : Fin 12) (f : Floor) : ∃ p, (sprayTold e b c f).channels =
    upd f.channels c (Channel.told e.second (decide (e.bank.channelMode c = .demand)) true p) := by
  obtain ⟨p, told⟩ := tellDemand_channels e c true (turningBegun e b f)
  exact ⟨p, told⟩

theorem told_demand (second : Nat) (demanding d pending : Bool) (x : Channel) : (x.told second demanding d pending).demand = d := by
  simp only [Channel.told]
  split
  · simp [Channel.entered]
  · split
    · simp [Channel.entered]
    · rfl

theorem enterTurning_demand (binds : e.bank.unitChannel (.box b) = some c) :
    (enterTurning e b f).channels[c].demand = true := by
  have told : (sprayTold e b c f).channels[c].demand = true := by
    obtain ⟨p, channels⟩ := sprayTold_channels e b c f
    rw [channels, upd_get_self, told_demand]
  by_cases dry : daySpray (f.boxAt b).ctx.fields ≤ 0
  · rw [enterTurning_dry binds dry, told]
  · rw [enterTurning_wet binds (by omega), startChannel_demand, told]

/-- R136: what is told to a channel that the turn demands. -/
theorem told_true (second : Nat) (demanding pending : Bool) (x : Channel) :
    (demanding = true → x.state = .paused →
      (x.told second demanding true pending).state = .active ∧ (x.told second demanding true pending).valve = .opened) ∧
      (demanding = false ∨ x.state ≠ .paused → x.told second demanding true pending = { x with demand := true }) := by
  refine ⟨fun mode paused => ?_, fun stays => ?_⟩
  · simp [Channel.told, mode, paused, Channel.entered]
  · rw [Channel.told, if_neg fun h => Bool.noConfusion h.2.2, if_neg fun h => ?_]
    obtain other | other := stays
    · exact Bool.false_ne_true (other.symm.trans h.1)
    · exact other h.2.1

/-- R162: a turn without a spray raises nothing. -/
theorem enterTurning_dry_frame (dry : daySpray (f.boxAt b).ctx.fields ≤ 0) :
    (enterTurning e b f).eventSeq = f.eventSeq ∧ (enterTurning e b f).freeCount = f.freeCount := by
  cases binds : e.bank.unitChannel (.box b) with
  | none =>
    rw [enterTurning_unbound binds]
    exact ⟨rfl, rfl⟩
  | some c =>
    rw [enterTurning_dry binds dry]
    simp [sprayTold, turningBegun]

/-- R133, R162: the channel is asked for the day's litres. -/
theorem sprays_opened (binds : e.bank.unitChannel (.box b) = some c) (owner : e.bank.channelOwner c = some (.box b))
    (fresh : pointsFresh e c = true) (wet : 0 < daySpray (f.boxAt b).ctx.fields)
    (small : daySpray (f.boxAt b).ctx.fields < 2 ^ 31) :
    (enterTurning e b f).channels[c].state = .active ∧
      ((enterTurning e b f).channels[c].base : Int) = daySpray (f.boxAt b).ctx.fields := by
  have base := baseCount_small wet small
  have some' : baseCount (daySpray (f.boxAt b).ctx.fields) ≠ 0 := by omega
  obtain ⟨-, p, begun⟩ := beginDose_accepts (e := e) (c := c)
    (f := (sprayTold e b c f).channel c fun x => { x with masked := maskedBefore e c x }) some'
  have demand : (((sprayTold e b c f).channel c fun x => { x with masked := maskedBefore e c x }).channels[c]).demand = true := by
    obtain ⟨q, told⟩ := sprayTold_channels e b c f
    rw [channel_channels, upd_get_self, told, upd_get_self]
    exact told_demand ..
  rw [enterTurning_wet binds wet, startChannel_begins owner (.inl fresh), begun, upd_get_self, demand]
  have active : openedState (e.bank.channelMode c) true = .active := if_neg (by simp)
  rw [active]
  simp only [Channel.entered, turned_state, turned_base, Channel.dosed]
  exact ⟨trivial, base⟩

/-- R158, R163: from `f` to `g` the turn of box `b` has been released. -/
structure Floor.Released (e : Env) (b : Fin 12) (complete : Bool) (f g : Floor) : Prop where
  request : g.arbiter.hasRequest b = false
  grant : g.arbiter.grant ≠ some b
  shut : ChannelsShut e.bank (.box b) g
  faults : g.arbiter.faults = if complete = true then 0 else f.arbiter.faults
  turnClock : (g.boxAt b).turnClock = if complete = true then 0 else (f.boxAt b).turnClock
  unready : turnerReady e = false → g.arbiter.state = .idle ∧ g.arbiter.grant = none

theorem releaseTurn_released (grant : f.arbiter.grant = some b) (shut : ChannelsShut e.bank (.box b) f) :
    f.Released e b (f.arbiter.result == .complete) (releaseTurn e f) := by
  have grants := releaseTurn_grants (e := e) grant
  refine ⟨?_, ?_, fun c owner => (releaseTurn_openAt e c f).trans (shut c owner), ?_, ?_, fun unready => ?_⟩
  · rw [Arbiter.hasRequest, grants.queue]
    exact released_hasRequest ..
  · exact grants.other (released_hasRequest ..) (by simp [Arbiter.released])
  · rw [grants.faults]
    simp [Arbiter.released]
  · rw [releaseTurn_turnClock grant]
    simp
  · rw [grants.unready unready]
    exact ⟨rfl, rfl⟩

theorem Floor.Released.of_same {h : Floor} {complete : Bool} (p : g.Released e b complete h) (boxes : g.boxes = f.boxes)
    (faults : g.arbiter.faults = f.arbiter.faults) : f.Released e b complete h :=
  ⟨p.request, p.grant, p.shut, faults ▸ p.faults, (boxAt_congr (b := b) boxes) ▸ p.turnClock, p.unready⟩

/-- R163: what is told to the owners leaves a release as it is. -/
theorem Floor.Released.told {h : Floor} {complete : Bool} (p : f.Released e b complete g) (told : g.ToldOnly h) :
    f.Released e b complete h := by
  obtain ⟨request, grant, shut, faults, turnClock, unready⟩ := p
  exact ⟨told.arbiter ▸ request, told.arbiter ▸ grant, fun c owner => (told.channels.each c).shut (shut c owner),
    told.arbiter ▸ faults, (boxAt_congr told.boxes) ▸ turnClock, told.arbiter ▸ unready⟩

/-- R158, R163: the trail of a spray still open. -/
theorem trailExpired_released (grant : f.arbiter.grant = some b) :
    f.Released e b (f.arbiter.result == .complete) (trailExpired e b c f) := by
  have arbiter (n : Int) : (raiseEvent e 29 (6 + b) n (stopSpray e b f)).arbiter = f.arbiter := by simp
  have boxes (n : Int) : (raiseEvent e 29 (6 + b) n (stopSpray e b f)).boxes = f.boxes := by simp
  have shut (n : Int) : ChannelsShut e.bank (.box b) (raiseEvent e 29 (6 + b) n (stopSpray e b f)) := fun d owner =>
    (openAt_of_channels (raiseEvent_frame ..).2.1 d).trans (stopSpray_shut e b f d owner)
  have released := releaseTurn_released (e := e)
    (f := raiseEvent e 29 (6 + b) (stopSpray e b f).channels[c].current (stopSpray e b f)) (by rw [arbiter]; exact grant) (shut _)
  rw [arbiter] at released
  exact released.of_same (boxes _) (by rw [arbiter])

/-- R163: the floor as the turn of box `b` enters RELEASING. -/
def releasingBegun (e : Env) (r : TurnResult) (b : Fin 12) (f : Floor) : Floor := f.arb fun a => { a with
  state := .releasing, result := r, timer := some (e.second + entrySprayTrail (f.boxAt b).ctx.entry) }

/-- R163: a turn that enters RELEASING with its spray still open and a trail to run. -/
theorem enterReleasing_waits {r : TurnResult} (grant : f.arbiter.grant = some b) (sprays : ¬ChannelsShut e.bank (.box b) f)
    (trail : 0 < entrySprayTrail (f.boxAt b).ctx.entry) : enterReleasing e r f = releasingBegun e r b f := by
  have opens : openSpray e b (releasingBegun e r b f) ≠ none := fun none => sprays ((openSpray_none ..).mp none)
  obtain ⟨c, spray⟩ := Option.ne_none_iff_exists'.mp opens
  have notZero : ¬entrySprayTrail f.boxes[b].ctx.entry = 0 := by
    simp only [Floor.boxAt] at trail
    omega
  simp only [releasingBegun, Floor.boxAt] at spray
  simp only [enterReleasing, grant, spray, if_neg notZero]
  rfl

/-- R163: a turn that enters RELEASING with nothing to wait for. -/
theorem enterReleasing_ends {r : TurnResult} (grant : f.arbiter.grant = some b)
    (ends : ChannelsShut e.bank (.box b) f ∨ entrySprayTrail (f.boxAt b).ctx.entry = 0) :
    f.Released e b (r == .complete) (enterReleasing e r f) := by
  have begun : (releasingBegun e r b f).arbiter.grant = some b := grant
  cases spray : openSpray e b (releasingBegun e r b f) with
  | none =>
    have shut : ChannelsShut e.bank (.box b) f := (openSpray_none ..).mp spray
    rw [enterReleasing_released grant shut]
    exact (releaseTurn_released (f := releasingBegun e r b f) begun shut).of_same rfl rfl
  | some c =>
    have sprays : ¬ChannelsShut e.bank (.box b) f := fun shut =>
      absurd ((openSpray_none e b (releasingBegun e r b f)).mpr shut) (by rw [spray]; simp)
    have zero : entrySprayTrail f.boxes[b].ctx.entry = 0 := ends.resolve_left sprays
    have expires : enterReleasing e r f = trailExpired e b c (releasingBegun e r b f) := by
      simp only [releasingBegun, Floor.boxAt] at spray
      simp only [enterReleasing, grant, spray, if_pos zero]
      rfl
    rw [expires]
    exact (trailExpired_released (f := releasingBegun e r b f) begun).of_same rfl rfl

end Turns

section Statements

variable {s t : State} {n : Fin 12}

/-- A released turn, in the terms of the statements. -/
theorem Floor.Released.state {complete : Bool} (p : s.floor.Released s.env n complete t.floor) (tables : t.tables = s.tables) :
    t.floor.arbiter.hasRequest n = false ∧ t.floor.arbiter.grant ≠ some n ∧ t.SprayShut n ∧
      t.floor.arbiter.faults = (if complete = true then 0 else s.floor.arbiter.faults) ∧
      t.floor.boxes[n].turnClock = (if complete = true then 0 else s.floor.boxes[n].turnClock) ∧
      (turnerReady s.env = false → t.floor.arbiter.state = .idle ∧ t.floor.arbiter.grant = none) := by
  refine ⟨p.request, p.grant, ?_, p.faults, p.turnClock, p.unready⟩
  rw [sprayShut_iff, tables]
  exact p.shut

theorem State.TookNow.tables (took : s.TookNow t) : t.tables = s.tables := by rw [took.1]

/-- R161: the turner is reported TURNING at the granted box. -/
theorem turningTest_at {e : Env} {f : Floor} (state : f.arbiter.state = .dispatched) (grant : f.arbiter.grant = some n)
    (turning : e.turnerStatus.usable = true ∧ e.turnerStatus.value = 2 ∧ e.turnerPosition.usable = true ∧
      e.turnerPosition.value = (n : Nat)) : turningTest e f = enterTurning e n f := by
  simp only [turningTest, state, grant, if_pos turning]

end Statements

/-- Settles O52: each step of a turn from PREPARING to the release. -/
theorem turnProceeds : Obligations.TurnProceeds := by
  intro s n awake grant
  refine ⟨fun state met => ?_, fun state usable turning positioned at' => ?_, fun state usable reports => ?_, fun state shut => ?_⟩
  · obtain ⟨t, runs, took, told⟩ := exec_now_works awake (i := .fanFeedbackMet) (op := fanTest) rfl
    have dispatches : fanTest s.env s.floor = enterDispatched s.env n s.floor := by
      rw [fanTest_preparing state grant, met]
      rfl
    obtain ⟨w, arbiter⟩ := enterDispatched_arbiter s.env n s.floor
    refine ⟨t, runs, took, fun u => (told.ctx u).trans (fanTest_ctx u), told.batches.trans (by simp), told.register.trans (by simp),
      ?_, ?_, ?_, told.boxes.trans (by simp)⟩
    all_goals rw [told.arbiter, dispatches, arbiter]
    · exact grant
    · rfl
  · obtain ⟨t, runs, took, floor⟩ := exec_now_floor awake (i := .turnerAtBox) (op := turningTest) rfl
    rw [tellOwners_still _ _ _ (by simp) (by simp)] at floor
    have ctx (u : PlantUnit) : t.floor.ctx u = s.floor.ctx u := by rw [floor, turningTest_ctx]
    have batches : t.floor.batches = s.floor.batches := by rw [floor]; simp
    have register : t.floor.register = s.floor.register := by rw [floor]; simp
    rw [turningTest_at state grant ⟨usable, turning, positioned, at'⟩] at floor
    refine ⟨t, runs, took, ctx, batches, register, ?_, fun c binds => ?_, fun dry => ⟨?_, fun c => ⟨fun other => ?_, fun binds => ?_⟩⟩,
      fun c wet small binds owner fresh => ?_⟩
    · rw [floor]
      exact enterTurning_arbiter
    · rw [floor]
      exact enterTurning_demand binds
    · obtain ⟨eventSeq, free⟩ := enterTurning_dry_frame (e := s.env) (f := s.floor) (b := n) dry
      rw [floor]
      refine Floor.eq_of_fields rfl eventSeq ?_ rfl ?_ rfl ?_ ?_ ?_ ?_ free <;> simp
    · rw [floor]
      cases bound : s.env.bank.unitChannel (.box n) with
      | none =>
        rw [enterTurning_unbound bound]
        rfl
      | some d =>
        obtain ⟨p, told⟩ := sprayTold_channels s.env n d s.floor
        have apart : d ≠ c := fun same => other (same ▸ bound)
        rw [enterTurning_dry bound dry, told, upd_get_ne _ _ apart]
    · obtain ⟨p, told⟩ := sprayTold_channels s.env n c s.floor
      have channel : t.floor.channels[c] = s.floor.channels[c].told s.second (decide (s.env.bank.channelMode c = .demand)) true p := by
        rw [floor, enterTurning_dry binds dry, told, upd_get_self]
        rfl
      obtain ⟨takesUp, stands⟩ := told_true s.second (decide (s.env.bank.channelMode c = .demand)) p s.floor.channels[c]
      rw [channel]
      exact ⟨fun mode => takesUp (decide_eq_true mode), fun stays => stands (stays.imp (fun mode => decide_eq_false mode) id)⟩
    · have sprays := sprays_opened (e := s.env) (f := s.floor) binds owner fresh wet small
      rw [floor]
      exact sprays
  · obtain ⟨t, runs, took, told⟩ := exec_now_works awake (i := .turnerFinished) (op := finishTest) rfl
    have finishes : finishTest s.env s.floor = enterReleasing s.env .complete s.floor := if_pos ⟨state, usable, reports⟩
    refine ⟨t, runs, took, fun u => (told.ctx u).trans (finishTest_ctx u), told.batches.trans (by simp),
      told.register.trans (by simp), fun sprays trail => ?_, fun ends => ?_⟩
    · obtain ⟨t', runs', -, floor⟩ := exec_now_floor awake (i := .turnerFinished) (op := finishTest) rfl
      obtain rfl : t = t' := Host.Outcome.next.inj (runs.symm.trans runs')
      rw [tellOwners_still _ _ _ (by simp) (by simp), finishes,
        enterReleasing_waits (e := s.env) grant sprays trail] at floor
      exact floor
    · have released := enterReleasing_ends (e := s.env) (r := .complete) grant ends
      exact Floor.Released.state (released.told (finishes ▸ told)) took.tables
  · obtain ⟨t, runs, took, told⟩ := exec_now_works awake (i := .release) (op := releaseTest) rfl
    have none : openSpray s.env n s.floor = none := (openSpray_none ..).mpr shut
    have releases : releaseTest s.env s.floor = releaseTurn s.env s.floor := by
      simp only [releaseTest, state, grant, none]
      rfl
    have released := releaseTurn_released (e := s.env) grant shut
    refine ⟨t, runs, took, fun u => (told.ctx u).trans (releaseTest_ctx u), told.batches.trans (by simp),
      told.register.trans (by simp), Floor.Released.state (released.told (releases ▸ told)) took.tables⟩

end Sys2Proof.Machine

/-! SUPPORT. Parking and TURNER_ENABLE (R164, R165, R168): O54. -/

namespace Sys2Proof.Machine

section Commands

variable {e : Env} {f : Floor} {c : TurnerCommand}

/-- R164: one turner command that is offered, and waits where it is refused. -/
theorem offerTurner_one (e : Env) (c : TurnerCommand) (f : Floor) : offerTurner e [c] f = { f with
    queue := (f.queue.offerCommand (turnerCell e c)).1
    arbiter := { f.arbiter with waiting := if (f.queue.offerCommand (turnerCell e c)).2 then [] else [c] } } := by
  cases accepted : (f.queue.offerCommand (turnerCell e c)).2 with
  | true =>
    simp only [offerTurner, offerCommand, accepted, if_true]
    rfl
  | false =>
    simp only [offerTurner, offerCommand, accepted]
    rfl

/-- R164: a step of one command, behind a STOP that still waits. -/
theorem turnerStep_one (e : Env) (c : TurnerCommand) (f : Floor) :
    (.stop ∉ f.arbiter.waiting → turnerStep e [c] f = offerTurner e [c] f) ∧
      (.stop ∈ f.arbiter.waiting → turnerStep e [c] f = f.arb fun a => { a with waiting := [.stop, c] }) := by
  refine ⟨fun free => if_neg ?_, fun waits => if_pos ?_⟩
  · simpa using free
  · simpa using waits

theorem turnerStep_only (e : Env) (c : TurnerCommand) (f : Floor) : ∃ q w,
    turnerStep e [c] f = { f with queue := q, arbiter := { f.arbiter with waiting := w } } := by
  by_cases waits : .stop ∈ f.arbiter.waiting
  · exact ⟨_, _, (turnerStep_one e c f).2 waits⟩
  · exact ⟨_, _, ((turnerStep_one e c f).1 waits).trans (offerTurner_one e c f)⟩

end Commands

/-! ### The parking decision (R168) -/

section Parking

variable {e : Env} {f : Floor}

/-- R168: the floor once an IDLE arbiter has made its parking decision, nothing offered yet. -/
def parkDecided (f : Floor) : Floor := f.arb fun a => { a with parked := true, parkTimer := none }

theorem parkDelayExpiry_decides (idle : f.arbiter.state = .idle) (expired : f.arbiter.parkExpired e.second = true)
    (service : e.bank.inService 20 = true) : parkDelayExpiry e f =
      if e.bank.field 0 0 10 = 1 then
        (turnerStep e [.goto 16] (parkDecided f)).arb fun a => { a with state := .parking, parkOffered := false }
      else if e.bank.field 0 0 10 = 2 then turnerStep e [.goto (e.bank.field 0 0 11)] (parkDecided f)
      else parkDecided f := by
  simp only [parkDelayExpiry, if_pos (And.intro idle expired), if_pos service]
  rfl

/-- R168: the floor of a parking arbiter once PARK has been offered, where the turner is there. -/
def parkOfferedFloor (e : Env) (f : Floor) : Floor :=
  if f.arbiter.parkOffered then f else (turnerNext e .park f).arb fun a => { a with parkOffered := true }

theorem turnerNext_only (e : Env) (c : TurnerCommand) (f : Floor) : ∃ q w,
    turnerNext e c f = { f with queue := q, arbiter := { f.arbiter with waiting := w } } := by
  simp only [turnerNext]
  split
  · exact ⟨_, _, offerTurner_one e c f⟩
  · exact ⟨_, _, rfl⟩

theorem parkOfferedFloor_only (e : Env) (f : Floor) : ∃ q w, parkOfferedFloor e f = { f with
    queue := q, arbiter := { f.arbiter with waiting := w, parkOffered := true } } := by
  simp only [parkOfferedFloor]
  split
  · next offered =>
    refine ⟨f.queue, f.arbiter.waiting, ?_⟩
    rw [← offered]
  · obtain ⟨q, w, next⟩ := turnerNext_only e .park f
    rw [next]
    exact ⟨q, w, rfl⟩

/-- R168: PARK is offered once, behind the commands that wait. -/
theorem parkOfferedFloor_offers (e : Env) (f : Floor) :
    (f.arbiter.parkOffered = true → parkOfferedFloor e f = f) ∧
      (f.arbiter.parkOffered = false → f.arbiter.waiting = [] →
        (parkOfferedFloor e f).queue = (f.queue.offerCommand (turnerCell e .park)).1 ∧
          (parkOfferedFloor e f).arbiter.waiting =
            if (f.queue.offerCommand (turnerCell e .park)).2 = true then [] else [.park]) ∧
      (f.arbiter.parkOffered = false → f.arbiter.waiting ≠ [] →
        (parkOfferedFloor e f).queue = f.queue ∧ (parkOfferedFloor e f).arbiter.waiting = f.arbiter.waiting ++ [.park]) := by
  refine ⟨fun offered => if_pos offered, fun first empty => ?_, fun first waits => ?_⟩
  · simp only [parkOfferedFloor, first, turnerNext, empty, offerTurner_one]
    exact ⟨rfl, rfl⟩
  · have nonempty : f.arbiter.waiting.isEmpty = false := by simpa using waits
    simp only [parkOfferedFloor, first, turnerNext, nonempty]
    exact ⟨rfl, rfl⟩

/-- R168: in PARKING, the turner is reported at position 16 without a fault. -/
theorem parkingTest_there (state : f.arbiter.state = .parking) (positioned : e.turnerPosition.usable = true)
    (at' : e.turnerPosition.value = 16) (usable : e.turnerStatus.usable = true) (sound : statusFault e.turnerStatus.value = false) :
    parkingTest e f = if e.turnerStatus.value = 0 then enterIdle e (parkOfferedFloor e f) else parkOfferedFloor e f := by
  have faultless : e.turnerFaulty = false := by simp [Env.turnerFaulty, sound]
  have offers : (if f.arbiter.parkOffered = false then (turnerNext e .park f).arb fun a => { a with parkOffered := true } else f) =
      parkOfferedFloor e f := by
    simp only [parkOfferedFloor]
    cases f.arbiter.parkOffered <;> rfl
  simp [parkingTest, state, faultless, positioned, at', usable, offers]

/-- R159: an arbiter that enters IDLE without an eligible request stays there. -/
theorem enterIdle_alone (none : ∀ r ∈ f.arbiter.queue, eligible e f r = false) :
    enterIdle e f = f.arb Arbiter.idled :=
  grantDecision_none (.inr (List.find?_eq_none.mpr fun r mem able => Bool.false_ne_true ((none r mem).symm.trans able)))

end Parking

/-! ### TURNER_ENABLE -/

section Enabling

variable {s : State} {fn : Function} {r : Req} {e : Env} {f : Floor}

/-- A request whose work leaves what the owners are told by, and of whose effects the output lines alone may follow. -/
theorem exec_ready_lines (h : s.Ready fn r) {op : State → State}
    (does : ∀ t, s.Arrived t → serveFunction fn { r with fillFirst := false } t = op t)
    (vessels : ∀ t, (op t).floor.vessels = t.floor.vessels) (kilns : ∀ t, (op t).floor.kilns = t.floor.kilns)
    (tables : ∀ t, (op t).tables = t.tables) (points : ∀ t, (op t).points = t.points) (loop : ∀ t, (op t).loop = t.loop) :
    ∃ t, exec (fn.command r) s = .next t ∧ t.LinesFollow ∧ t = { s.afterRequest fn r op with pins := t.pins } := by
  have up (t : State) : (op t).loop.up = t.loop.up := congrArg LoopState.up (loop t)
  have same : finish s (s.afterRequest fn r op) = setLines (s.afterRequest fn r op) := by
    refine finish_quiet _ _ ?_ ?_ ?_ ?_ ?_
    all_goals
      simp only [State.afterRequest, State.takenOff, fillSlot_floor]
      split
    · exact vessels _
    · exact vessels _
    · exact kilns _
    · exact kilns _
    · exact congrArg TableBank.active (tables _)
    · exact congrArg TableBank.active (tables _)
    · exact points _
    · exact points _
    · exact up _
    · exact up _
  refine ⟨setLines (s.afterRequest fn r op), ?_, setLines_follow _, rfl⟩
  rw [exec_ready fn r s h, ← same, State.afterRequest, State.afterRequest, takenOff_congr_arrived s _ _ does]

/-- The arbiter once the turner is enabled, with nothing to grant. -/
def Arbiter.enabled (a : Arbiter) : Arbiter :=
  if a.state = .disabled then { a with faults := 0, state := .idle, timer := none, result := .none } else { a with faults := 0 }

theorem turnerEnable_alone (none : turnerReady e = false ∨ ∀ r ∈ f.arbiter.queue, eligible e f r = false) :
    turnerEnable e f = { f with arbiter := f.arbiter.enabled } := by
  have decides : turnerEnable e f = grantDecision e { f with arbiter := f.arbiter.enabled } := by
    by_cases disabled : f.arbiter.state = .disabled
    · rw [Arbiter.enabled, if_pos disabled]
      exact if_pos disabled
    · rw [Arbiter.enabled, if_neg disabled]
      exact if_neg disabled
  have queue : f.arbiter.enabled.queue = f.arbiter.queue := by
    simp only [Arbiter.enabled]
    split <;> rfl
  rw [decides]
  refine grantDecision_none (none.imp (fun unready free => ?_) fun nobody => List.find?_eq_none.mpr fun r mem able => ?_)
  · exact Bool.false_ne_true (unready.symm.trans free.2)
  · exact Bool.false_ne_true ((nobody r (queue ▸ mem)).symm.trans able)

end Enabling

/-- R164: what a step of one command offers, or leaves to wait behind a STOP. -/
theorem turnerStep_offers (e : Env) (c : TurnerCommand) (f : Floor) :
    (.stop ∉ f.arbiter.waiting →
      (turnerStep e [c] f).queue = (f.queue.offerCommand (turnerCell e c)).1 ∧
        (turnerStep e [c] f).arbiter.waiting = if (f.queue.offerCommand (turnerCell e c)).2 = true then [] else [c]) ∧
      (.stop ∈ f.arbiter.waiting →
        (turnerStep e [c] f).queue = f.queue ∧ (turnerStep e [c] f).arbiter.waiting = [.stop, c]) := by
  obtain ⟨free, waits⟩ := turnerStep_one e c f
  refine ⟨fun none => ?_, fun some' => ?_⟩
  · rw [free none, offerTurner_one]
    exact ⟨rfl, rfl⟩
  · rw [waits some']
    exact ⟨rfl, rfl⟩

/-- Settles O54: the parking decision by the policy, the move to bay 0, and TURNER_ENABLE. -/
theorem turnerParksAndIsEnabled : Obligations.TurnerParksAndIsEnabled := by
  intro s
  refine ⟨fun p awake due idle timer past service => ?_, fun awake parking positioned at' usable => ⟨fun rest none => ?_,
    fun moves => ?_⟩, fun awake lines elsewhere => ?_, fun r h none => ?_⟩
  · obtain ⟨t, runs, took, floor⟩ := exec_due_floor awake due (op := parkDelayExpiry) rfl
    have expired : s.floor.arbiter.parkExpired s.env.second = true := by
      simp only [Arbiter.parkExpired, timer]
      exact decide_eq_true past
    rw [tellOwners_still _ _ _ (by simp) (by simp), parkDelayExpiry_decides idle expired service] at floor
    refine ⟨t, runs, took, ?_⟩
    by_cases policy : s.env.bank.field 0 0 10 = 1
    · have policy' : s.tables.active.field 0 0 10 = 1 := policy
      rw [if_pos policy] at floor
      obtain ⟨q, w, only⟩ := turnerStep_only s.env (.goto 16) (parkDecided s.floor)
      obtain ⟨free, waits⟩ := turnerStep_offers s.env (.goto 16) (parkDecided s.floor)
      refine ⟨?_, ?_, fun other => absurd policy other, fun bay goes => ?_⟩
      · rw [floor, only]
        rfl
      · rw [if_pos policy', if_pos policy', floor, only]
        rfl
      · obtain rfl : bay = 16 := goes.elim And.right fun two => absurd (policy.symm.trans two.1) (by decide)
        have queue : t.floor.queue = (turnerStep s.env [.goto 16] (parkDecided s.floor)).queue := by rw [floor]; rfl
        have waiting : t.floor.arbiter.waiting =
            (turnerStep s.env [.goto 16] (parkDecided s.floor)).arbiter.waiting := by rw [floor]; rfl
        rw [← queue, ← waiting] at free waits
        exact ⟨free, waits⟩
    · have policy' : s.tables.active.field 0 0 10 ≠ 1 := policy
      rw [if_neg policy] at floor
      by_cases two : s.env.bank.field 0 0 10 = 2
      · rw [if_pos two] at floor
        obtain ⟨q, w, only⟩ := turnerStep_only s.env (.goto (s.env.bank.field 0 0 11)) (parkDecided s.floor)
        obtain ⟨free, waits⟩ := turnerStep_offers s.env (.goto (s.env.bank.field 0 0 11)) (parkDecided s.floor)
        refine ⟨?_, ?_, fun _ other => absurd two other, fun bay goes => ?_⟩
        · rw [floor, only]
          rfl
        · rw [if_neg policy', if_neg policy', floor, only, ← idle]
          rfl
        · obtain rfl : bay = s.env.bank.field 0 0 11 := goes.elim (fun one => absurd one.1 policy) And.right
          rw [← floor] at free waits
          exact ⟨free, waits⟩
      · rw [if_neg two] at floor
        refine ⟨?_, ?_, fun _ _ => ?_, fun bay goes => ?_⟩
        · rw [floor]
          rfl
        · rw [if_neg policy', if_neg policy', floor, ← idle]
          rfl
        · exact ⟨(congrArg Floor.queue floor :), (congrArg (·.arbiter.waiting) floor :)⟩
        · exact goes.elim (fun one => absurd one.1 policy) fun other => absurd other.1 two
  · obtain ⟨t, runs, took, floor⟩ := exec_now_floor awake (i := .parkPositionReached) (op := parkingTest) rfl
    have offers := parkOfferedFloor_offers s.env s.floor
    obtain ⟨q, w, only⟩ := parkOfferedFloor_only s.env s.floor
    have tests := parkingTest_there (e := s.env) parking positioned at' usable (by rw [rest]; rfl)
    have alone : enterIdle s.env (parkOfferedFloor s.env s.floor) = (parkOfferedFloor s.env s.floor).arb Arbiter.idled :=
      enterIdle_alone (by rw [only]; exact none)
    rw [tellOwners_still _ _ _ (by simp) (by simp), tests, if_pos rest, alone] at floor
    obtain ⟨same, first, -⟩ := offers
    refine ⟨t, runs, took, ?_, ?_, ?_, ?_, fun offered => ?_, fun unoffered empty => ?_⟩
    · rw [floor, only]
      rfl
    · rw [floor]
      rfl
    · rw [floor, only]
      rfl
    · rw [floor, only]
      rfl
    · rw [same offered] at floor
      exact ⟨(congrArg Floor.queue floor :), (congrArg (·.arbiter.waiting) floor :)⟩
    · obtain ⟨queue, waiting⟩ := first unoffered empty
      exact ⟨(congrArg Floor.queue floor).trans queue, (congrArg (·.arbiter.waiting) floor).trans waiting⟩
  · obtain ⟨t, runs, took, floor⟩ := exec_now_floor awake (i := .parkPositionReached) (op := parkingTest) rfl
    obtain ⟨same, first, later⟩ := parkOfferedFloor_offers s.env s.floor
    obtain ⟨q, w, only⟩ := parkOfferedFloor_only s.env s.floor
    have sound : statusFault s.env.turnerStatus.value = false := by
      obtain one | two := moves
      · rw [one]; rfl
      · rw [two]; rfl
    have notIdle : s.env.turnerStatus.value ≠ 0 := by omega
    have tests := parkingTest_there (e := s.env) parking positioned at' usable sound
    rw [tellOwners_still _ _ _ (by simp) (by simp), tests, if_neg notIdle] at floor
    refine ⟨t, runs, took, ?_, ?_, fun offered => ?_, fun unoffered empty => ?_, fun unoffered waits => ?_⟩
    · rw [floor, only]
    · rw [floor, only]
    · rw [same offered] at floor
      exact ⟨congrArg Floor.queue floor, congrArg (·.arbiter.waiting) floor⟩
    · rw [← floor] at first
      exact first unoffered empty
    · rw [← floor] at later
      exact later unoffered waits
  · have still : parkingTest s.env s.floor = s.floor := if_neg elsewhere
    have same : s.onFloor parkingTest = s := by rw [State.onFloor, still]
    exact congrArg Host.Outcome.next ((takeNow_taken _ s awake).trans (by rw [same]; exact finish_of_endInputs lines rfl))
  · have enables (t : State) (arrived : s.Arrived t) : turnerEnable t.env t.floor =
        { t.floor with arbiter := s.floor.arbiter.enabled } := by
      have arbiter : t.floor.arbiter = s.floor.arbiter := by rw [arrived.floor]
      have able : turnerReady t.env = false ∨ ∀ q ∈ t.floor.arbiter.queue, eligible t.env t.floor q = false := by
        rw [arrived.env, arrived.floor]
        exact none
      rw [turnerEnable_alone able, arbiter]
    obtain ⟨t, runs, lines, same⟩ := exec_ready_lines h
      (op := fun u => ({ u with floor := { u.floor with arbiter := s.floor.arbiter.enabled } } : State).answer .turnerEnable r .ok
        s.floor.arbiter.faults)
      (fun t arrived => by
        have arbiter : t.floor.arbiter = s.floor.arbiter := by rw [arrived.floor]
        have serves : serveFunction .turnerEnable { r with fillFirst := false } t =
            ({ t with floor := turnerEnable t.env t.floor } : State).answer .turnerEnable r .ok t.floor.arbiter.faults := rfl
        rw [serves, enables t arrived, arbiter])
      (fun _ => rfl) (fun _ => rfl) (fun _ => rfl) (fun _ => rfl) fun _ => rfl
    exact ⟨t, runs, lines, same⟩

end Sys2Proof.Machine

/-! SUPPORT. The terminal count of a dosing channel and its report to the owner (R116, R139, R186): O41. -/

namespace Sys2Proof.Machine

/-- R139: `y` is `x` after its terminal count; `auto` is AUTO_REINIT. -/
structure Channel.Terminated (auto : Bool) (x y : Channel) : Prop where
  tc : y.tc = true
  valve : y.valve = .closed
  base : y.base = x.base
  overrun : y.overrun = x.overrun
  reinit : auto = true → y.state = .idle ∧ y.current = x.base
  done : auto = false → y.state = .done ∧ y.current = 0

section Ending

variable {e : Env} {c : Fin 12} {v : Fin 6} {f g : Floor} {auto : Bool} {x y z : Channel}

theorem Channel.Terminated.shut (a : x.Terminated auto y) : y.isOpen = false := by
  cases reinits : auto with
  | true => simp [Channel.isOpen, (a.reinit reinits).1]
  | false => simp [Channel.isOpen, (a.done reinits).1]

theorem Channel.Terminated.settles (a : x.Terminated auto y) (b : y.Settles z) : x.Terminated auto z := by
  rw [b.2 a.shut]
  exact ⟨a.tc, a.valve, a.base, a.overrun, a.reinit, a.done⟩

/-- R139: the floor that the owner's report finds. -/
def terminated (e : Env) (c : Fin 12) (f : Floor) : Floor :=
  (setValve e c .closed f).channel c fun x =>
    if e.bank.autoReinit c then { x with tc := true, state := .idle, current := x.base }
    else { x with tc := true, state := .done, current := 0 }

@[simp] theorem terminated_frame (e : Env) (c : Fin 12) (f : Floor) :
    (terminated e c f).vessels = f.vessels ∧ (terminated e c f).boxes = f.boxes ∧
      (terminated e c f).arbiter = f.arbiter ∧ (terminated e c f).kilns = f.kilns ∧
      (terminated e c f).eventSeq = f.eventSeq := by
  simp [terminated]

theorem terminated_ctx (u : PlantUnit) : (terminated e c f).ctx u = f.ctx u :=
  ctx_congr u (terminated_frame e c f).1 (terminated_frame e c f).2.1 (terminated_frame e c f).2.2.2.1

theorem terminated_channels (e : Env) (c : Fin 12) (f : Floor) :
    ∃ y, f.channels[c].Terminated (e.bank.autoReinit c) y ∧ (terminated e c f).channels = f.channels.set c y := by
  obtain ⟨p, valve⟩ := setValve_channels e c .closed f
  have changed := upd_upd f.channels c (Channel.turned e.second .closed p) fun x =>
    if e.bank.autoReinit c then { x with tc := true, state := .idle, current := x.base }
    else { x with tc := true, state := .done, current := 0 }
  rw [← valve, upd_eq_set, ← channel_channels] at changed
  refine ⟨_, ?_, changed⟩
  cases auto : e.bank.autoReinit c with
  | true => constructor <;> simp
  | false => constructor <;> simp

/-- R139: the terminal count closes the channel, tells its owner and raises DOSE_COMPLETE. -/
theorem terminalCountWith_eq (report : Nat → Floor → Floor) (e : Env) (c : Fin 12) (f : Floor) :
    terminalCountWith report e c f =
      raiseEvent e 20 c f.channels[c].base (report f.channels[c].delivered (terminated e c f)) := by
  obtain ⟨p, valve⟩ := setValve_channels e c .closed f
  have record : (setValve e c .closed f).channels[c] = f.channels[c].turned e.second .closed p := by rw [valve, upd_get_self]
  simp only [terminalCountWith, record, turned_base, terminated, Channel.delivered, turned_current, turned_overrun]

theorem stopFillForHold_settles (e : Env) (v : Fin 6) (f : Floor) : f.Settles (stopFillForHold e v f) := by
  simp only [stopFillForHold]
  split
  · exact (stopUnitChannel_settles e (.vessel v) f).trans (.same (by simp))
  · exact .same rfl

/-- R118: the end of a step that begins no filling settles the channels. -/
theorem endStep_settles (e : Env) (v : Fin 6) (code : Nat) (f : Floor)
    (notFill : ∀ p, boundary e.bank (.vessel v) f.vessels[v].ctx = .next p → stepKind p.fields ≠ .fill) :
    f.Settles (endStep e v code f) := by
  simp only [endStep, endStepWith]
  cases next : boundary e.bank (.vessel v) f.vessels[v].ctx with
  | next p =>
    refine .same ?_
    dsimp only
    rw [enterStepWith_plain (notFill p next)]
    simp
  | gone i =>
    exact (Floor.Settles.same (by simp)).trans (stopFillForHold_settles ..)
  | ended => exact .same (by simp)

theorem kilnTerminal_settles (k : Fin 2) (n : Nat) (f : Floor) : f.Settles (kilnTerminal k n f) := .same (by simp)

/-- R139: the report of a terminal count settles the channels, but where it begins a FILL step. -/
theorem ownerTerminal_settles {n : Nat} (notFill : ∀ v p, reportedOwner e c = some (.vessel v) →
    boundary e.bank (.vessel v) f.vessels[v].ctx = .next p → stepKind p.fields ≠ .fill) :
    f.Settles (ownerTerminal e c n f) := by
  cases owner : reportedOwner e c with
  | none => simp only [ownerTerminal, owner]; exact .same rfl
  | some u =>
    cases u with
    | vessel v =>
      simp only [ownerTerminal, owner, vesselTerminal]
      split
      · have filled : f.Settles (f.vessel v fun x => { x with fill := .complete }) := .same rfl
        refine filled.trans (endStep_settles e v 0 _ fun p next => notFill v p owner ?_)
        rwa [vessel_vessels, upd_get_self] at next
      · exact .same rfl
    | box b => simp only [ownerTerminal, owner]; exact sprayReport_settles e b f
    | kiln k => simp only [ownerTerminal, owner]; exact kilnTerminal_settles k n f

/-- R139: what a terminal count leaves of its channel. -/
theorem terminalCount_terminates (notFill : ∀ v p, reportedOwner e c = some (.vessel v) →
    boundary e.bank (.vessel v) f.vessels[v].ctx = .next p → stepKind p.fields ≠ .fill)
    (after : (terminalCount e c f).Settles g) : f.channels[c].Terminated (e.bank.autoReinit c) g.channels[c] := by
  obtain ⟨y, ends, channels⟩ := terminated_channels e c f
  have record : (terminated e c f).channels[c] = y := by rw [channels, set_get]
  rw [← record] at ends
  have report : (terminated e c f).Settles (ownerTerminal e c f.channels[c].delivered (terminated e c f)) := by
    refine ownerTerminal_settles fun v p owner next => notFill v p owner ?_
    rwa [(terminated_frame e c f).1] at next
  rw [terminalCount, terminalCountWith_eq] at after
  refine ends.settles (((report.trans (.same ?_)).trans after).each c)
  simp

/-- R116: the report to a vessel that fills ends its step. -/
theorem terminalCount_fills (owner : reportedOwner e c = some (.vessel v)) (running : f.vessels[v].ctx.state = .running)
    (kind : stepKind f.vessels[v].ctx.fields = .fill) (filling : f.vessels[v].fill = .filling) :
    ∃ g, g.vessels[v].ctx = f.vessels[v].ctx ∧ (terminalCount e c f).vessels = (endStep e v 0 g).vessels := by
  refine ⟨(terminated e c f).vessel v fun x => { x with fill := .complete }, ?_, ?_⟩
  · rw [vessel_vessels, (terminated_frame e c f).1, upd_get_self]
  · have stands := (terminated_frame e c f).1
    rw [terminalCount, terminalCountWith_eq, (raiseEvent_frame ..).1]
    simp only [ownerTerminal, owner, vesselTerminal, stands]
    rw [if_pos ⟨running, kind, filling⟩]

theorem terminalCount_ctx {u : PlantUnit} (notVessel : ∀ v, reportedOwner e c ≠ some (.vessel v)) :
    (terminalCount e c f).ctx u = f.ctx u := by
  rw [terminalCount, terminalCountWith_eq, raiseEvent_ctx]
  refine Eq.trans ?_ (terminated_ctx (e := e) (c := c) (f := f) u)
  cases owner : reportedOwner e c with
  | none => simp only [ownerTerminal, owner]
  | some w =>
    cases w with
    | vessel v => exact absurd owner (notVessel v)
    | box b => simp only [ownerTerminal, owner, sprayReport_ctx]
    | kiln k => simp only [ownerTerminal, owner, kilnTerminal_ctx]

/-- R186: the report to a kiln that feeds completes its peat. -/
theorem terminalCount_feeds {k : Fin 2} (owner : reportedOwner e c = some (.kiln k)) (feeding : f.kilns[k].peat = .filling) :
    (terminalCount e c f).kilns[k] = { f.kilns[k] with
      peat := .complete
      peatDelivered := f.kilns[k].peatDelivered + f.channels[c].delivered } := by
  have kilns := (terminated_frame e c f).2.2.2.1
  have report : (terminalCount e c f).kilns = (kilnTerminal k f.channels[c].delivered (terminated e c f)).kilns := by
    rw [terminalCount, terminalCountWith_eq]
    simp only [ownerTerminal, owner, raiseEvent_frame]
  rw [report, kilnTerminal, kiln_kilns, kilns, upd_get_self, if_pos feeding]

end Ending

/-- Settles O41: the channel's rest and what the owner does on the report. -/
theorem terminalCountEndsTheDose : Obligations.TerminalCountEndsTheDose := by
  intro s c awake
  refine ⟨fun lines early => ?_, fun isOpen zero => ?_⟩
  · have idle : terminalDue s.floor c = false := by
      rw [Bool.eq_false_iff]
      intro ends
      simp only [terminalDue, Bool.and_eq_true, beq_iff_eq] at ends
      exact early ends
    refine congrArg Host.Outcome.next ((takeNow_taken _ s awake).trans ?_)
    rw [idle]
    exact finish_of_endInputs lines rfl
  · have due : terminalDue s.floor c = true := by
      simp only [terminalDue, isOpen, zero]
      rfl
    have runs : exec (.terminalCount c) s = .next (takeNow (fun u => u.onFloor fun e => terminalCount e c) s) := by
      refine congrArg Host.Outcome.next ((takeNow_taken _ s awake).trans ((takeNow_taken _ s awake).trans ?_).symm)
      rw [due]
      rfl
    obtain ⟨t, execs, took, floor⟩ := exec_now_floor awake runs
    have ends (notFill : ∀ v p, reportedOwner s.env c = some (.vessel v) →
        boundary s.env.bank (.vessel v) s.floor.vessels[v].ctx = .next p → stepKind p.fields ≠ .fill) :
        s.floor.channels[c].Terminated (s.env.bank.autoReinit c) t.floor.channels[c] :=
      terminalCount_terminates notFill (by rw [floor]; exact tellOwners_settles ..)
    have vessels : t.floor.vessels = (terminalCount s.env c s.floor).vessels := by rw [floor, tellOwners_vessels]
    refine ⟨t, execs, took, ?_, ?_, fun notVessel => ⟨?_, fun u => ?_⟩, fun k owner feeding => ?_,
      fun v owner running kind filling => ?_⟩
    · rw [floor]
      simp
    · rw [floor]
      simp
    · obtain ⟨tc, valve, base, overrun, reinit, done⟩ := ends fun v p owner => absurd owner (notVessel v)
      exact ⟨tc, valve, base, overrun, reinit, done⟩
    · rw [floor, tellOwners_ctx, terminalCount_ctx notVessel]
    · have kilns : t.floor.kilns = (terminalCount s.env c s.floor).kilns := by
        rw [floor]
        simp
      have delivered : s.floor.channels[c].delivered = s.floor.channels[c].base + s.floor.channels[c].overrun := by
        simp only [Channel.delivered, zero, Nat.sub_zero]
      rw [kilns, terminalCount_feeds owner feeding, delivered]
    · obtain ⟨g, same, report⟩ := terminalCount_fills (e := s.env) owner running kind filling
      have leaves := endStep_leaves ((Floor.Decides.refl (endStep s.env v 0 g) v).same (vessels.trans report))
      rw [same] at leaves
      obtain ⟨ended, next, gone⟩ := leaves
      refine ⟨fun last => ?_, fun p goes notFill => ?_, fun i lost => ?_⟩
      · obtain ⟨tc, valve, base, overrun, reinit, done⟩ := ends fun w p other goes => by
          obtain rfl : v = w := by simpa using owner.symm.trans other
          exact absurd (last.symm.trans goes) (by simp)
        exact ⟨⟨tc, valve, base, overrun, reinit, done⟩, (ended last).1⟩
      · obtain ⟨tc, valve, base, overrun, reinit, done⟩ := ends fun w q other goes' => by
          obtain rfl : v = w := by simpa using owner.symm.trans other
          obtain rfl : p = q := by simpa using goes.symm.trans goes'
          exact notFill
        exact ⟨⟨tc, valve, base, overrun, reinit, done⟩, next p goes notFill⟩
      · obtain ⟨tc, valve, base, overrun, reinit, done⟩ := ends fun w q other goes => by
          obtain rfl : v = w := by simpa using owner.symm.trans other
          exact absurd (lost.symm.trans goes) (by simp)
        exact ⟨⟨tc, valve, base, overrun, reinit, done⟩, gone i lost⟩

end Sys2Proof.Machine

/-! SUPPORT. The timers of a turn and the faults of the turner (R158, R160 to R165). -/

namespace Sys2Proof.Machine

/-! ### Requests that move back (R158) -/

section Requests

variable {a b : Arbiter} {n : Fin 12} {urgent : Bool}

/-- What a request's place is judged by: the queue and the joining counter before. -/
theorem atBack_from {a' : Arbiter} (queue : a'.queue = a.queue) (counter : a'.counter = a.counter)
    (back : a'.AtBack b n urgent) : a.AtBack b n urgent := by
  have given : a'.numberGiven = a.numberGiven := by rw [Arbiter.numberGiven, queue, counter]; rfl
  have numbered : a'.numbered = a.numbered := by rw [Arbiter.numbered, queue, counter]; rfl
  obtain ⟨request, others, rises, ordered⟩ := back
  exact ⟨given ▸ request, numbered ▸ others, given ▸ rises, fun h => ordered (ordered_congr queue counter h)⟩

/-- R160, R161: `b` is `a` once the request of box `n`, where it has one, is at the back of its class. -/
def Arbiter.Back (a b : Arbiter) (n : Fin 12) : Prop :=
  (∀ q, a.request n = some q → a.AtBack b n q.urgent) ∧ (a.request n = none → b.queue = a.queue)

theorem moveBack_back (a : Arbiter) (n : Fin 12) : a.Back (a.moveBack n) n := by
  refine ⟨fun q holds => ?_, fun none => ?_⟩
  · simp only [Arbiter.moveBack, holds]
    exact join_atBack a n q.urgent
  · simp only [Arbiter.moveBack, none]

theorem back_congr {a' b' : Arbiter} (back : a'.Back b' n) (queue : a'.queue = a.queue) (counter : a'.counter = a.counter)
    (queue' : b.queue = b'.queue) (counter' : b.counter = b'.counter) : a.Back b n := by
  have request : a'.request n = a.request n := by rw [Arbiter.request, queue]; rfl
  obtain ⟨holds, none⟩ := back
  exact ⟨fun q is => atBack_congr (atBack_from queue counter (holds q (request.trans is))) queue' counter',
    fun is => queue'.trans ((none (request.trans is)).trans queue)⟩

theorem moveBack_rest (a : Arbiter) (n : Fin 12) : ∃ queue counter, a.moveBack n = { a with queue := queue, counter := counter } := by
  simp only [Arbiter.moveBack]
  split
  · simp only [Arbiter.join, readyCounter_eq]
    exact ⟨_, _, rfl⟩
  · exact ⟨_, _, rfl⟩

end Requests

/-! ### Faults (R161, R165) -/

section Faults

variable {e : Env} {n : Fin 12} {f g : Floor}

/-- R165: what follows a counted fault: the arbiter is DISABLED at the third, or else enters IDLE. -/
structure Floor.AfterFault (e : Env) (f g : Floor) : Prop where
  queue : g.arbiter.queue = f.arbiter.queue
  counter : g.arbiter.counter = f.arbiter.counter
  faults : g.arbiter.faults = f.arbiter.faults
  disabled : 3 ≤ f.arbiter.faults → g.arbiter.state = .disabled ∧ g.arbiter.grant = f.arbiter.grant
  idle : f.arbiter.faults < 3 → turnerReady e = false → g.arbiter.state = .idle ∧ g.arbiter.grant = f.arbiter.grant
  turnClock : ∀ b, (g.boxAt b).turnClock = (f.boxAt b).turnClock

theorem afterFault_leaves (e : Env) (f : Floor) : f.AfterFault e (afterFault e f) := by
  by_cases third : 3 ≤ f.arbiter.faults
  · have arbiter : (afterFault e f).arbiter = { f.arbiter with state := .disabled, timer := none, result := .none } := by
      rw [afterFault, if_pos third, (raiseEvent_frame ..).2.2.2.1]
      rfl
    have boxes : (afterFault e f).boxes = f.boxes := by
      rw [afterFault, if_pos third, (raiseEvent_frame ..).2.2.1]
      rfl
    refine ⟨?_, ?_, ?_, fun _ => ⟨?_, ?_⟩, fun few => absurd third (by omega), fun b => by rw [boxAt_congr boxes]⟩ <;> rw [arbiter]
  · have enters : afterFault e f = enterIdle e f := if_neg third
    have grants := enterIdle_grants e f
    rw [enters]
    refine ⟨grants.queue, grants.counter, grants.faults, fun many => absurd many third, fun _ unready => ?_,
      (enterIdle_fansOnly e f).turnClock⟩
    rw [grants.unready unready]
    exact ⟨rfl, rfl⟩

theorem Floor.AfterFault.told {h : Floor} (p : f.AfterFault e g) (arbiter : h.arbiter = g.arbiter) (boxes : h.boxes = g.boxes) :
    f.AfterFault e h := by
  obtain ⟨queue, counter, faults, disabled, idle, turnClock⟩ := p
  exact ⟨arbiter ▸ queue, arbiter ▸ counter, arbiter ▸ faults, arbiter ▸ disabled, arbiter ▸ idle,
    fun b => (boxAt_congr boxes) ▸ turnClock b⟩

/-- R165: what a turner fault leaves before the arbiter is DISABLED or IDLE. -/
theorem turnerFault_counted (value : Int) (grant : f.arbiter.grant = some n) :
    ∃ h : Floor, turnerFault e value f = afterFault e h ∧ h.arbiter.grant = none ∧ h.arbiter.hasRequest n = false ∧
      h.arbiter.faults = f.arbiter.faults + 1 ∧ f.FansOnly h := by
  obtain ⟨w, stop⟩ := turnerStop_arbiter e f
  have arbiter : (stopSpray e n (turnerStop e f)).arbiter = { f.arbiter with waiting := w } := by simpa using stop
  refine ⟨boxRound e n (raiseEvent e 30 (6 + n) value
    ((withdraw e n (stopSpray e n (turnerStop e f))).arb fun a => { a.drop n with faults := a.faults + 1 })), ?_, ?_, ?_, ?_, ?_⟩
  · simp only [turnerFault, grant]
  · simp [Floor.arb, withdraw_arbiter, Arbiter.drop]
  · simp [Floor.arb, withdraw_arbiter, Arbiter.hasRequest, Arbiter.drop, Arbiter.without]
  · simp [Floor.arb, withdraw_arbiter, stop, Arbiter.drop]
  · exact Floor.FansOnly.trans (.same (by simp)) (boxRound_fanOf e n _).fansOnly

/-- R160: the grant of a box that has not prepared in time is withdrawn. -/
theorem prepTimeout_expired (state : f.arbiter.state = .preparing) (grant : f.arbiter.grant = some n)
    (ran : f.arbiter.expired e.second = true) :
    ∃ h : Floor, prepTimeout e f = enterIdle e h ∧ h.arbiter = { f.arbiter.moveBack n with
      grant := none, timer := none, result := .none } := by
  refine ⟨boxRound e n (raiseEvent e 25 (6 + n) 0 (withdraw e n (f.arb (·.moveBack n)))), ?_, ?_⟩
  · simp only [prepTimeout, state, grant, ran]
    rfl
  · simp [withdraw_arbiter, Floor.arb]

/-- R161: the floor once a turn that has not begun in time is withdrawn and counted. -/
def startMissed (e : Env) (n : Fin 12) (f : Floor) : Floor :=
  (withdraw e n (turnerStop e f)).arb fun a => { a.moveBack n with faults := a.faults + 1 }

/-- R161: a turn that has not begun in time. -/
theorem startTimeout_expired (state : f.arbiter.state = .dispatched) (grant : f.arbiter.grant = some n)
    (ran : f.arbiter.expired e.second = true) :
    ∃ (h : Floor) (a : Arbiter), startTimeout e f = afterFault e h ∧ a.queue = f.arbiter.queue ∧ a.counter = f.arbiter.counter ∧
      a.grant = none ∧ h.arbiter = { a.moveBack n with faults := f.arbiter.faults + 1 } := by
  obtain ⟨w, stop⟩ := turnerStop_arbiter e f
  have arbiter : (withdraw e n (turnerStop e f)).arbiter =
      { f.arbiter with waiting := w, grant := none, timer := none, result := .none } := by
    rw [withdraw_arbiter, stop]
  refine ⟨boxRound e n (raiseEvent e 26 (6 + n) (startMissed e n f).arbiter.faults (startMissed e n f)),
    (withdraw e n (turnerStop e f)).arbiter, ?_, ?_, ?_, ?_, ?_⟩
  · simp only [startTimeout, state, grant, ran]
    rfl
  · rw [arbiter]
  · rw [arbiter]
  · rw [arbiter]
  · simp [startMissed, Floor.arb, arbiter]

/-- R162: a turn that overruns is broken off. -/
theorem turnOverrun_expired (state : f.arbiter.state = .turning) (grant : f.arbiter.grant = some n)
    (ran : f.arbiter.expired e.second = true) : f.GivesUp e n (turnOverrun e f) := by
  obtain ⟨w, stop⟩ := turnerStop_arbiter e f
  have arbiter : (raiseEvent e 27 (6 + n) 0 (stopSpray e n (turnerStop e f))).arbiter = { f.arbiter with waiting := w } := by
    simpa using stop
  have breaks : turnOverrun e f =
      enterReleasing e .incomplete (raiseEvent e 27 (6 + n) 0 (stopSpray e n (turnerStop e f))) := by
    simp only [turnOverrun, state, grant, ran]
    rfl
  have shut : ChannelsShut e.bank (.box n) (raiseEvent e 27 (6 + n) 0 (stopSpray e n (turnerStop e f))) := fun d owner =>
    (openAt_of_channels (raiseEvent_frame ..).2.1 d).trans (stopSpray_shut e n _ d owner)
  rw [breaks, enterReleasing_released (b := n) (by rw [arbiter]; exact grant) shut]
  refine Floor.GivesUp.of_same (releaseTurn_givesUp (b := n) ?_ ?_) ?_ ?_
  · simp [Floor.arb, stop, grant]
  · simp [Floor.arb]
  · simp
  · simp [Floor.arb, stop]

/-- R163: the spray trail runs out. -/
theorem sprayTrailExpiry_expired (state : f.arbiter.state = .releasing) (grant : f.arbiter.grant = some n)
    (ran : f.arbiter.expired e.second = true) : f.Released e n (f.arbiter.result == .complete) (sprayTrailExpiry e f) := by
  cases spray : openSpray e n f with
  | none =>
    have releases : sprayTrailExpiry e f = releaseTurn e f := by
      simp only [sprayTrailExpiry, state, grant, ran, spray]
      rfl
    rw [releases]
    exact releaseTurn_released grant ((openSpray_none ..).mp spray)
  | some c =>
    have expires : sprayTrailExpiry e f = trailExpired e n c f := by
      simp only [sprayTrailExpiry, state, grant, ran, spray]
      rfl
    rw [expires]
    exact trailExpired_released grant

end Faults

/-! ### The timers as steps -/

section Timers

variable {s : State} {n : Fin 12} {ending : Nat}

theorem State.TookDue.tables {t : State} {i : Instr} (took : s.TookDue t i) : t.tables = s.tables := by rw [took.1]

theorem expired_of (timer : s.floor.arbiter.timer = some ending) (past : ending ≤ s.second) :
    s.floor.arbiter.expired s.env.second = true := by
  simp only [Arbiter.expired, timer]
  exact decide_eq_true past

/-- R223: ALERT# is driven while the arbiter is DISABLED. -/
theorem alertLow_disabled {t : State} (lines : t.LinesFollow) (awake : t.inReset = false)
    (disabled : t.floor.arbiter.state = .disabled) : t.pins.alertLow = true :=
  alertLow_of lines awake (by simp [alertConditions, disabled])

/-- R160 to R163: the four timers, each in its state. -/
theorem turnTimers_run_out (s : State) (n : Fin 12) (ending : Nat) (awake : s.inReset = false)
    (grant : s.floor.arbiter.grant = some n) (timer : s.floor.arbiter.timer = some ending) (past : ending ≤ s.second) :
    (s.floor.arbiter.state = .preparing → .prepTimeout ∈ s.due →
      ∃ t, exec .prepTimeout s = .next t ∧ s.TookDue t .prepTimeout ∧ (prepTimeout s.env s.floor).ToldOnly t.floor ∧
        s.floor.arbiter.Back t.floor.arbiter n ∧ t.floor.arbiter.faults = s.floor.arbiter.faults ∧
        (turnerReady s.env = false → t.floor.arbiter.state = .idle ∧ t.floor.arbiter.grant = none)) ∧
    (s.floor.arbiter.state = .dispatched → .startTimeout ∈ s.due →
      ∃ t, exec .startTimeout s = .next t ∧ s.TookDue t .startTimeout ∧ (startTimeout s.env s.floor).ToldOnly t.floor ∧
        s.floor.arbiter.Back t.floor.arbiter n ∧ t.floor.arbiter.faults = s.floor.arbiter.faults + 1 ∧
        (2 ≤ s.floor.arbiter.faults →
          t.floor.arbiter.state = .disabled ∧ t.floor.arbiter.grant = none ∧ t.pins.alertLow = true) ∧
        (s.floor.arbiter.faults < 2 → turnerReady s.env = false →
          t.floor.arbiter.state = .idle ∧ t.floor.arbiter.grant = none)) ∧
    (s.floor.arbiter.state = .turning → .turnOverrun ∈ s.due →
      ∃ t, exec .turnOverrun s = .next t ∧ s.TookDue t .turnOverrun ∧ (turnOverrun s.env s.floor).ToldOnly t.floor ∧
        s.floor.GivesUp s.env n (turnOverrun s.env s.floor) ∧ t.SprayShut n) ∧
    (s.floor.arbiter.state = .releasing → .sprayTrailExpiry ∈ s.due →
      ∃ t, exec .sprayTrailExpiry s = .next t ∧ s.TookDue t .sprayTrailExpiry ∧
        (sprayTrailExpiry s.env s.floor).ToldOnly t.floor ∧
        s.floor.Released s.env n (s.floor.arbiter.result == .complete) t.floor ∧ t.tables = s.tables) := by
  have ran := expired_of timer past
  refine ⟨fun state due => ?_, fun state due => ?_, fun state due => ?_, fun state due => ?_⟩
  · obtain ⟨t, runs, took, told⟩ := exec_due_works awake due (op := prepTimeout) rfl
    obtain ⟨h, enters, arbiter⟩ := prepTimeout_expired (e := s.env) state grant ran
    obtain ⟨queue, counter, rest⟩ := moveBack_rest s.floor.arbiter n
    have grants := enterIdle_grants s.env h
    rw [← enters, ← told.arbiter] at grants
    refine ⟨t, runs, took, told, ?_, ?_, fun unready => ?_⟩
    · refine back_congr (moveBack_back s.floor.arbiter n) rfl rfl (grants.queue.trans ?_) (grants.counter.trans ?_) <;>
        simp [Arbiter.idled, arbiter]
    · rw [grants.faults, arbiter, rest]
      rfl
    · rw [grants.unready unready, arbiter]
      exact ⟨rfl, rfl⟩
  · obtain ⟨t, runs, took, told⟩ := exec_due_works awake due (op := startTimeout) rfl
    obtain ⟨h, a, faults, queue, counter, withdrawn, arbiter⟩ := startTimeout_expired (e := s.env) state grant ran
    obtain ⟨queue', counter', rest⟩ := moveBack_rest a n
    have none : h.arbiter.grant = none := by
      rw [arbiter, rest]
      exact withdrawn
    have counted : h.arbiter.faults = s.floor.arbiter.faults + 1 := by rw [arbiter]
    have leaves := afterFault_leaves s.env h
    rw [← faults] at leaves
    have leaves := leaves.told told.arbiter told.boxes
    refine ⟨t, runs, took, told, ?_, leaves.faults.trans counted, fun many => ?_, fun few unready => ?_⟩
    · refine back_congr (moveBack_back a n) queue counter (leaves.queue.trans ?_) (leaves.counter.trans ?_) <;> rw [arbiter]
    · obtain ⟨disabled, given⟩ := leaves.disabled (by omega)
      exact ⟨disabled, given.trans none, alertLow_disabled took.2 (took.inReset.trans awake) disabled⟩
    · obtain ⟨idle, given⟩ := leaves.idle (by omega) unready
      exact ⟨idle, given.trans none⟩
  · obtain ⟨t, runs, took, told⟩ := exec_due_works awake due (op := turnOverrun) rfl
    refine ⟨t, runs, took, told, turnOverrun_expired state grant ran, ?_⟩
    rw [sprayShut_iff, took.tables]
    exact fun c owner => (told.channels.each c).shut (turnOverrun_shut s.env n s.floor state grant ran c owner)
  · obtain ⟨t, runs, took, told⟩ := exec_due_works awake due (op := sprayTrailExpiry) rfl
    exact ⟨t, runs, took, told, (sprayTrailExpiry_expired state grant ran).told told, took.tables⟩

end Timers

end Sys2Proof.Machine

/-! SUPPORT. The arrival of a SAMPLE cell at the part (R7, R26 to R34, R41): what its point takes, and the floor that its notices find. -/

namespace Sys2Proof.Machine

/-- A state whose insertion queue is `q`. -/
def State.queued (s : State) (q : Queue) : State := { s with floor := s.floor.withQueue q }

section Arrivals

variable {slot : Slot} {ff : Bool} {s : State} {m : Nat} {p : Fin 192}

theorem handleSlot_sample (h : s.Meets slot 1#8) : handleSlot slot s = sampleCellArrives slot s := by
  obtain ⟨present, good, full, kind, source, dest⟩ := h
  simp [handleSlot, handleGood, present, good, full, kind, source, dest, codeMarked]

theorem sampleCellArrives_mapped (entry : s.tables.active.mapFind slot.source slot.func = some m)
    (names : s.tables.active.field 1 m 3 = (p : Nat)) :
    sampleCellArrives slot s = (sampleArrives p slot.value slot.qual s,
      if s.tables.active.field 1 m 4 = 0 then some { slot with code := 0xA5#8 } else none) := by
  simp only [sampleCellArrives, entry, names, indexOf_natCast]
  rfl

/-- R7, R10: a mapped SAMPLE cell is read by its point, and its slot leaves marked or filled. -/
theorem arrive_sample (awake : s.Awake) (steady : s.GoodSteady) (meets : s.Meets slot 1#8)
    (entry : s.tables.active.mapFind slot.source slot.func = some m) (names : s.tables.active.field 1 m 3 = (p : Nat)) :
    ∃ q q' out, arrive slot ff s =
        finish s { (sampleArrives p slot.value slot.qual ((s.counted false).queued q)).queued q' with outPort := some out } ∧
      (s.tables.active.field 1 m 4 = 0 → q = s.floor.queue ∧
        q' = (sampleArrives p slot.value slot.qual ((s.counted false).queued q)).floor.queue ∧
        out = { slot with code := 0xA5#8 }) := by
  rw [arrive_awake slot ff s awake]
  by_cases copies : s.tables.active.field 1 m 4 = 0
  · have handled : handleSlot slot (s.counted false) =
        (sampleArrives p slot.value slot.qual (s.counted false), some { slot with code := 0xA5#8 }) := by
      rw [handleSlot_sample (meets_congr (t := s.counted false) meets rfl rfl),
        sampleCellArrives_mapped (s := s.counted false) entry names]
      exact congrArg (Prod.mk _) (if_pos copies)
    rw [passSlot_forward slot ff s _ (meets_good meets) steady _ handled]
    exact ⟨s.floor.queue, _, _, rfl, fun _ => ⟨rfl, rfl, rfl⟩⟩
  · have handled (t : State) (tables : t.tables = s.tables) (node : t.loop.node = s.loop.node) :
        handleSlot slot t = (sampleArrives p slot.value slot.qual t, none) := by
      rw [handleSlot_sample (meets_congr meets tables node),
        sampleCellArrives_mapped (by rw [tables]; exact entry) (by rw [tables]; exact names), tables, if_neg copies]
    rw [passSlot_takenOff slot ff s (meets_good meets) steady _ fun t tables node _ _ _ _ _ _ _ => handled t tables node,
      State.takenOff]
    split
    · dsimp only
      rw [fillSlot_fields]
      exact ⟨_, _, _, rfl, fun other => absurd other copies⟩
    · dsimp only
      rw [fillSlot_fields]
      exact ⟨s.floor.queue, _, _, rfl, fun other => absurd other copies⟩

end Arrivals

/-! ### Taking a sample (R28 to R34) -/

section Samples

variable {s : State} {p : Fin 192} {raw : Int} {suspect : Bool}

/-- The environment once point `p` has taken the record `x`. -/
def State.sampledEnv (s : State) (p : Fin 192) (x : Point) : Env := { s.env with points := s.points.set p x }

/-- R34: the floor that a sample's notices find: the return of a STALE point has been announced. -/
def backFloor (e : Env) (p : Nat) (stale : Bool) (f : Floor) : Floor := if stale then backNotice e p f else f

/-- R41: the answers to the requesters of a point. -/
theorem pollAnswered_eq (p : Fin 192) (s : State) :
    ∃ polls q, pollAnswered p s = { s with polls := polls, floor := s.floor.withQueue q } ∧
      (pollFor s p = none → q = s.floor.queue) := by
  simp only [pollAnswered]
  split
  · next i found =>
    refine ⟨(answerPoll i s).polls, (answerPoll i s).floor.queue, ?_, fun none => absurd (found.symm.trans none) (by simp)⟩
    cases entry : s.polls[i] with
    | none => simp only [answerPoll, entry]; rfl
    | some q => rw [answerPoll_entry entry]; rfl
  · exact ⟨s.polls, s.floor.queue, rfl, fun _ => rfl⟩

theorem takeSample_eq (p : Fin 192) (raw : Int) (suspect : Bool) (s : State) :
    let x := takenPoint s.tables.active p raw suspect
    let g := backFloor (s.sampledEnv p x) p (s.points[p].quality == .stale) s.floor
    ∃ polls q, takeSample p raw suspect s = { s with
        points := s.points.set p x, polls := polls, floor := sampleNotice (s.sampledEnv p x) p (g.withQueue q) } ∧
      (pollFor s p = none → q = g.queue) := by
  intro x g
  have back : (if s.points[p].quality == .stale then
      ({ s with points := s.points.set p x } : State).onFloor fun e => backNotice e p else { s with points := s.points.set p x }) =
      { s with points := s.points.set p x, floor := g } := by
    simp only [g, backFloor]
    split <;> rfl
  obtain ⟨polls, q, answers, unasked⟩ := pollAnswered_eq p ({ s with points := s.points.set p x, floor := g } : State)
  refine ⟨polls, q, ?_, unasked⟩
  simp only [takeSample]
  rw [back, answers]
  rfl


/-- R28 to R30: the record that a point takes. -/
theorem takenPoint_eq (b : Bank) (p : Nat) (raw : Int) (suspect : Bool) :
    takenPoint b p raw suspect =
      let v := (raw * clamp (-32768) 32767 (b.field 2 p 1)).fdiv 256 + b.field 2 p 2
      let c := clamp (min (b.field 2 p 3) (b.field 2 p 4)) (max (b.field 2 p 3) (b.field 2 p 4)) v
      if b.field 2 p 0 = 1 then ⟨raw, .fresh, false, suspect, 0⟩ else ⟨c, .fresh, c != v, suspect, 0⟩ := by
  by_cases total : b.field 2 p 0 = 1
  · simp [takenPoint, Bank.isTotal, total]
  · simp only [takenPoint, Bank.isTotal, beq_eq_false_iff_ne.mpr total, if_neg total]
    rfl

/-- The event of a mapped SAMPLE cell of a usable status that has come to `t`: its point took `x`; `q`, `q₁` and `q₂` are the
insertion queues that the announcement, the notices and the event's end find. -/
structure State.Sampled (s t : State) (p : Fin 192) (x : Point) (q q₁ q₂ : Queue) : Prop where
  lines : t.LinesFollow
  frame : t = { s.counted false with
    points := s.points.set p x, polls := t.polls, outPort := t.outPort, floor := t.floor, pins := t.pins }
  floor : t.floor = tellOwners s.env s.floor (s.sampledEnv p x)
    ((sampleNotice (s.sampledEnv p x) p
      ((backFloor (s.sampledEnv p x) p (s.points[p].quality == .stale) (s.floor.withQueue q)).withQueue q₁)).withQueue q₂)

/-- The state that a sample has come to, its lines and owners still to follow. -/
def State.sampledTo (s : State) (p : Fin 192) (x : Point) (polls : Vector (Option Poll) 4) (out : Option Slot) (f : Floor) : State :=
  { s.counted false with points := s.points.set p x, polls := polls, outPort := out, floor := f }

theorem finish_sampledTo {x : Point} {q q₁ q₂ : Queue} {polls : Vector (Option Poll) 4} {out : Option Slot} {f : Floor}
    (noticed : f = (sampleNotice (s.sampledEnv p x) p
      ((backFloor (s.sampledEnv p x) p (s.points[p].quality == .stale) (s.floor.withQueue q)).withQueue q₁)).withQueue q₂) :
    s.Sampled (finish s (s.sampledTo p x polls out f)) p x q q₁ q₂ where
  lines := finish_follow ..
  frame := (finish_eq s (s.sampledTo p x polls out f)).trans (by rw [finish_eq]; rfl)
  floor := by
    rw [finish_floor, ← noticed]
    rfl

variable {slot : Slot} {ff : Bool} {m : Nat}

theorem exec_sample (awake : s.Awake) (steady : s.GoodSteady) (meets : s.Meets slot 1#8)
    (entry : s.tables.active.mapFind slot.source slot.func = some m) (names : s.tables.active.field 1 m 3 = (p : Nat))
    (status : slot.qual = 0#8 ∨ slot.qual = 1#8) :
    let x := takenPoint s.tables.active p slot.value.toInt (slot.qual == 1#8)
    ∃ t q q₁ q₂, exec (.sampleCell slot ff) s = .next t ∧ s.Sampled t p x q q₁ q₂ ∧
      (s.tables.active.field 1 m 4 = 0 → t.outPort = some { slot with code := 0xA5#8 } ∧ q = s.floor.queue ∧
        q₂ = (sampleNotice (s.sampledEnv p x) p
          ((backFloor (s.sampledEnv p x) p (s.points[p].quality == .stale) (s.floor.withQueue q)).withQueue q₁)).queue) ∧
      (pollFor s p = none →
        q₁ = (backFloor (s.sampledEnv p x) p (s.points[p].quality == .stale) (s.floor.withQueue q)).queue) := by
  intro x
  obtain ⟨q, q₂, out, arrives, copies⟩ := arrive_sample (ff := ff) awake steady meets entry names
  obtain ⟨polls, q₁, takes, unasked⟩ := takeSample_eq p slot.value.toInt (slot.qual == 1#8) ((s.counted false).queued q)
  have takes' : sampleArrives p slot.value slot.qual ((s.counted false).queued q) =
      takeSample p slot.value.toInt (slot.qual == 1#8) ((s.counted false).queued q) := by
    obtain good | doubtful := status
    · simp only [sampleArrives, good]
      rfl
    · simp only [sampleArrives, doubtful]
      rfl
  rw [takes', takes] at arrives copies
  refine ⟨_, q, q₁, q₂, congrArg Host.Outcome.next arrives,
    finish_sampledTo (s := s) (p := p) (x := x) (polls := polls) (out := some out) rfl, fun same => ?_, unasked⟩
  · obtain ⟨queue, queue', out'⟩ := copies same
    exact ⟨(finish_outPort _ _).trans (congrArg some out'), queue, queue'⟩

/-- R27: a cell of another status. -/
theorem exec_sample_fault (awake : s.Awake) (steady : s.GoodSteady) (meets : s.Meets slot 1#8)
    (entry : s.tables.active.mapFind slot.source slot.func = some m) (names : s.tables.active.field 1 m 3 = (p : Nat))
    (notGood : slot.qual ≠ 0#8) (notSuspect : slot.qual ≠ 1#8) :
    ∃ t, exec (.sampleCell slot ff) s = .next t ∧
      t.points = (if s.points[p].usable then upd s.points p fun x => { x with quality := .stale } else s.points) ∧
      t = { s.counted false with points := t.points, outPort := t.outPort, floor := t.floor, pins := t.pins } := by
  obtain ⟨q, q₂, out, arrives, -⟩ := arrive_sample (ff := ff) awake steady meets entry names
  have faults : sampleArrives p slot.value slot.qual ((s.counted false).queued q) =
      faultSample p ((s.counted false).queued q) := by
    simp only [sampleArrives, if_neg notGood, if_neg notSuspect]
  rw [faults] at arrives
  refine ⟨_, congrArg Host.Outcome.next arrives, ?_, ?_⟩
  · rw [finish_eq]
    simp only [faultSample]
    split
    · next usable => exact (if_pos usable).symm
    · next lost => exact (if_neg lost).symm
  · rw [finish_eq]
    simp only [faultSample]
    split <;> rfl

end Samples

/-! ### The notices of a sample -/

section Notices

variable {e : Env} {f : Floor} {p : Fin 192} {c : Fin 12}

theorem foldl_idle {σ α : Type} {op : σ → α → σ} {l : List α} (idle : ∀ a ∈ l, ∀ s, op s a = s) {s : σ} : l.foldl op s = s := by
  induction l with
  | nil => rfl
  | cons a l ih =>
    rw [List.foldl_cons, idle a List.mem_cons_self]
    exact ih fun b mem => idle b (List.mem_cons_of_mem _ mem)

/-- A fold of which one step alone does anything. -/
theorem foldl_only {σ α : Type} {op : σ → α → σ} {a : α} (idle : ∀ s b, b ≠ a → op s b = s) (l : List α) (nodup : l.Nodup)
    (mem : a ∈ l) (s : σ) : l.foldl op s = op s a := by
  induction l generalizing s with
  | nil => cases mem
  | cons b l ih =>
    obtain ⟨fresh, nodup⟩ := List.nodup_cons.mp nodup
    rw [List.foldl_cons]
    obtain rfl | later := List.mem_cons.mp mem
    · exact foldl_idle fun d inside t => idle t d fun same => fresh (same ▸ inside)
    · rw [idle s b (by rintro rfl; exact fresh later)]
      exact ih nodup later s

theorem channelNotice_other (other : e.bank.meterPoint c ≠ (p : Nat)) : channelNotice e p f c = f := if_neg other

/-- R103: with no transfer waiting a notice does nothing at the Batch Table. -/
theorem batchNotice_idle {q : Nat} (none : f.NoneWaiting) : batchNotice e q f = f := by
  have empty : waitingSlots f = [] := by
    have nobody : (List.finRange 20).filter (fun b => (waitingTransfer f b).isSome) = [] := by
      simp [none _]
    rw [waitingSlots, nobody]
    rfl
  rw [batchNotice, empty]
  rfl

/-- R31: a notice for a point of no interest to the arbiter. -/
theorem arbiterSample_still (notTurner : e.bank.isTurnerPoint p = false) (notFeedback : feedbackPointIs e f p = false) :
    arbiterSample e p f = f := by
  have notStatus : e.bank.isStatusPoint p = false := by
    simp only [Bank.isTurnerPoint, Bank.isStatusPoint] at notTurner ⊢
    simp_all
  simp only [arbiterSample, notTurner, notStatus, notFeedback]
  cases f.arbiter.state <;> simp

/-- R31: a notice for a point that is not the turner's settles the channels. -/
theorem arbiterSample_settles (notTurner : e.bank.isTurnerPoint p = false) : f.Settles (arbiterSample e p f) := by
  refine .same ?_
  have notStatus : e.bank.isStatusPoint p = false := by
    simp only [Bank.isTurnerPoint, Bank.isStatusPoint] at notTurner ⊢
    simp_all
  simp only [arbiterSample, notTurner, notStatus]
  cases f.arbiter.state <;> simp
  split <;> simp

/-- R34: the announcement that a point is back, where the arbiter has nothing to grant by it. -/
theorem backFloor_only {stale : Bool} (unmoved : arbiterQuality e p false f = f) :
    ∃ q n, backFloor e p stale f = { f with queue := q, eventSeq := n } := by
  simp only [backFloor, backNotice, unmoved]
  split
  · split
    · exact ⟨_, _, raiseEvent_only ..⟩
    · exact ⟨_, _, rfl⟩
  · exact ⟨_, _, rfl⟩

theorem backFloor_fresh : backFloor e p false f = f := rfl

/-- R188: a permit is read from no other point than the Ton of its kiln. -/
theorem permit_sampled {s : State} {x : Point} {k : Fin 2} (kilns : f.kilns = s.floor.kilns)
    (notTon : s.tables.active.kilnBinding k 1 ≠ (p : Nat)) : permit s.env s.floor k = permit (s.sampledEnv p x) f k := by
  have ton : (s.sampledEnv p x).ton k = s.env.ton k := by
    simp only [Env.ton, Env.point]
    change (match indexOf 192 (s.tables.active.kilnBinding k 1) with
      | some i => (s.points.set p x)[i] | none => Point.initial) = (match indexOf 192 (s.tables.active.kilnBinding k 1) with
      | some i => s.points[i] | none => Point.initial)
    split
    · next i named =>
      have other : (p : Nat) ≠ i := by
        rintro same
        refine notTon ?_
        simp only [indexOf] at named
        split at named
        · cases named
          simp only at same
          omega
        · cases named
      exact Vector.getElem_set_ne _ _ other
    · rfl
  simp only [permit, kilns, ton]
  rfl

end Notices

end Sys2Proof.Machine

/-! SUPPORT. A status sample that is read as FAULT, and the timers of a turn: O53. -/

namespace Sys2Proof.Machine

section Faulty

variable {s t : State} {p : Fin 192} {x : Point} {n : Fin 12} {q q₁ q₂ : Queue}

/-- The point that a binding names, once it has taken a sample. -/
theorem sampledEnv_point {i : Int} (names : i = (p : Nat)) : (s.sampledEnv p x).point i = x := by
  rw [Env.point, names, indexOf_natCast]
  exact Vector.getElem_set_self _

/-- R148, R165: a status sample that is read as FAULT. -/
theorem sampledEnv_faulty (status : s.tables.active.binding 20 7 = (p : Nat)) (fresh : x.quality = .fresh)
    (fault : statusFault x.value = true) :
    (s.sampledEnv p x).turnerStatus = x ∧ (s.sampledEnv p x).turnerFaulty = true ∧ turnerReady (s.sampledEnv p x) = false := by
  have reads : (s.sampledEnv p x).turnerStatus = x := sampledEnv_point status
  have faulty : (s.sampledEnv p x).turnerFaulty = true := by
    simp only [Env.turnerFaulty, reads, Point.usable, fresh, fault]
    rfl
  refine ⟨reads, faulty, ?_⟩
  rw [turnerReady, faulty]
  simp

/-- R165: the floor that a FAULT sample comes to. -/
theorem State.Sampled.faults (sampled : s.Sampled t p x q q₁ q₂) (grant : s.floor.arbiter.grant = some n)
    (service : s.tables.active.inService 20 = true) (status : s.tables.active.binding 20 7 = (p : Nat))
    (fresh : x.quality = .fresh) (fault : statusFault x.value = true)
    (unmetered : ∀ c : Fin 12, s.tables.active.meterPoint c ≠ (p : Nat)) (none : s.floor.NoneWaiting) :
    ∃ g : Floor, g.arbiter = s.floor.arbiter ∧ g.boxes = s.floor.boxes ∧
      (turnerFault (s.sampledEnv p x) x.value g).ToldOnly t.floor := by
  obtain ⟨reads, faulty, unready⟩ := sampledEnv_faulty (s := s) status fresh fault
  have unmoved : arbiterQuality (s.sampledEnv p x) p false (s.floor.withQueue q) = s.floor.withQueue q := by
    have still : grantDecision (s.sampledEnv p x) (s.floor.withQueue q) = s.floor.withQueue q :=
      grantDecision_none (.inl fun free => Bool.false_ne_true (unready.symm.trans free.2))
    rw [arbiterQuality, still]
    simp
  obtain ⟨q₃, k, back⟩ := backFloor_only (stale := s.points[p].quality == .stale) unmoved
  have floor := sampled.floor
  rw [back] at floor
  have statusPoint : (s.sampledEnv p x).bank.isStatusPoint p = true := by
    simp only [Bank.isStatusPoint, Bool.and_eq_true, beq_iff_eq]
    exact ⟨service, status⟩
  refine ⟨{ s.floor with queue := q₁, eventSeq := k }, rfl, rfl, ?_⟩
  have noticed : sampleNotice (s.sampledEnv p x) p { s.floor with queue := q₁, eventSeq := k } =
      turnerFault (s.sampledEnv p x) x.value { s.floor with queue := q₁, eventSeq := k } := by
    rw [sampleNotice, foldl_idle fun c _ g => channelNotice_other (e := s.sampledEnv p x) (unmetered c),
      batchNotice_idle (f := { s.floor with queue := q₁, eventSeq := k }) (noneWaiting_congr (f := s.floor) rfl none),
      arbiterSample]
    rw [if_pos ⟨by simp [grant], statusPoint, faulty⟩, reads]
  have same : (({ s.floor.withQueue q with queue := q₃, eventSeq := k } : Floor).withQueue q₁) =
      { s.floor with queue := q₁, eventSeq := k } := rfl
  rw [same, noticed] at floor
  rw [floor]
  exact told_only ..

end Faulty

/-- Settles O53: the four timers of a turn, and a turner that reports FAULT. -/
theorem turnTimersRunOut : Obligations.TurnTimersRunOut := by
  refine ⟨fun s n ending awake grant timer past => ?_, ?_⟩
  · obtain ⟨prep, start, overrun, trail⟩ := turnTimers_run_out s n ending awake grant timer past
    refine ⟨fun state due => ?_, fun state due => ?_, fun state due => ?_, fun state due => ?_⟩
    · obtain ⟨t, runs, took, told, back, faults, unready⟩ := prep state due
      exact ⟨t, runs, took, fun u => (told.ctx u).trans (prepTimeout_ctx u), told.batches.trans (by simp),
        told.register.trans (by simp), back, faults, unready⟩
    · obtain ⟨t, runs, took, told, back, faults, many, few⟩ := start state due
      exact ⟨t, runs, took, fun u => (told.ctx u).trans (startTimeout_ctx u), told.batches.trans (by simp),
        told.register.trans (by simp), back, faults, many, few⟩
    · obtain ⟨t, runs, took, told, gives, shut⟩ := overrun state due
      refine ⟨t, runs, took, fun u => (told.ctx u).trans (turnOverrun_ctx u), told.batches.trans (by simp),
        told.register.trans (by simp), ?_, ?_, ?_, ?_, shut⟩
      · rw [told.arbiter]
        exact gives.request
      · rw [told.arbiter]
        exact gives.grant
      · rw [told.arbiter]
        exact gives.faults
      · exact (congrArg Box.turnClock (boxAt_congr (b := n) told.boxes)).trans gives.turnClock
    · obtain ⟨t, runs, took, told, released, tables⟩ := trail state due
      obtain ⟨request, granted, shut, faults, turnClock, -⟩ := released.state tables
      refine ⟨t, runs, took, fun u => (told.ctx u).trans (sprayTrailExpiry_ctx u), told.batches.trans (by simp),
        told.register.trans (by simp), request, granted, shut, fun complete => ?_, fun incomplete => ?_⟩
      · simp only [complete, beq_self_eq_true, if_true] at faults turnClock
        exact ⟨faults, turnClock⟩
      · simp only [beq_eq_false_iff_ne.mpr incomplete] at faults turnClock
        exact ⟨faults, turnClock⟩
  · intro slot ff s m p n awake steady meets b a entry names status total service bound value unmetered notTon none grant
    obtain ⟨t, q, q₁, q₂, runs, sampled, -, -⟩ := exec_sample (ff := ff) awake steady meets entry names status
    rw [takenPoint_eq, if_pos total] at sampled
    have fault : statusFault slot.value.toInt = true := by
      simp only [List.mem_cons, List.not_mem_nil, or_false, not_or] at value
      simp [statusFault, value]
    obtain ⟨g, arbiter, boxes, told⟩ := sampled.faults grant service bound rfl fault unmetered none
    have granted : g.arbiter.grant = some n := by rw [arbiter]; exact grant
    have frame := sampled.frame
    have tables : t.tables = s.tables := by rw [frame]; rfl
    have inReset : t.inReset = s.inReset := by rw [frame]; rfl
    have shut := turnerFault_shut (s.sampledEnv p ⟨slot.value.toInt, .fresh, false, slot.qual == 1#8, 0⟩) slot.value.toInt n g granted
    obtain ⟨h, faulted, withdrawn, request, counted, fans⟩ := turnerFault_counted
      (e := s.sampledEnv p ⟨slot.value.toInt, .fresh, false, slot.qual == 1#8, 0⟩) slot.value.toInt granted
    have unready := (sampledEnv_faulty (s := s) (x := ⟨slot.value.toInt, .fresh, false, slot.qual == 1#8, 0⟩) bound rfl fault).2.2
    have leaves := afterFault_leaves (s.sampledEnv p ⟨slot.value.toInt, .fresh, false, slot.qual == 1#8, 0⟩) h
    rw [← faulted] at leaves
    have leaves := leaves.told told.arbiter told.boxes
    have faults : h.arbiter.faults = s.floor.arbiter.faults + 1 := by rw [counted, arbiter]
    have grantless : t.floor.arbiter.grant = Option.none := by
      by_cases third : 3 ≤ h.arbiter.faults
      · exact (leaves.disabled third).2.trans withdrawn
      · exact (leaves.idle (by omega) unready).2.trans withdrawn
    refine ⟨t, runs, grantless, ?_, leaves.faults.trans faults, ?_, ?_, fun many => ?_, fun few => ?_⟩
    · rw [Arbiter.hasRequest, leaves.queue]
      exact request
    · rw [sprayShut_iff, tables]
      exact fun c owner => (told.channels.each c).shut (shut c owner)
    · have clock := (leaves.turnClock n).trans (fans.turnClock n)
      rw [boxAt_congr boxes] at clock
      exact clock
    · have many' : 2 ≤ s.floor.arbiter.faults := many
      obtain ⟨disabled, -⟩ := leaves.disabled (by omega)
      exact ⟨disabled, alertLow_disabled sampled.lines (inReset.trans awake.1) disabled⟩
    · have few' : s.floor.arbiter.faults < 2 := few
      exact (leaves.idle (by omega) unready).1

end Sys2Proof.Machine

/-! SUPPORT. What a sample counts at the dosing channel that its point meters (R137 to R139), and SAMPLE cells as a whole: O7. -/

namespace Sys2Proof.Machine

/-! ### Metering -/

section Metering

variable {e : Env} {f : Floor} {c : Fin 12} {p : Fin 192} {reading delta l : Nat}

/-- R137: a channel's record with its latest reading. -/
def Channel.read (x : Channel) (reading : Nat) : Channel := { x with lastReading := some reading }

/-- The floor once channel `c` has its latest reading. -/
def readFloor (c : Fin 12) (reading : Nat) (f : Floor) : Floor := f.channel c (·.read reading)

@[simp] theorem readFloor_frame : (readFloor c reading f).vessels = f.vessels ∧ (readFloor c reading f).kilns = f.kilns ∧
    (readFloor c reading f).arbiter = f.arbiter := ⟨rfl, rfl, rfl⟩

theorem readFloor_channel : (readFloor c reading f).channels[c] = f.channels[c].read reading := by
  rw [readFloor, channel_channels, upd_get_self]

/-- R137, R139: the floor once channel `c` has a reading, and its terminal count where one follows. -/
def meteredFloor (e : Env) (c : Fin 12) (reading : Nat) (f : Floor) : Floor :=
  if (meterChannel e c reading f).2 then terminalCount e c (meterChannel e c reading f).1 else (meterChannel e c reading f).1

theorem channelNotice_meters (meters : e.bank.meterPoint c = (p : Nat))
    (reads : (Word.ofValue e.points[p].value).toNat = reading) : channelNotice e p f c = meteredFloor e c reading f := by
  simp only [channelNotice, if_pos meters, reads, meteredFloor]

theorem meteredFloor_batches : (meteredFloor e c reading f).batches = f.batches := by
  simp only [meteredFloor]
  split <;> simp

theorem meteredFloor_counts {g : Floor} (counts : meterChannel e c reading f = (g, false)) : meteredFloor e c reading f = g := by
  simp [meteredFloor, counts]

theorem meteredFloor_terminates {g : Floor} (counts : meterChannel e c reading f = (g, true)) :
    meteredFloor e c reading f = terminalCount e c g := by
  simp [meteredFloor, counts]

theorem meterChannel_first (none : f.channels[c].lastReading = none) :
    meterChannel e c reading f = (readFloor c reading f, false) := by
  simp only [meterChannel, none]
  rfl

theorem meterChannel_flow (last : f.channels[c].lastReading = some l) (forward : (reading + 2 ^ 32 - l) % 2 ^ 32 ≤ 2 ^ 31) :
    meterChannel e c reading f = countFlow e c ((reading + 2 ^ 32 - l) % 2 ^ 32) (readFloor c reading f) := by
  simp only [meterChannel, last, if_pos forward]
  rfl

theorem meterChannel_reset (last : f.channels[c].lastReading = some l) (back : 2 ^ 31 < (reading + 2 ^ 32 - l) % 2 ^ 32) :
    meterChannel e c reading f = (raiseEvent e 22 c reading (readFloor c reading f), false) := by
  simp only [meterChannel, last, if_neg (not_le.mpr back)]
  rfl

theorem countFlow_open (some' : 0 < delta) (isOpen : f.channels[c].isOpen = true) :
    countFlow e c delta f = (f.channel c fun x =>
      { x with current := x.current - delta, overrun := min overrunMax (x.overrun + (delta - x.current)) },
      decide (f.channels[c].current ≤ delta)) := by
  have notZero : delta ≠ 0 := by omega
  simp only [countFlow, if_neg notZero, if_pos isOpen]

theorem countFlow_window {closed : Nat} (some' : 0 < delta) (shut : f.channels[c].isOpen = false)
    (time : f.channels[c].closeTime = some closed) (within : e.second ≤ closed + e.bank.overrunWindow c) :
    countFlow e c delta f = (f.channel c fun x => { x with overrun := min overrunMax (x.overrun + delta) }, false) := by
  have notZero : delta ≠ 0 := by omega
  simp only [countFlow, if_neg notZero, shut, time, if_pos within]
  rfl

theorem countFlow_late (some' : 0 < delta) (shut : f.channels[c].isOpen = false)
    (late : ∀ closed, f.channels[c].closeTime = some closed → closed + e.bank.overrunWindow c < e.second) :
    countFlow e c delta f = (countFlow.uncommanded e c delta f, false) := by
  have notZero : delta ≠ 0 := by omega
  simp only [countFlow, if_neg notZero, shut]
  cases time : f.channels[c].closeTime with
  | none => rfl
  | some closed =>
    have passed : ¬e.second ≤ closed + e.bank.overrunWindow c := not_le.mpr (late closed time)
    simp only [if_neg passed]
    rfl

/-- R138: uncommanded flow sets the note, and raises its event where the note was clear. -/
theorem uncommanded_channels : (countFlow.uncommanded e c delta f).channels = upd f.channels c fun x => { x with note := true } := by
  simp only [countFlow.uncommanded]
  split
  · next noted =>
    refine (upd_id f.channels c).symm.trans (upd_congr _ _ ?_)
    conv_rhs => rw [← noted]
    rfl
  · rw [(raiseEvent_frame ..).2.1]
    rfl

theorem uncommanded_raises (clear : f.channels[c].note = false) :
    countFlow.uncommanded e c delta f = raiseEvent e 23 c delta (f.channel c fun x => { x with note := true }) := by
  simp only [countFlow.uncommanded, clear]
  rfl

end Metering

/-! ### The end of a sample's event -/

section Ends

variable {s t : State} {p : Fin 192} {x : Point} {c : Fin 12} {q q₁ q₂ : Queue} {reading : Nat}

/-- A sample that is of interest to no more than a dosing channel. -/
structure State.MetersOnly (s : State) (p : Fin 192) (c : Fin 12) : Prop where
  meters : s.tables.active.meterPoint c = (p : Nat)
  alone : ∀ d : Fin 12, d ≠ c → s.tables.active.meterPoint d ≠ (p : Nat)
  notTurner : s.tables.active.isTurnerPoint p = false
  notFeedback : ∀ n, s.floor.arbiter.grant = some n → s.tables.active.boxBinding n 3 ≠ (p : Nat)
  notTon : ∀ k : Fin 2, s.tables.active.kilnBinding k 1 ≠ (p : Nat)
  noneWaiting : s.floor.NoneWaiting

/-- R31: the floor that the notices of a sample leave, where only channel `c` hears of it; `g` is the floor that it finds. -/
theorem State.MetersOnly.notices (only : s.MetersOnly p c) (reads : (Word.ofValue x.value).toNat = reading) (q q₁ : Queue) :
    ∃ g : Floor, (∃ k, g = { s.floor with queue := q₁, eventSeq := k }) ∧
      ((s.points[p].quality ≠ .stale) → g = s.floor.withQueue q₁) ∧
      sampleNotice (s.sampledEnv p x) p
          ((backFloor (s.sampledEnv p x) p (s.points[p].quality == .stale) (s.floor.withQueue q)).withQueue q₁) =
        arbiterSample (s.sampledEnv p x) p (meteredFloor (s.sampledEnv p x) c reading g) := by
  obtain ⟨meters, alone, notTurner, -, -, none⟩ := only
  have unmoved : arbiterQuality (s.sampledEnv p x) p false (s.floor.withQueue q) = s.floor.withQueue q := by
    have other : (s.sampledEnv p x).bank.isTurnerPoint p = false := notTurner
    simp only [arbiterQuality, other]
    exact if_neg Bool.false_ne_true
  obtain ⟨q₃, k, back⟩ := backFloor_only (stale := s.points[p].quality == .stale) unmoved
  have value : (s.sampledEnv p x).points[p] = x := Vector.getElem_set_self _
  have noticed : (List.finRange 12).foldl (channelNotice (s.sampledEnv p x) p) { s.floor with queue := q₁, eventSeq := k } =
      meteredFloor (s.sampledEnv p x) c reading { s.floor with queue := q₁, eventSeq := k } :=
    (foldl_only (a := c) (fun g d other => channelNotice_other (e := s.sampledEnv p x) (alone d other)) _
        (List.nodup_finRange 12) (List.mem_finRange c) _).trans
        (channelNotice_meters (e := s.sampledEnv p x) meters (by rw [value]; exact reads))
  refine ⟨{ s.floor with queue := q₁, eventSeq := k }, ⟨k, rfl⟩, fun fresh => ?_, ?_⟩
  · have announced : backFloor (s.sampledEnv p x) p (s.points[p].quality == .stale) (s.floor.withQueue q) = s.floor.withQueue q := by
      rw [beq_eq_false_iff_ne.mpr fresh]
      rfl
    rw [back] at announced
    have seq : k = s.floor.eventSeq := congrArg Floor.eventSeq announced
    rw [seq]
    rfl
  · have same : (({ s.floor.withQueue q with queue := q₃, eventSeq := k } : Floor).withQueue q₁) =
        { s.floor with queue := q₁, eventSeq := k } := rfl
    have idle : (meteredFloor (s.sampledEnv p x) c reading { s.floor with queue := q₁, eventSeq := k }).NoneWaiting :=
      noneWaiting_congr (f := s.floor) meteredFloor_batches none
    rw [back, same, sampleNotice, noticed, batchNotice_idle idle]

/-- A floor that ends the event as it stands: no unit, batch or grant has changed. -/
theorem State.MetersOnly.ends {f : Floor} (only : s.MetersOnly p c) (vessels : f.vessels = s.floor.vessels)
    (kilns : f.kilns = s.floor.kilns) (arbiter : f.arbiter = s.floor.arbiter) (q₂ : Queue) :
    arbiterSample (s.sampledEnv p x) p f = f ∧
      tellOwners s.env s.floor (s.sampledEnv p x) (f.withQueue q₂) = f.withQueue q₂ := by
  obtain ⟨-, -, notTurner, notFeedback, notTon, -⟩ := only
  have feedback : feedbackPointIs (s.sampledEnv p x) f p = false := by
    simp only [feedbackPointIs, arbiter]
    split
    · next n granted => exact beq_eq_false_iff_ne.mpr (notFeedback n granted)
    · rfl
  refine ⟨arbiterSample_still notTurner feedback, ?_⟩
  exact tellOwners_quiet _ _ _ _ vessels kilns fun k => permit_sampled (f := f.withQueue q₂) kilns (notTon k)


/-- What a metered sample's event comes to, where its channel's count takes no terminal count; under the last clause's conditions the
queue is the channel's own. -/
theorem State.Sampled.counts {g : Floor} (sampled : s.Sampled t p x q q₁ q₂) (only : s.MetersOnly p c)
    (noticed : sampleNotice (s.sampledEnv p x) p
      ((backFloor (s.sampledEnv p x) p (s.points[p].quality == .stale) (s.floor.withQueue q)).withQueue q₁) =
        arbiterSample (s.sampledEnv p x) p (meteredFloor (s.sampledEnv p x) c reading g)) {f : Floor}
    (counts : meterChannel (s.sampledEnv p x) c reading g = (f, false)) (vessels : f.vessels = s.floor.vessels)
    (kilns : f.kilns = s.floor.kilns) (arbiter : f.arbiter = s.floor.arbiter) :
    t.floor = f.withQueue q₂ ∧ (q₂ = (sampleNotice (s.sampledEnv p x) p
      ((backFloor (s.sampledEnv p x) p (s.points[p].quality == .stale) (s.floor.withQueue q)).withQueue q₁)).queue → t.floor = f) := by
  obtain ⟨still, told⟩ := only.ends (x := x) vessels kilns arbiter q₂
  have floor : t.floor = f.withQueue q₂ := by
    rw [sampled.floor, noticed, meteredFloor_counts counts, still, told]
  refine ⟨floor, fun own => ?_⟩
  rw [noticed, meteredFloor_counts counts, still] at own
  rw [floor, own]
  rfl

/-- R139: what a metered sample's event leaves of a channel that takes its terminal count. -/
theorem State.Sampled.terminates {g : Floor} (sampled : s.Sampled t p x q q₁ q₂) (only : s.MetersOnly p c)
    (noticed : sampleNotice (s.sampledEnv p x) p
      ((backFloor (s.sampledEnv p x) p (s.points[p].quality == .stale) (s.floor.withQueue q)).withQueue q₁) =
        arbiterSample (s.sampledEnv p x) p (meteredFloor (s.sampledEnv p x) c reading g)) {f : Floor}
    (counts : meterChannel (s.sampledEnv p x) c reading g = (f, true))
    (notVessel : ∀ v, reportedOwner s.env c ≠ some (.vessel v)) :
    f.channels[c].Terminated (s.tables.active.autoReinit c) t.floor.channels[c] := by
  have ends : (terminalCount (s.sampledEnv p x) c f).Settles t.floor := by
    rw [sampled.floor, noticed, meteredFloor_terminates counts]
    exact (arbiterSample_settles (e := s.sampledEnv p x) (p := p) only.notTurner).trans (told_only _ _ _ _ q₂).channels
  exact terminalCount_terminates (e := s.sampledEnv p x) (fun v _ owner => absurd owner (notVessel v)) ends

end Ends

theorem ofValue_natCast (n : Nat) : Word.ofValue (n : Int) = BitVec.ofNat 32 n := BitVec.ofInt_natCast 32 n

/-- R137: the count that a TOTAL point's sample carries. -/
theorem ofValue_toInt (w : Word) : (Word.ofValue w.toInt).toNat = w.toNat := congrArg BitVec.toNat (BitVec.ofInt_toInt)

/-- Settles O7: the metering of a dosing channel, the point's record, and the cells that carry no value. -/
theorem sampleReachesItsPoint : Obligations.SampleReachesItsPoint := by
  refine ⟨?metering, fun slot ff s awake steady lines meets => ⟨fun m p entry names status => ?taken, fun unmapped => ?unmapped⟩,
    fun slot ff s m p awake steady meets entry names notGood notSuspect => ?fault⟩
  case metering =>
    intro slot ff s m p c awake steady meets b ch reading read event entry names status total meters alone notTurner notFeedback
      notTon none
    have only : s.MetersOnly p c := ⟨meters, alone, notTurner, notFeedback, notTon, none⟩
    obtain ⟨t, q, q₁, q₂, runs, sampled, copies, unasked⟩ := exec_sample (ff := ff) awake steady meets entry names status
    rw [takenPoint_eq, if_pos total] at sampled copies unasked
    obtain ⟨g, ⟨k, found⟩, fresh, noticed⟩ := only.notices
      (x := ⟨slot.value.toInt, .fresh, false, slot.qual == 1#8, 0⟩) (ofValue_toInt slot.value) q q₁
    have operating : (s.sampledEnv p ⟨slot.value.toInt, .fresh, false, slot.qual == 1#8, 0⟩).operating = true := meets.1
    have stands : g.vessels = s.floor.vessels ∧ g.kilns = s.floor.kilns ∧ g.arbiter = s.floor.arbiter ∧
        g.channels = s.floor.channels := by
      rw [found]
      exact ⟨rfl, rfl, rfl, rfl⟩
    obtain ⟨vessels, kilns, arbiter, channels⟩ := stands
    have record : g.channels[c] = s.floor.channels[c] := by rw [channels]
    have isRead : (readFloor c slot.value.toNat g).channels = s.floor.channels.set c (s.floor.channels[c].read slot.value.toNat) := by
      rw [readFloor, channel_channels, channels]
      exact upd_eq_set ..
    have opens : (readFloor c slot.value.toNat g).channels[c].isOpen = s.floor.channels[c].isOpen := by
      rw [readFloor_channel, record]
      rfl
    have again (op : Channel → Channel) : ((readFloor c slot.value.toNat g).channel c op).channels =
        s.floor.channels.set c (op (s.floor.channels[c].read slot.value.toNat)) := by
      rw [readFloor, channel_channels, channel_channels, channels, upd_upd]
      exact upd_eq_set ..
    have quietly (quiet : b.field 1 m 4 = 0 ∧ s.points[p].quality ≠ .stale ∧ pollFor s p = Option.none) :
        g = s.floor ∧ q₂ = (sampleNotice (s.sampledEnv p ⟨slot.value.toInt, .fresh, false, slot.qual == 1#8, 0⟩) p
          ((backFloor (s.sampledEnv p ⟨slot.value.toInt, .fresh, false, slot.qual == 1#8, 0⟩) p
            (s.points[p].quality == .stale) (s.floor.withQueue q)).withQueue q₁)).queue := by
      obtain ⟨copy, notStale, unpolled⟩ := quiet
      obtain ⟨-, queue, own⟩ := copies copy
      have queue' := unasked unpolled
      rw [beq_eq_false_iff_ne.mpr notStale, backFloor_fresh] at queue'
      refine ⟨?_, own⟩
      rw [fresh notStale, queue', queue]
      rfl
    refine ⟨t, runs, fun first => ?_, fun l last => ?_⟩
    · obtain ⟨floor, -⟩ := sampled.counts only noticed (meterChannel_first (by rw [record]; exact first)) vessels kilns arbiter
      rw [floor]
      exact isRead
    · have last' : g.channels[c].lastReading = some l := by rw [record]; exact last
      refine ⟨fun zero => ?_, fun back => ⟨?_, fun quiet => ?_⟩, fun some' forward => ⟨fun isOpen more => ?_,
        fun isOpen enough notVessel => ?_, fun closed shut time within => ?_, fun shut late => ⟨?_, fun clear quiet => ?_⟩⟩⟩
      · have stays : meterChannel (s.sampledEnv p ⟨slot.value.toInt, .fresh, false, slot.qual == 1#8, 0⟩) c slot.value.toNat g =
            (readFloor c slot.value.toNat g, false) := by
          rw [meterChannel_flow last' (by rw [zero]; decide), zero]
          rfl
        obtain ⟨floor, -⟩ := sampled.counts only noticed stays vessels kilns arbiter
        rw [floor]
        exact isRead
      · obtain ⟨floor, -⟩ := sampled.counts only noticed (meterChannel_reset last' back) (by simpa using vessels)
          (by simpa using kilns) (by simpa using arbiter)
        rw [floor, withQueue_channels, (raiseEvent_frame ..).2.1]
        exact isRead
      · obtain ⟨same, own⟩ := quietly quiet
        obtain ⟨-, floor⟩ := sampled.counts only noticed (meterChannel_reset last' back) (by simpa using vessels)
          (by simpa using kilns) (by simpa using arbiter)
        rw [floor own, raiseEvent_operating (h := operating), same]
        exact ⟨congrArg s.floor.queue.offerEvent (by rw [eventCell, ofValue_natCast]; rfl), rfl⟩
      · have stays := (meterChannel_flow (e := s.sampledEnv p ⟨slot.value.toInt, .fresh, false, slot.qual == 1#8, 0⟩)
          last' forward).trans (countFlow_open some' (opens.trans isOpen))
        rw [readFloor_channel, record] at stays
        have few : decide ((s.floor.channels[c].read slot.value.toNat).current ≤ (slot.value.toNat + 2 ^ 32 - l) % 2 ^ 32) = false :=
          decide_eq_false (not_le.mpr more)
        rw [few] at stays
        obtain ⟨floor, -⟩ := sampled.counts only noticed stays vessels kilns arbiter
        rw [floor, withQueue_channels, again]
        have rest : s.floor.channels[c].overrun + ((slot.value.toNat + 2 ^ 32 - l) % 2 ^ 32 - s.floor.channels[c].current) =
            s.floor.channels[c].overrun := by
          rw [Nat.sub_eq_zero_of_le (Nat.le_of_lt more)]
          rfl
        exact congrArg (s.floor.channels.set c) (congrArg (fun n => { s.floor.channels[c].read slot.value.toNat with
          current := s.floor.channels[c].current - (slot.value.toNat + 2 ^ 32 - l) % 2 ^ 32, overrun := min overrunMax n }) rest)
      · have stays := (meterChannel_flow (e := s.sampledEnv p ⟨slot.value.toInt, .fresh, false, slot.qual == 1#8, 0⟩)
          last' forward).trans (countFlow_open some' (opens.trans isOpen))
        rw [readFloor_channel, record] at stays
        have all : decide ((s.floor.channels[c].read slot.value.toNat).current ≤ (slot.value.toNat + 2 ^ 32 - l) % 2 ^ 32) = true :=
          decide_eq_true enough
        rw [all] at stays
        obtain ⟨tc, valve, base, overrun, reinit, done⟩ := sampled.terminates only noticed stays notVessel
        rw [channel_channels, upd_get_self, readFloor_channel, record] at base overrun reinit
        exact ⟨tc, valve, base, overrun, reinit, done⟩
      · have stays := (meterChannel_flow (e := s.sampledEnv p ⟨slot.value.toInt, .fresh, false, slot.qual == 1#8, 0⟩)
          last' forward).trans (countFlow_window some' (opens.trans shut) (by rw [readFloor_channel, record]; exact time) within)
        obtain ⟨floor, -⟩ := sampled.counts only noticed stays vessels kilns arbiter
        rw [floor, withQueue_channels, again]
        rfl
      · have stays := (meterChannel_flow (e := s.sampledEnv p ⟨slot.value.toInt, .fresh, false, slot.qual == 1#8, 0⟩)
          last' forward).trans (countFlow_late some' (opens.trans shut) (by rw [readFloor_channel, record]; exact late))
        obtain ⟨floor, -⟩ := sampled.counts only noticed stays (by simpa using vessels) (by simpa using kilns)
          (by simpa using arbiter)
        rw [floor, withQueue_channels, uncommanded_channels, ← channel_channels, again]
        rfl
      · obtain ⟨same, own⟩ := quietly quiet
        have stays := (meterChannel_flow (e := s.sampledEnv p ⟨slot.value.toInt, .fresh, false, slot.qual == 1#8, 0⟩)
          last' forward).trans (countFlow_late some' (opens.trans shut) (by rw [readFloor_channel, record]; exact late))
        obtain ⟨-, floor⟩ := sampled.counts only noticed stays (by simpa using vessels) (by simpa using kilns)
          (by simpa using arbiter)
        rw [floor own, uncommanded_raises (by rw [readFloor_channel, record]; exact clear), raiseEvent_operating (h := operating), same]
        exact ⟨congrArg s.floor.queue.offerEvent (by rw [eventCell, ofValue_natCast]; rfl), rfl⟩
  case taken =>
    obtain ⟨t, q, q₁, q₂, runs, sampled, copies, -⟩ := exec_sample (ff := ff) awake steady meets entry names status
    have points : t.points = s.points.set p (takenPoint s.tables.active p slot.value.toInt (slot.qual == 1#8)) := by
      rw [sampled.frame]
    refine ⟨t, runs, points.trans (by rw [takenPoint_eq]), ?_, fun copy => (copies copy).1⟩
    rw [points]
    exact sampled.frame
  case unmapped =>
    refine congrArg Host.Outcome.next (arrive_passedOn awake steady lines (meets_good meets) _ ?_)
    rw [handleSlot_sample (meets_congr (t := s.counted false) meets rfl rfl)]
    have absent : (s.counted false).tables.active.mapFind slot.source slot.func = none := unmapped
    simp only [sampleCellArrives, absent]
    rfl
  case fault =>
    obtain ⟨t, runs, points, frame⟩ := exec_sample_fault (ff := ff) awake steady meets entry names notGood notSuspect
    refine ⟨t, runs, fun q other => ?_, ?_, frame⟩
    · rw [points]
      split
      · exact upd_get_ne _ _ (Ne.symm other)
      · rfl
    · have usable : s.points[p].usable = true ↔ s.points[p].quality = .fresh ∨ s.points[p].quality = .held := by
        simp [Point.usable]
      rw [points]
      by_cases lost : s.points[p].usable = true
      · rw [if_pos lost, if_pos (usable.mp lost), upd_get_self]
      · rw [if_neg lost, if_neg (mt usable.mpr lost)]

end Sys2Proof.Machine

/-! SUPPORT. A second of the time base at the units (R32, R115, R155, R156, R184, R189, R215): O42. -/

namespace Sys2Proof.Machine

/-- A fold that treats each part of the state once, each in its own way. -/
theorem foldl_eachAt {σ κ β : Type} [DecidableEq κ] (get : σ → κ → β) (treat : κ → β → β) (op : σ → κ → σ)
    (each : ∀ s a u, get (op s a) u = if u = a then treat u (get s u) else get s u) (l : List κ) (nodup : l.Nodup) (s : σ) (u : κ) :
    get (l.foldl op s) u = if u ∈ l then treat u (get s u) else get s u := by
  have pairs := foldl_each (β := κ × β) (fun s u => (u, get s u)) id (fun p => (p.1, treat p.1 p.2)) op
    (fun s a u => by
      dsimp only [id]
      rw [each]
      split <;> rfl) l (by simpa using nodup) s u
  rw [List.map_id] at pairs
  split at pairs
  · next mem => rw [if_pos mem]; exact congrArg Prod.snd pairs
  · next absent => rw [if_neg absent]; exact congrArg Prod.snd pairs

section Seconds

variable {e : Env} {f : Floor}

/-! ### Ageing -/

theorem aged_eq (x : Point) : x.aged = { x with age := x.aged.age } := by
  simp only [Point.aged]
  split <;> rfl

theorem aged_usable (x : Point) : x.aged.usable = x.usable := by rw [aged_eq]; rfl

theorem aged_value (x : Point) : x.aged.value = x.value := by rw [aged_eq]

/-- The environment of a second of the time base. -/
def State.nextEnv (s : State) : Env :=
  { s.env with points := s.points.map Point.aged, second := s.second + 1, time := s.time + 1#32 }

theorem nextEnv_point (s : State) (i : Int) : s.nextEnv.point i = (s.env.point i).aged := by
  simp only [Env.point]
  change (match indexOf 192 i with | some p => (s.points.map Point.aged)[p] | none => Point.initial) =
    Point.aged (match indexOf 192 i with | some p => s.points[p] | none => Point.initial)
  cases indexOf 192 i with
  | some p => exact Vector.getElem_map _ _
  | none => rfl

theorem nextEnv_ton (s : State) (k : Fin 2) : s.nextEnv.ton k = (s.env.ton k).aged := nextEnv_point ..

theorem nextEnv_water (s : State) (v : Fin 6) : s.nextEnv.water v = (s.env.water v).aged := nextEnv_point ..

/-! ### Vessels and boxes -/

/-- R115: a vessel's record after a second. -/
def Vessel.second (usable : Bool) (x : Vessel) : Vessel :=
  if x.ctx.state ≠ .running then x
  else if usable = true then { x with timer := min 604800 (x.timer + 1), note := false }
  else { x with note := true }

/-- A vector of which one component has changed. -/
theorem eq_upd_of_get {α : Type} {n : Nat} {v w : Vector α n} {i : Fin n} {op : α → α}
    (get : ∀ j : Fin n, w[j] = if j = i then op v[j] else v[j]) : w = upd v i op := by
  refine Vector.ext fun j bound => ?_
  have at' := get ⟨j, bound⟩
  have upd' := upd_get v i ⟨j, bound⟩ op
  refine (at'.trans ?_).trans upd'.symm
  by_cases same : (⟨j, bound⟩ : Fin n) = i
  · rw [if_pos same, if_pos same.symm]
  · rw [if_neg same, if_neg (Ne.symm same)]

theorem vesselSecond_vessels (e : Env) (v : Fin 6) (f : Floor) :
    (vesselSecond e v f).vessels = upd f.vessels v (·.second (e.water v).usable) := by
  by_cases running : f.vessels[v].ctx.state = .running
  · cases usable : (e.water v).usable with
    | true =>
      rw [vesselSecond, if_pos running, if_pos usable, vessel_vessels]
      exact upd_congr _ _ (by rw [Vessel.second, if_neg (not_not.mpr running), if_pos rfl])
    | false =>
      have unusable : ¬(e.water v).usable = true := by simp [usable]
      have noted : (f.vessels[v]).second false = { f.vessels[v] with note := true } := by
        rw [Vessel.second, if_neg (not_not.mpr running), if_neg Bool.false_ne_true]
      by_cases note : f.vessels[v].note = true
      · rw [vesselSecond, if_pos running, if_neg unusable, if_pos note]
        refine (upd_id f.vessels v).symm.trans (upd_congr _ _ ?_)
        rw [noted, ← note]
        rfl
      · rw [vesselSecond, if_pos running, if_neg unusable, if_neg note, (raiseEvent_frame ..).1, vessel_vessels]
        exact upd_congr _ _ noted.symm
  · rw [vesselSecond, if_neg running]
    refine (upd_id f.vessels v).symm.trans (upd_congr _ _ ?_)
    rw [Vessel.second, if_pos running]
    rfl

/-- R155, R156: a second at a box. -/
def boxStep (f : Floor) (b : Fin 12) : Floor := f.box b (boxSecond (f.arbiter.grant == some b))

theorem boxes_second (f : Floor) (b : Fin 12) :
    ((List.finRange 12).foldl boxStep f).boxes[b] = boxSecond (f.arbiter.grant == some b) f.boxes[b] := by
  have each := foldl_eachAt (fun g : Floor => fun c : Fin 12 => (g.arbiter.grant, g.boxes[c]))
    (fun c p => (p.1, boxSecond (p.1 == some c) p.2)) boxStep (fun g a u => by
      by_cases same : u = a
      · subst same
        rw [if_pos rfl, boxStep]
        exact congrArg (Prod.mk _) (upd_get_self ..)
      · rw [if_neg same, boxStep]
        exact congrArg (Prod.mk _) (upd_get_ne _ _ (Ne.symm same))) (List.finRange 12) (List.nodup_finRange 12) f b
  rw [if_pos (List.mem_finRange b)] at each
  exact congrArg Prod.snd each

/-! ### Kilns -/

/-- A kiln's record but for its flame count. -/
def Kiln.unlit (x : Kiln) : Kiln := { x with flame := 0 }

/-- R184: a kiln's phase timer after a second. -/
def Kiln.ticked (x : Kiln) : Kiln :=
  if x.ctx.state = .running then { x with timer := min 604800 (x.timer + 1) } else x

theorem ticked_ctx (x : Kiln) : x.ticked.ctx = x.ctx := by
  unfold Kiln.ticked
  split <;> rfl

theorem ticked_unlit (x : Kiln) : x.ticked.unlit = x.unlit.ticked := by
  unfold Kiln.ticked Kiln.unlit
  split <;> rfl

theorem afterCause_unlit (e : Env) (k : Fin 2) (cause : TripCause) (x : Kiln) :
    (x.afterCause e k cause).unlit = x.unlit.afterCause e k cause := by
  unfold Kiln.afterCause Kiln.unlit
  split <;> rfl

/-- The floor once a kiln's phase timer has run on. -/
def tickedFloor (k : Fin 2) (f : Floor) : Floor :=
  if f.kilns[k].ctx.state = .running then f.kiln k fun x => { x with timer := min 604800 (x.timer + 1) } else f

theorem tickedFloor_kilns (k : Fin 2) (f : Floor) : (tickedFloor k f).kilns = upd f.kilns k Kiln.ticked := by
  by_cases running : f.kilns[k].ctx.state = .running
  · rw [tickedFloor, if_pos running, kiln_kilns]
    exact upd_congr _ _ (by rw [Kiln.ticked, if_pos running])
  · rw [tickedFloor, if_neg running]
    exact (upd_id f.kilns k).symm.trans (upd_congr _ _ (by rw [Kiln.ticked, if_neg running]; rfl))

theorem tripKiln_kilns (e : Env) (k : Fin 2) (cause : TripCause) (f : Floor) :
    (tripKiln e k cause f).kilns = upd f.kilns k (Kiln.afterCause e k cause) := eq_upd_of_get (tripKiln_get cause)

/-- The floor once a kiln's Ton has been tested. -/
def testedFloor (e : Env) (k : Fin 2) (f : Floor) : Floor :=
  if !(e.ton k).usable then tripKiln e k .tonLost f
  else if f.kilns[k].ctx.pos.isSome ∧ entryTripTemp f.kilns[k].ctx.entry < (e.ton k).value then tripKiln e k .tonHigh f
  else f

/-- R189: a kiln's record after its Ton has been tested. -/
def Kiln.tested (e : Env) (k : Fin 2) (x : Kiln) : Kiln :=
  if (e.ton k).usable = false then x.afterCause e k .tonLost
  else if x.ctx.pos.isSome ∧ entryTripTemp x.ctx.entry < (e.ton k).value then x.afterCause e k .tonHigh
  else x

theorem testedFloor_kilns (e : Env) (k : Fin 2) (f : Floor) : (testedFloor e k f).kilns = upd f.kilns k (Kiln.tested e k) := by
  cases usable : (e.ton k).usable with
  | false =>
    rw [testedFloor, usable, if_pos (by rfl), tripKiln_kilns]
    exact upd_congr _ _ (by rw [Kiln.tested, if_pos usable])
  | true =>
    rw [testedFloor, usable, if_neg (by simp)]
    by_cases high : f.kilns[k].ctx.pos.isSome ∧ entryTripTemp f.kilns[k].ctx.entry < (e.ton k).value
    · rw [if_pos high, tripKiln_kilns]
      exact upd_congr _ _ (by rw [Kiln.tested, if_neg (by simp [usable]), if_pos high])
    · rw [if_neg high]
      refine (upd_id f.kilns k).symm.trans (upd_congr _ _ ?_)
      rw [Kiln.tested, if_neg (by simp [usable]), if_neg high]
      rfl

theorem kilnSecond_eq (e : Env) (k : Fin 2) (f : Floor) : ∃ n, kilnSecond e k f =
    tellKiln e k ((testedFloor e k (tickedFloor k f)).kiln k fun x => { x with flame := n }) := ⟨_, rfl⟩

theorem tested_unlit (e : Env) (k : Fin 2) (x : Kiln) : (x.tested e k).unlit = x.unlit.tested e k := by
  simp only [Kiln.tested]
  split
  · exact afterCause_unlit ..
  · split
    · next high => exact (afterCause_unlit ..).trans (if_pos high).symm
    · next low => exact (if_neg low).symm

theorem kilnSecond_get (e : Env) (k j : Fin 2) (f : Floor) :
    ((kilnSecond e k f).kilns[j]).unlit = if j = k then (f.kilns[j].unlit).ticked.tested e k else f.kilns[j].unlit := by
  obtain ⟨n, second⟩ := kilnSecond_eq e k f
  have kilns : (kilnSecond e k f).kilns = upd f.kilns k fun x => { x.ticked.tested e k with flame := n } := by
    have told (g : Floor) : (tellKiln e k g).kilns = g.kilns := by simp
    rw [second, told, kiln_kilns, testedFloor_kilns, tickedFloor_kilns, upd_upd, upd_upd]
    rfl
  rw [kilns, upd_get]
  by_cases same : j = k
  · rw [if_pos same, if_pos same.symm, ← ticked_unlit, ← tested_unlit]
    rfl
  · rw [if_neg same, if_neg (Ne.symm same)]

/-! ### The floor -/

/-- R155, R156: a box's record after a second. -/
theorem boxSecond_eq (g : Option (Fin 12)) (b : Fin 12) (x : Box) : boxSecond (g == some b) x =
    if x.ctx.state ≠ .running then x
    else { x with
      dayClock := min 604800 (x.dayClock + 1)
      turnClock := if g = some b then x.turnClock else min 16777215 (x.turnClock + 1) } := by
  by_cases running : x.ctx.state = .running
  · rw [boxSecond, if_pos running, if_neg (not_not.mpr running)]
    simp only [beq_iff_eq]
  · rw [boxSecond, if_neg running, if_pos running]

theorem of_unlit {x y : Kiln} (same : y.unlit = x.unlit) : y = { x with flame := y.flame } :=
  congrArg (fun z : Kiln => { z with flame := y.flame }) same

/-- R189: what the tests on Ton leave of a kiln. -/
theorem tested_cases (e : Env) (k : Fin 2) (x : Kiln) :
    (x.ctx.state = .running ∨ x.ctx.state = .held → (e.ton k).usable = false → x.tested e k = x.tripped e k .tonLost) ∧
      (x.ctx.state = .running ∨ x.ctx.state = .held → (e.ton k).usable = true →
        x.ctx.pos.isSome = true ∧ entryTripTemp x.ctx.entry < (e.ton k).value → x.tested e k = x.tripped e k .tonHigh) ∧
      ((e.ton k).usable = true → ¬(x.ctx.pos.isSome = true ∧ entryTripTemp x.ctx.entry < (e.ton k).value) →
        x.tested e k = x) ∧
      (x.ctx.state ≠ .running → x.ctx.state ≠ .held → x.tested e k = x) := by
  refine ⟨fun live lost => ?_, fun live usable high => ?_, fun usable low => ?_, fun notRunning notHeld => ?_⟩
  · rw [Kiln.tested, if_pos lost, Kiln.afterCause, if_pos live]
  · rw [Kiln.tested, if_neg (by simp [usable]), if_pos high, Kiln.afterCause, if_pos live]
  · rw [Kiln.tested, if_neg (by simp [usable]), if_neg low]
  · have dead (cause : TripCause) : x.afterCause e k cause = x := if_neg (by tauto)
    rw [Kiln.tested, dead, dead, ite_self, ite_self]

/-- A second at the vessels, at the boxes and at the kilns. -/
def vesselsSecond (e : Env) (f : Floor) : Floor := (List.finRange 6).foldl (fun f v => vesselSecond e v f) f

def boxesSecond (f : Floor) : Floor := (List.finRange 12).foldl boxStep f

def kilnsSecond (e : Env) (f : Floor) : Floor := (List.finRange 2).foldl (fun f k => kilnSecond e k f) f

theorem floorSecond_eq (e : Env) (f : Floor) :
    floorSecond e f = parkingSecond e (kilnsSecond e (boxesSecond (vesselsSecond e f))) := rfl

theorem vesselsSecond_frame (e : Env) (f : Floor) : (vesselsSecond e f).boxes = f.boxes ∧
    (vesselsSecond e f).arbiter = f.arbiter ∧ (vesselsSecond e f).kilns = f.kilns ∧
    (vesselsSecond e f).batches = f.batches ∧ (vesselsSecond e f).register = f.register ∧
    (vesselsSecond e f).channels = f.channels :=
  ⟨foldl_keeps (fun f : Floor => f.boxes) _ (fun _ _ => by simp) _ _,
    foldl_keeps (fun f : Floor => f.arbiter) _ (fun _ _ => by simp) _ _,
    foldl_keeps (fun f : Floor => f.kilns) _ (fun _ _ => by simp) _ _,
    foldl_keeps (fun f : Floor => f.batches) _ (fun _ _ => by simp) _ _,
    foldl_keeps (fun f : Floor => f.register) _ (fun _ _ => by simp) _ _,
    foldl_keeps (fun f : Floor => f.channels) _ (fun _ _ => by simp) _ _⟩

theorem boxesSecond_frame (f : Floor) : (boxesSecond f).vessels = f.vessels ∧ (boxesSecond f).kilns = f.kilns ∧
    (boxesSecond f).batches = f.batches ∧ (boxesSecond f).register = f.register :=
  ⟨foldl_keeps (fun f : Floor => f.vessels) boxStep (fun _ _ => rfl) _ _,
    foldl_keeps (fun f : Floor => f.kilns) boxStep (fun _ _ => rfl) _ _,
    foldl_keeps (fun f : Floor => f.batches) boxStep (fun _ _ => rfl) _ _,
    foldl_keeps (fun f : Floor => f.register) boxStep (fun _ _ => rfl) _ _⟩

theorem kilnsSecond_frame (e : Env) (f : Floor) : (kilnsSecond e f).vessels = f.vessels ∧ (kilnsSecond e f).boxes = f.boxes ∧
    (kilnsSecond e f).batches = f.batches ∧ (kilnsSecond e f).register = f.register :=
  ⟨foldl_keeps (fun f : Floor => f.vessels) _ (fun _ _ => by simp) _ _,
    foldl_keeps (fun f : Floor => f.boxes) _ (fun _ _ => by simp) _ _,
    foldl_keeps (fun f : Floor => f.batches) _ (fun _ _ => by simp) _ _,
    foldl_keeps (fun f : Floor => f.register) _ (fun _ _ => by simp) _ _⟩

theorem vesselsSecond_get (e : Env) (f : Floor) (v : Fin 6) :
    (vesselsSecond e f).vessels[v] = (f.vessels[v]).second (e.water v).usable := by
  have each := foldl_eachAt (fun g : Floor => fun w : Fin 6 => g.vessels[w]) (fun w x => x.second (e.water w).usable)
    (fun f v => vesselSecond e v f) (fun g a u => by
      rw [vesselSecond_vessels, upd_get]
      by_cases same : u = a
      · rw [if_pos same, if_pos same.symm, same]
      · rw [if_neg same, if_neg (Ne.symm same)]) (List.finRange 6) (List.nodup_finRange 6) f v
  rwa [if_pos (List.mem_finRange v)] at each

theorem kilnsSecond_get (e : Env) (f : Floor) (k : Fin 2) :
    ((kilnsSecond e f).kilns[k]).unlit = (f.kilns[k].unlit).ticked.tested e k := by
  have each := foldl_eachAt (fun g : Floor => fun j : Fin 2 => (g.kilns[j]).unlit) (fun j x => x.ticked.tested e j)
    (fun f k => kilnSecond e k f) (fun g a u => by
      rw [kilnSecond_get]
      by_cases same : u = a
      · rw [if_pos same, if_pos same, same]
      · rw [if_neg same, if_neg same]) (List.finRange 2) (List.nodup_finRange 2) f k
  rwa [if_pos (List.mem_finRange k)] at each

theorem floorSecond_vessels (e : Env) (f : Floor) (v : Fin 6) :
    (floorSecond e f).vessels[v] = (f.vessels[v]).second (e.water v).usable := by
  have vessels : (floorSecond e f).vessels = (vesselsSecond e f).vessels := by
    rw [floorSecond_eq, (parkingSecond_frame ..).2.2.1, (kilnsSecond_frame ..).1, (boxesSecond_frame ..).1]
  rw [vessels, vesselsSecond_get]

theorem floorSecond_boxes (e : Env) (f : Floor) (b : Fin 12) :
    (floorSecond e f).boxes[b] = boxSecond (f.arbiter.grant == some b) f.boxes[b] := by
  have boxes : (floorSecond e f).boxes = (boxesSecond (vesselsSecond e f)).boxes := by
    rw [floorSecond_eq, (parkingSecond_frame ..).2.2.2.2.1, (kilnsSecond_frame ..).2.1]
  have second := boxes_second (vesselsSecond e f) b
  obtain ⟨same, arbiter, -⟩ := vesselsSecond_frame e f
  rw [arbiter] at second
  rw [boxes]
  refine second.trans (congrArg _ ?_)
  rw [same]

theorem floorSecond_kilns (e : Env) (f : Floor) (k : Fin 2) :
    ((floorSecond e f).kilns[k]).unlit = (f.kilns[k].unlit).ticked.tested e k := by
  have kilns : (floorSecond e f).kilns = (kilnsSecond e (boxesSecond (vesselsSecond e f))).kilns := by
    rw [floorSecond_eq, (parkingSecond_frame ..).2.2.2.2.2.1]
  have same : (boxesSecond (vesselsSecond e f)).kilns = f.kilns := by
    rw [(boxesSecond_frame ..).2.1, (vesselsSecond_frame ..).2.2.1]
  have second := kilnsSecond_get e (boxesSecond (vesselsSecond e f)) k
  rw [← kilns] at second
  refine second.trans ?_
  rw [same]

theorem floorSecond_records (e : Env) (f : Floor) :
    (floorSecond e f).batches = f.batches ∧ (floorSecond e f).register = f.register := by
  rw [floorSecond_eq]
  obtain ⟨-, -, -, batches, register, -⟩ := vesselsSecond_frame e f
  constructor
  · rw [(parkingSecond_frame ..).2.2.2.2.2.2.1, (kilnsSecond_frame ..).2.2.1, (boxesSecond_frame ..).2.2.1, batches]
  · rw [(parkingSecond_frame ..).2.2.2.2.2.2.2.1, (kilnsSecond_frame ..).2.2.2, (boxesSecond_frame ..).2.2.2, register]

/-! ### The event -/

variable {s : State}

/-- The floor of a second, by the mode. -/
def secondFloor (s : State) : Floor := if s.tables.present then floorSecond s.nextEnv s.floor else s.floor

theorem exec_second (awake : s.Awake) : ∃ t, exec .timeBaseSecond s = .next t ∧ t.LinesFollow ∧
    t = { s with
      second := s.second + 1, time := s.time + 1#32, points := s.points.map Point.aged
      due := dueList s.floor { s with
        second := s.second + 1, time := s.time + 1#32, points := s.points.map Point.aged, floor := secondFloor s }
      floor := t.floor, pins := t.pins } ∧
    t.floor = tellOwners s.env s.floor s.nextEnv (secondFloor s) := by
  have second : timeBaseSecond s = finish s { s with
      second := s.second + 1, time := s.time + 1#32, points := s.points.map Point.aged
      due := dueList s.floor { s with
        second := s.second + 1, time := s.time + 1#32, points := s.points.map Point.aged, floor := secondFloor s }
      floor := secondFloor s } := by
    have awake' : ¬s.inReset = true := by simp [awake.1]
    rw [timeBaseSecond, if_neg awake', settle_awake s awake.2, secondFloor]
    cases present : s.tables.present with
    | true =>
      have present' : (advanceClocks s).tables.present = true := present
      simp only [if_pos present', if_true]
      rfl
    | false =>
      have present' : ¬(advanceClocks s).tables.present = true := by simp [advanceClocks, present]
      simp only [if_neg present', Bool.false_eq_true, if_false]
      rfl
  exact ⟨_, congrArg Host.Outcome.next second, finish_follow .., finish_eq _ _, finish_floor _ _⟩

/-- In TRANSPARENT mode a second changes nothing of the floor. -/
theorem second_transparent (transparent : s.tables.present = false) :
    tellOwners s.env s.floor s.nextEnv (secondFloor s) = s.floor := by
  rw [secondFloor, transparent]
  refine tellOwners_quiet _ _ _ _ rfl rfl fun k => ?_
  have usable : (s.nextEnv.ton k).usable = (s.env.ton k).usable := by rw [nextEnv_ton, aged_usable]
  simp only [permit]
  change _ = (_ && _ && _ && (s.nextEnv.ton k).usable && _)
  rw [usable]
  rfl

end Seconds

/-- Settles O42: the clocks, the points and each unit at a second. -/
theorem secondAdvancesClocks : Obligations.SecondAdvancesClocks := by
  intro s awake
  obtain ⟨t, runs, lines, frame, floor⟩ := exec_second awake
  have points : t.points = s.points.map Point.aged := by rw [frame]
  have batches : (secondFloor s).batches = s.floor.batches := by
    simp only [secondFloor]
    split
    · exact (floorSecond_records ..).1
    · rfl
  have register : (secondFloor s).register = s.floor.register := by
    simp only [secondFloor]
    split
    · exact (floorSecond_records ..).2
    · rfl
  refine ⟨t, runs, lines, ?_, fun p => ?_, ?_, ?_, fun transparent => ?_, fun present => ⟨fun v => ?_, fun b => ?_, fun k => ?_⟩⟩
  · rw [frame]
  · rw [points]
    exact Vector.getElem_map _ _
  · rw [floor, (tellOwners_frame ..).2.2.2.2.2.1, batches]
  · rw [floor, (tellOwners_frame ..).2.2.2.2.2.2.1, register]
  · rw [floor, second_transparent transparent]
  · rw [floor, tellOwners_vessels, secondFloor, if_pos present, floorSecond_vessels, nextEnv_water, aged_usable]
    rfl
  · rw [floor, (tellOwners_frame ..).2.2.1, secondFloor, if_pos present, floorSecond_boxes, boxSecond_eq]
  · have kiln : (t.floor.kilns[k]).unlit = (s.floor.kilns[k].unlit).ticked.tested s.nextEnv k := by
      rw [floor, (tellOwners_frame ..).2.2.2.2.1, secondFloor, if_pos present, floorSecond_kilns]
    have usable : (s.nextEnv.ton k).usable = (s.env.ton k).usable := by rw [nextEnv_ton, aged_usable]
    have value : (s.nextEnv.ton k).value = (s.env.ton k).value := by rw [nextEnv_ton, aged_value]
    have ctx : (s.floor.kilns[k].unlit).ticked.ctx = s.floor.kilns[k].ctx := ticked_ctx _
    obtain ⟨lost, high, low, dead⟩ := tested_cases s.nextEnv k (s.floor.kilns[k].unlit).ticked
    rw [ctx] at lost high low dead
    rw [usable] at lost high low
    rw [value] at high low
    refine ⟨fun live unusable => ?_, fun live fine hot => ?_, fun running fine under => ?_, fun notRunning notHeld => ?_⟩
    · rw [lost live unusable] at kiln
      refine ⟨(congrArg (·.ctx.state) kiln :), (congrArg Kiln.trip kiln).trans ?_⟩
      rw [Kiln.tripped, usable, unusable, ctx]
      rfl
    · rw [high live fine hot] at kiln
      refine ⟨(congrArg (·.ctx.state) kiln :), (congrArg Kiln.trip kiln).trans ?_⟩
      rw [Kiln.tripped, usable, fine, value, ctx]
      rfl
    · rw [low fine under, ← ticked_unlit] at kiln
      have only := of_unlit kiln
      rwa [Kiln.ticked, if_pos running] at only
    · rw [dead notRunning notHeld, ← ticked_unlit] at kiln
      have only := of_unlit kiln
      rwa [Kiln.ticked, if_neg notRunning] at only

end Sys2Proof.Machine

/-! SUPPORT. What falls due at a second of the time base (section 1.5 and the chapters of the units): O43. -/

namespace Sys2Proof.Machine

/-! ### Channels that are told what they know (R136) -/

/-- A channel that has been told the demand condition `d` and needs nothing more by it. -/
def Channel.Heard (demanding d : Bool) (x : Channel) : Prop :=
  x.demand = d ∧ (demanding = true → ¬(x.state = .active ∧ d = false) ∧ ¬(x.state = .paused ∧ d = true))

theorem told_heard (second : Nat) (demanding d pending : Bool) (x : Channel) :
    (x.told second demanding d pending).Heard demanding d := by
  refine ⟨told_demand .., fun demands => ?_⟩
  simp only [Channel.told]
  split
  · next h => simp [Channel.entered, h.2.2]
  · split
    · next h => simp [Channel.entered, h.2.2]
    · next first second' => exact ⟨fun h => first ⟨demands, h⟩, fun h => second' ⟨demands, h⟩⟩

theorem told_again {second : Nat} {demanding d pending : Bool} {x : Channel} (heard : x.Heard demanding d) :
    x.told second demanding d pending = x := by
  obtain ⟨demand, needs⟩ := heard
  rw [Channel.told, if_neg fun h => (needs h.1).1 h.2, if_neg fun h => (needs h.1).2 h.2, ← demand]

section Telling

variable {e : Env} {f g : Floor} {k j : Fin 2} {c : Fin 12}

/-- R186: the demand condition of a kiln is read from its context alone. -/
theorem kilnDemand_congr (ctx : (g.kilns[k]).ctx = (f.kilns[k]).ctx) : kilnDemand e g k = kilnDemand e f k := by
  simp only [kilnDemand, permit, ctx]

theorem tellKiln_own (names : e.bank.unitChannel (.kiln k) = some c) : ∃ p, (tellKiln e k f).channels =
    upd f.channels c (Channel.told e.second (decide (e.bank.channelMode c = .demand)) (kilnDemand e f k) p) := by
  simp only [tellKiln, names]
  exact tellDemand_channels ..

theorem tellKiln_other (other : e.bank.unitChannel (.kiln k) ≠ some c) : (tellKiln e k f).channels[c] = f.channels[c] := by
  cases names : e.bank.unitChannel (.kiln k) with
  | none => simp only [tellKiln, names]
  | some d =>
    obtain ⟨p, told⟩ := tellKiln_own (f := f) names
    rw [told, upd_get_ne]
    rintro rfl
    exact other names

theorem tripKiln_channel_other (cause : TripCause) (other : e.bank.unitChannel (.kiln k) ≠ some c) :
    (tripKiln e k cause f).channels[c] = f.channels[c] := by
  have stops (h : Floor) (same : h.channels = f.channels) : (stopUnitChannel e (.kiln k) h).channels[c] = f.channels[c] := by
    cases names : e.bank.unitChannel (.kiln k) with
    | none => simp only [stopUnitChannel, names, same]
    | some d =>
      obtain ⟨p, stopped⟩ := stopChannel_channels e d h
      simp only [stopUnitChannel, names, stopped]
      rw [upd_get_ne _ _ (by rintro rfl; exact other names), same]
  by_cases live : f.kilns[k].ctx.state = .running ∨ f.kilns[k].ctx.state = .held
  · have channels : ∃ h : Floor, h.channels = f.channels ∧
        (tripKiln e k cause f).channels = (stopUnitChannel e (.kiln k) h).channels := by
      simp only [tripKiln, if_pos live, raiseEvent_frame, kiln_channels]
      refine ⟨_, ?_, rfl⟩
      split <;> simp
    obtain ⟨h, same, is⟩ := channels
    rw [is]
    exact stops h same
  · rw [tripKiln_dead cause live]

theorem kilnSecond_channel_other (other : e.bank.unitChannel (.kiln k) ≠ some c) :
    (kilnSecond e k f).channels[c] = f.channels[c] := by
  obtain ⟨n, second⟩ := kilnSecond_eq e k f
  have ticked : (tickedFloor k f).channels = f.channels := by
    simp only [tickedFloor]
    split <;> rfl
  have tested : (testedFloor e k (tickedFloor k f)).channels[c] = (tickedFloor k f).channels[c] := by
    by_cases lost : (!(e.ton k).usable) = true
    · rw [testedFloor, if_pos lost, tripKiln_channel_other _ other]
    · rw [testedFloor, if_neg lost]
      by_cases high : (tickedFloor k f).kilns[k].ctx.pos.isSome ∧
          entryTripTemp (tickedFloor k f).kilns[k].ctx.entry < (e.ton k).value
      · rw [if_pos high, tripKiln_channel_other _ other]
      · rw [if_neg high]
  rw [second, tellKiln_other other]
  refine Eq.trans (b := (testedFloor e k (tickedFloor k f)).channels[c]) rfl (tested.trans ?_)
  rw [ticked]

theorem kilnSecond_heard (names : e.bank.unitChannel (.kiln k) = some c) :
    (kilnSecond e k f).channels[c].Heard (decide (e.bank.channelMode c = .demand)) (kilnDemand e (kilnSecond e k f) k) := by
  obtain ⟨n, second⟩ := kilnSecond_eq e k f
  generalize (testedFloor e k (tickedFloor k f)).kiln k _ = g at second
  obtain ⟨p, told⟩ := tellKiln_own (f := g) names
  have demand : kilnDemand e (tellKiln e k g) k = kilnDemand e g k := by
    refine kilnDemand_congr ?_
    have kilns : (tellKiln e k g).kilns = g.kilns := by simp
    rw [kilns]
  rw [second, demand, told, upd_get_self]
  exact told_heard ..

theorem kilnSecond_demand_other (other : j ≠ k) : kilnDemand e (kilnSecond e k f) j = kilnDemand e f j := by
  refine kilnDemand_congr ?_
  have unlit := kilnSecond_get e k j f
  rw [if_neg other] at unlit
  exact (congrArg Kiln.ctx unlit :)

/-- Every kiln's channel that is no other kiln's has heard its demand condition. -/
def Floor.KilnsHeard (e : Env) (f : Floor) : Prop :=
  ∀ k c, e.bank.unitChannel (.kiln k) = some c → (∀ j, j ≠ k → e.bank.unitChannel (.kiln j) ≠ some c) →
    f.channels[c].Heard (decide (e.bank.channelMode c = .demand)) (kilnDemand e f k)

theorem kilnsSecond_heard (e : Env) (f : Floor) : (kilnsSecond e f).KilnsHeard e := by
  have both : kilnsSecond e f = kilnSecond e 1 (kilnSecond e 0 f) := rfl
  intro k c names alone
  rw [both]
  have cases' : k = 0 ∨ k = 1 := by omega
  obtain rfl | rfl := cases'
  · rw [kilnSecond_channel_other (alone 1 (by decide)), kilnSecond_demand_other (by decide)]
    exact kilnSecond_heard names
  · exact kilnSecond_heard names

theorem floorSecond_heard (e : Env) (f : Floor) : (floorSecond e f).KilnsHeard e := by
  intro k c names alone
  have channels : (floorSecond e f).channels = (kilnsSecond e (boxesSecond (vesselsSecond e f))).channels := by
    rw [floorSecond_eq, (parkingSecond_frame ..).2.2.2.1]
  have demand : kilnDemand e (floorSecond e f) k = kilnDemand e (kilnsSecond e (boxesSecond (vesselsSecond e f))) k := by
    refine kilnDemand_congr ?_
    have kilns : (floorSecond e f).kilns = (kilnsSecond e (boxesSecond (vesselsSecond e f))).kilns := by
      rw [floorSecond_eq, (parkingSecond_frame ..).2.2.2.2.2.1]
    rw [kilns]
  rw [channels, demand]
  exact kilnsSecond_heard e _ k c names alone

/-- What the kilns tell at an event's end changes no channel that has heard it. -/
theorem tellOwners_heard {e₀ : Env} {before : Floor} (vessels : ∀ v, vesselDemand f v = vesselDemand before v)
    (heard : f.KilnsHeard e) (apart : e.bank.unitChannel (.kiln 0) ≠ some c ∨ e.bank.unitChannel (.kiln 1) ≠ some c) :
    (tellOwners e₀ before e f).channels[c] = f.channels[c] := by
  have quiet : (List.finRange 6).foldl (tellVessel before e) f = f := by
    refine foldl_inv (fun g => g = f) _ ?_ _ _ rfl
    rintro g v rfl
    simp [tellVessel, vessels]
  have alone (k j : Fin 2) (names : e.bank.unitChannel (.kiln k) = some c) (other : j ≠ k) :
      e.bank.unitChannel (.kiln j) ≠ some c := by
    intro names'
    have cases' : (k = 0 ∧ j = 1) ∨ (k = 1 ∧ j = 0) := by omega
    obtain ⟨rfl, rfl⟩ | ⟨rfl, rfl⟩ := cases'
    · exact apart.elim (absurd names) (absurd names')
    · exact apart.elim (absurd names') (absurd names)
  rw [tellOwners, quiet]
  refine (foldl_inv (fun g : Floor => g.channels[c] = f.channels[c] ∧ g.kilns = f.kilns) _ ?_ _ _ ⟨rfl, rfl⟩).1
  rintro g k ⟨channel, kilns⟩
  obtain same | told := tellChangedKiln_cases e₀ before e g k
  · rw [same]
    exact ⟨channel, kilns⟩
  · rw [told]
    refine ⟨?_, by simpa using kilns⟩
    by_cases names : e.bank.unitChannel (.kiln k) = some c
    · obtain ⟨p, told'⟩ := tellKiln_own (f := g) names
      have demand : kilnDemand e g k = kilnDemand e f k := kilnDemand_congr (by rw [kilns])
      rw [told', upd_get_self, demand, channel]
      exact told_again (heard k c names fun j other => alone k j names other)
    · rw [tellKiln_other names, channel]

end Telling

end Sys2Proof.Machine

/-! SUPPORT. The list of the steps that fall due at a second, step by step: O43. -/

namespace Sys2Proof.Machine

/-! ### The age of the insertion queue (R21) -/

section Age

variable {second : Nat} {q : Queue} {c : QCell}

theorem mergeCell_old (c : QCell) (l : List QCell) :
    (mergeCell c l).any (fun x => decide (x.joined + 3 ≤ second)) = l.any fun x => decide (x.joined + 3 ≤ second) := by
  induction l with
  | nil => rfl
  | cons x l ih =>
    simp only [mergeCell]
    split
    · rfl
    · simp only [List.any_cons, ih]

/-- R18, R21: an offer made at this second makes no old cell. -/
theorem offerCommand_hasOld (joined : c.joined = second) : (q.offerCommand c).1.hasOld second = q.hasOld second := by
  have young : decide (c.joined + 3 ≤ second) = false := decide_eq_false (by omega)
  simp only [Queue.offerCommand, Queue.hasOld]
  split
  · simp [List.any_append, mergeCell_old]
  · split
    · simp [List.any_append, mergeCell_old]
    · split
      · simp [List.any_append, young]
      · rfl

theorem offerValve_hasOld (e : Env) (c : Fin 12) (f : Floor) :
    (offerValve e c f).queue.hasOld e.second = f.queue.hasOld e.second := by
  simp only [offerValve]
  split
  · rfl
  · exact offerCommand_hasOld rfl

theorem setValve_hasOld (e : Env) (c : Fin 12) (want : ValveDecision) (f : Floor) :
    (setValve e c want f).queue.hasOld e.second = f.queue.hasOld e.second := by
  by_cases same : f.channels[c].valve = want
  · rw [setValve, if_pos same]
  · rw [setValve, if_neg same, offerValve_hasOld]
    rfl

theorem tellDemand_hasOld (e : Env) (c : Fin 12) (d : Bool) (f : Floor) :
    (tellDemand e c d f).queue.hasOld e.second = f.queue.hasOld e.second := by
  have entering (st : ChannelState) (g : Floor) : (enterChannel e c st g).queue.hasOld e.second = g.queue.hasOld e.second :=
    setValve_hasOld ..
  simp only [tellDemand]
  split
  · split
    · exact entering ..
    · exact entering ..
    · rfl
  · rfl

/-- What the owners tell their channels makes no old cell. -/
theorem tellOwners_hasOld (e₀ : Env) (before : Floor) (e : Env) (f : Floor) :
    (tellOwners e₀ before e f).queue.hasOld e.second = f.queue.hasOld e.second := by
  refine (foldl_keeps (fun g : Floor => g.queue.hasOld e.second) _ (fun g k => ?_) _ _).trans
    (foldl_keeps (fun g : Floor => g.queue.hasOld e.second) _ (fun g v => ?_) _ _)
  · obtain same | told := tellChangedKiln_cases e₀ before e g k
    · rw [same]
    · rw [told]
      obtain same | ⟨c, d, told⟩ := tellKiln_cases e k g
      · rw [same]
      · rw [told, tellDemand_hasOld]
  · obtain same | ⟨c, d, told⟩ := tellVessel_cases before e g v
    · rw [same]
    · rw [told, tellDemand_hasOld]

end Age

/-! ### The list -/

section List

variable {before : Floor} {s : State} {e : Env} {f : Floor} {i : Instr}

theorem mem_dueFor {α : Type} {l : List α} {test : α → Bool} {cmd : α → Instr} :
    i ∈ dueFor l test cmd ↔ ∃ a ∈ l, test a = true ∧ cmd a = i := by
  simp [dueFor, and_assoc]

theorem mem_single {p : Prop} [Decidable p] {j : Instr} : (i ∈ if p then [j] else []) ↔ p ∧ i = j := by
  split
  · next holds => simp [holds]
  · next fails => simp [fails]

theorem mem_dueCongestion : i ∈ dueCongestion s ↔ s.floor.queue.hasOld s.second ≠ s.floor.queue.congested ∧ i = .congested := by
  simp only [dueCongestion]
  split
  · next same => simp [same]
  · next differ => simp [differ]

/-- R160 to R163: the timer of a turn that is due, by the state. -/
def dueTimer (e : Env) (f : Floor) : List Instr :=
  if f.arbiter.expired e.second then
    match f.arbiter.state with
    | .preparing => [.prepTimeout]
    | .dispatched => [.startTimeout]
    | .turning => [.turnOverrun]
    | .releasing => [.sprayTrailExpiry]
    | _ => []
  else []

theorem dueTurner_eq (e : Env) (f : Floor) : dueTurner e f =
    dueFor (List.finRange 12) (intervalReached f) .turnIntervalReached ++ dueTimer e f ++
      if f.arbiter.state = .idle ∧ f.arbiter.parkExpired e.second then [.parkDelayExpiry] else [] := rfl

theorem mem_dueTimer : i ∈ dueTimer e f ↔ f.arbiter.expired e.second = true ∧
      ((f.arbiter.state = .preparing ∧ i = .prepTimeout) ∨ (f.arbiter.state = .dispatched ∧ i = .startTimeout) ∨
        (f.arbiter.state = .turning ∧ i = .turnOverrun) ∨ (f.arbiter.state = .releasing ∧ i = .sprayTrailExpiry)) := by
  rw [dueTimer]
  cases f.arbiter.expired e.second <;> cases f.arbiter.state <;> simp

/-- What can be due at a second, in operating mode: which steps each part of the list holds. -/
theorem mem_dueList (present : s.tables.present = true) : i ∈ dueList before s ↔
    (i ∈ duePoints s ∨ i ∈ dueTimes s.floor ∨ i ∈ dueEvaluations s.env s.floor ∨ i ∈ dueTurner s.env s.floor ∨
      i ∈ dueDeadlines s ∨ i ∈ dueReoffers before s) ∨ i ∈ dueCongestion s := by
  simp only [dueList, present, if_true, List.mem_append, or_assoc]

theorem mem_duePoints : i ∈ duePoints s ↔ (∃ p : Fin 192, heldDue s.tables.active p s.points[p] = true ∧ Instr.qualityHeld p = i) ∨
    ∃ p : Fin 192, staleDue s.tables.active p s.points[p] = true ∧ Instr.qualityStale p = i := by
  simp [duePoints, mem_dueFor]

theorem mem_dueTurner : i ∈ dueTurner e f ↔ (∃ b, intervalReached f b = true ∧ Instr.turnIntervalReached b = i) ∨
    (f.arbiter.expired e.second = true ∧
      ((f.arbiter.state = .preparing ∧ i = .prepTimeout) ∨ (f.arbiter.state = .dispatched ∧ i = .startTimeout) ∨
        (f.arbiter.state = .turning ∧ i = .turnOverrun) ∨ (f.arbiter.state = .releasing ∧ i = .sprayTrailExpiry))) ∨
    (f.arbiter.state = .idle ∧ f.arbiter.parkExpired e.second = true) ∧ i = .parkDelayExpiry := by
  simp only [dueTurner_eq, List.mem_append, mem_dueTimer, mem_single, mem_dueFor, List.mem_finRange, true_and, or_assoc]

theorem mem_dueDeadlines : i ∈ dueDeadlines s ↔ (∃ n, pollDue s n = true ∧ Instr.pollDeadline n = i) ∨
    (∃ b, voteWaitDue s.env s.floor b = true ∧ Instr.voteWaitExpiry b = i) ∨
    ∃ b, overdueDue s.env s.floor b = true ∧ Instr.transferOverdue b = i := by
  simp [dueDeadlines, mem_dueFor]

theorem mem_dueTimes : i ∈ dueTimes f ↔ (∃ k, flameDue f k = true ∧ Instr.flameLost k = i) ∨
    (∃ v : Fin 6, (f.vessels[v].ctx.state = .running ∧ stepMaxTime f.vessels[v].ctx.fields ≤ f.vessels[v].timer) ∧
      Instr.stepMaximum v = i) ∨
    (∃ b : Fin 12, (f.boxes[b].ctx.state = .running ∧ dayLength f.boxes[b].ctx.fields * 60 ≤ f.boxes[b].dayClock) ∧
      Instr.dayEnded b = i) ∨
    ∃ k : Fin 2, (f.kilns[k].ctx.state = .running ∧ phaseMaxTime f.kilns[k].ctx.fields ≤ f.kilns[k].timer) ∧
      Instr.phaseMaximum k = i := by
  simp [dueTimes, mem_dueFor, or_assoc]

theorem mem_dueEvaluations : i ∈ dueEvaluations e f ↔
    (∃ v : Fin 6, (evaluationDue e f.vessels[v].origin = true ∧ f.vessels[v].ctx.state.vesselEvaluates = true) ∧
      Instr.vesselEvaluation v = i) ∨
    (∃ b : Fin 12, (evaluationDue e f.boxes[b].origin = true ∧ f.boxes[b].ctx.state.vesselEvaluates = true) ∧
      Instr.boxEvaluation b = i) ∨
    ∃ k : Fin 2, (evaluationDue e f.kilns[k].origin = true ∧ f.kilns[k].ctx.state.kilnEvaluates = true) ∧
      Instr.kilnEvaluation k = i := by
  simp [dueEvaluations, mem_dueFor]

/-- R42: the poll list entry's cell has been refused. -/
def pollRefused (s : State) (n : Fin 4) : Bool := match s.polls[n] with | some q => !q.offered | none => false

theorem pollRefused_iff {n : Fin 4} : pollRefused s n = true ↔ ∃ q, s.polls[n] = some q ∧ q.offered = false := by
  rw [pollRefused]
  cases s.polls[n] <;> simp

theorem dueReoffers_eq (before : Floor) (s : State) : dueReoffers before s =
    dueFor (List.finRange 12) (fun c => before.channels[c].valvePending && s.floor.channels[c].valvePending)
        (fun c => .pendingReoffer (.valve c)) ++
      (if s.env.bank.inService 20 ∧ s.floor.arbiter.waiting ≠ [] then [.pendingReoffer .turner] else []) ++
      dueFor (List.finRange 4) (pollRefused s) (fun n => .pendingReoffer (.poll n)) ++
      dueFor (List.finRange 20) (unitReofferDue s.env s.floor) fun u => .pendingReoffer (.unit u) := rfl

theorem mem_dueReoffers : i ∈ dueReoffers before s ↔
    (∃ c : Fin 12, (before.channels[c].valvePending = true ∧ s.floor.channels[c].valvePending = true) ∧
      Instr.pendingReoffer (.valve c) = i) ∨
    ((s.env.bank.inService 20 = true ∧ s.floor.arbiter.waiting ≠ []) ∧ i = .pendingReoffer .turner) ∨
    (∃ n : Fin 4, (∃ q, s.polls[n] = some q ∧ q.offered = false) ∧ Instr.pendingReoffer (.poll n) = i) ∨
    ∃ u, unitReofferDue s.env s.floor u = true ∧ Instr.pendingReoffer (.unit u) = i := by
  simp only [dueReoffers_eq, List.mem_append, mem_single, mem_dueFor, List.mem_finRange, true_and, or_assoc, Bool.and_eq_true,
    pollRefused_iff]

/-- The steps that are due in operating mode. -/
theorem mem_due (present : s.tables.present = true) : i ∈ dueList before s ↔
    (i ∈ duePoints s ∨ i ∈ dueTimes s.floor ∨ i ∈ dueEvaluations s.env s.floor ∨ i ∈ dueTurner s.env s.floor ∨
      i ∈ dueDeadlines s ∨ i ∈ dueReoffers before s) ∨
    s.floor.queue.hasOld s.second ≠ s.floor.queue.congested ∧ i = .congested :=
  (mem_dueList present).trans (or_congr Iff.rfl mem_dueCongestion)

theorem congested_due : .congested ∈ dueList before s ↔ s.floor.queue.hasOld s.second ≠ s.floor.queue.congested := by
  cases present : s.tables.present with
  | true =>
    rw [mem_due present, mem_duePoints, mem_dueTimes, mem_dueEvaluations, mem_dueTurner, mem_dueDeadlines, mem_dueReoffers]
    simp
  | false =>
    simp only [dueList, present]
    exact mem_dueCongestion.trans (by simp)

theorem staleDue_iff {b : Bank} {p : Nat} {x : Point} : staleDue b p x = true ↔
    (x.quality = .fresh ∨ x.quality = .held) ∧ b.staleTime p + b.holdTime p < x.age := by
  simp [staleDue, Point.usable]

theorem heldDue_iff {b : Bank} {p : Nat} {x : Point} : heldDue b p x = true ↔
    x.quality = .fresh ∧ b.staleTime p < x.age ∧ ¬b.staleTime p + b.holdTime p < x.age := by
  simp only [heldDue, Bool.and_eq_true, Bool.not_eq_true', ← Bool.not_eq_true, staleDue_iff, beq_iff_eq, decide_eq_true_eq, and_assoc]
  refine and_congr_right fun fresh => and_congr_right fun _ => ?_
  simp [fresh]

/-- R119, R152, R177: an evaluation second. -/
theorem evaluationDue_iff {origin : Nat} : evaluationDue e origin = true ↔
    origin < e.second ∧ (e.second - origin) % e.bank.evalSeconds = 0 := by
  simp [evaluationDue, evaluationSecond]

theorem vesselEvaluates_iff {st : UnitState} :
    st.vesselEvaluates = true ↔ st ∈ [UnitState.running, .held, .done, .discharging] := by
  cases st <;> decide

theorem kilnEvaluates_iff {st : UnitState} : st.kilnEvaluates = true ↔ st ∈ [UnitState.running, .held, .tripped, .done] := by
  cases st <;> decide

theorem pollDue_iff {n : Fin 4} : pollDue s n = true ↔ ∃ q, s.polls[n] = some q ∧ q.made + 2 ≤ s.second := by
  rw [pollDue]
  cases s.polls[n] <;> simp

/-- R104: the vote wait of a transfer. -/
theorem voteWaitDue_iff {b : Fin 20} : voteWaitDue e f b = true ↔ ∃ x tr began, f.batches[b] = some x ∧ x.transfer = some tr ∧
    tr.phase = .pendingSample ∧ tr.voteWait = some began ∧ tr.waitExpired = false ∧ began + e.bank.unsigned 0 0 14 ≤ e.second := by
  simp only [voteWaitDue, waitingTransfer]
  cases f.batches[b] with
  | none => simp
  | some x =>
    cases moving : x.transfer with
    | none => simp [moving]
    | some tr =>
      by_cases pending : tr.phase = .pendingSample
      · cases wait : tr.voteWait <;> simp [moving, pending, wait]
      · simp [moving, pending]

/-- R108: the limit of a transfer. -/
theorem overdueDue_iff {b : Fin 20} : overdueDue e f b = true ↔ ∃ x tr, f.batches[b] = some x ∧ x.transfer = some tr ∧
    tr.overdue = false ∧ e.bank.unsigned 0 0 13 ≠ 0 ∧ tr.startSecond + e.bank.unsigned 0 0 13 * 60 ≤ e.second := by
  simp only [overdueDue]
  cases f.batches[b] with
  | none => simp
  | some x => cases moving : x.transfer <;> simp [moving, and_assoc]

theorem expired_iff {a : Arbiter} {second : Nat} : a.expired second = true ↔ ∃ ending, a.timer = some ending ∧ ending ≤ second := by
  rw [Arbiter.expired]
  cases a.timer <;> simp

theorem parkExpired_iff {a : Arbiter} {second : Nat} :
    a.parkExpired second = true ↔ ∃ ending, a.parkTimer = some ending ∧ ending ≤ second := by
  rw [Arbiter.parkExpired]
  cases a.parkTimer <;> simp

theorem intervalReached_iff' {b : Fin 12} : intervalReached f b = true ↔ f.boxes[b].ctx.state = .running ∧
    0 < dayInterval f.boxes[b].ctx.fields ∧ dayInterval f.boxes[b].ctx.fields * 60 ≤ f.boxes[b].turnClock ∧
    f.arbiter.hasRequest b = false := by
  simp [intervalReached, and_assoc]

theorem any_pending (outs : Vector Output 5) : outs.toList.any (·.pending) = true ↔ ∃ o : Fin 5, outs[o].pending = true := by
  simp [Fin.exists_iff, Vector.any_eq_true]

/-- R119, R128: a vessel's outputs outside its evaluating states. -/
theorem unitReofferDue_vessel {u : Fin 20} {v : Fin 6} (names : (u : Nat) = v) : unitReofferDue e f u = true ↔
    f.vessels[v].origin < e.second ∧ (e.second - f.vessels[v].origin) % e.bank.evalSeconds = 0 ∧
      f.vessels[v].ctx.state ∉ [UnitState.running, .held, .done, .discharging] ∧
      ∃ o : Fin 5, f.vessels[v].outs[o].pending = true := by
  have unit : unitOf u = some (.vessel v) := unitOf_eq_some.mpr names
  have some' : f.vessels[v].outs.toList.any (·.pending) = true ↔ ∃ o : Fin 5, f.vessels[v].outs[o].pending = true :=
    any_pending _
  simp only [unitReofferDue, unit, Bool.and_eq_true, Bool.not_eq_true', ← Bool.not_eq_true, evaluationDue_iff,
    vesselEvaluates_iff, and_assoc, some']

theorem unitReofferDue_box {u : Fin 20} {n : Fin 12} (names : (u : Nat) = 6 + n) : unitReofferDue e f u = true ↔
    f.boxes[n].origin < e.second ∧ (e.second - f.boxes[n].origin) % e.bank.evalSeconds = 0 ∧
      f.boxes[n].ctx.state ∉ [UnitState.running, .held, .done, .discharging] ∧ f.boxes[n].fanPending = true := by
  have unit : unitOf u = some (.box n) := unitOf_eq_some.mpr names
  simp only [unitReofferDue, unit, Bool.and_eq_true, Bool.not_eq_true', ← Bool.not_eq_true, evaluationDue_iff,
    vesselEvaluates_iff, and_assoc]

theorem unitReofferDue_kiln {u : Fin 20} {k : Fin 2} (names : (u : Nat) = 18 + k) : unitReofferDue e f u = true ↔
    f.kilns[k].origin < e.second ∧ (e.second - f.kilns[k].origin) % e.bank.evalSeconds = 0 ∧
      f.kilns[k].ctx.state = .discharging ∧ (f.kilns[k].burner.pending = true ∨ f.kilns[k].fan.pending = true) := by
  have unit : unitOf u = some (.kiln k) := unitOf_eq_some.mpr names
  simp only [unitReofferDue, unit, Bool.and_eq_true, Bool.or_eq_true, beq_iff_eq, evaluationDue_iff, and_assoc]

/-- R189: a kiln's flame count. -/
theorem flameDue_iff {k : Fin 2} : flameDue f k = true ↔
    (f.kilns[k].ctx.state = .running ∨ f.kilns[k].ctx.state = .held) ∧ entryFlameGrace f.kilns[k].ctx.entry ≤ f.kilns[k].flame := by
  simp [flameDue]

/-- The steps that are due in operating mode, kind by kind. -/
theorem due_kinds (present : s.tables.present = true) (i : Instr) : i ∈ dueList before s ↔
    ((∃ p : Fin 192, heldDue s.tables.active p s.points[p] = true ∧ Instr.qualityHeld p = i) ∨
      ∃ p : Fin 192, staleDue s.tables.active p s.points[p] = true ∧ Instr.qualityStale p = i) ∨ i ∈ dueTimes s.floor ∨
    i ∈ dueEvaluations s.env s.floor ∨ i ∈ dueTurner s.env s.floor ∨ i ∈ dueDeadlines s ∨ i ∈ dueReoffers before s ∨
    s.floor.queue.hasOld s.second ≠ s.floor.queue.congested ∧ i = .congested := by
  rw [mem_due present, mem_duePoints]
  simp only [or_assoc]

section Kinds

variable (present : s.tables.present = true)
include present

theorem points_due (p : Fin 192) :
    (.qualityStale p ∈ dueList before s ↔ staleDue s.tables.active p s.points[p] = true) ∧
      (.qualityHeld p ∈ dueList before s ↔ heldDue s.tables.active p s.points[p] = true) := by
  constructor <;> rw [due_kinds present, mem_dueTimes, mem_dueEvaluations, mem_dueTurner, mem_dueDeadlines, mem_dueReoffers] <;> simp

theorem deadlines_due :
    (∀ n, .pollDeadline n ∈ dueList before s ↔ pollDue s n = true) ∧
      (∀ b, .voteWaitExpiry b ∈ dueList before s ↔ voteWaitDue s.env s.floor b = true) ∧
      ∀ b, .transferOverdue b ∈ dueList before s ↔ overdueDue s.env s.floor b = true := by
  refine ⟨fun n => ?_, fun b => ?_, fun b => ?_⟩ <;>
    rw [due_kinds present, mem_dueTimes, mem_dueEvaluations, mem_dueTurner, mem_dueDeadlines, mem_dueReoffers] <;> simp

theorem turner_due :
    (.prepTimeout ∈ dueList before s ↔ s.floor.arbiter.expired s.second = true ∧ s.floor.arbiter.state = .preparing) ∧
      (.startTimeout ∈ dueList before s ↔ s.floor.arbiter.expired s.second = true ∧ s.floor.arbiter.state = .dispatched) ∧
      (.turnOverrun ∈ dueList before s ↔ s.floor.arbiter.expired s.second = true ∧ s.floor.arbiter.state = .turning) ∧
      (.sprayTrailExpiry ∈ dueList before s ↔ s.floor.arbiter.expired s.second = true ∧ s.floor.arbiter.state = .releasing) ∧
      (.parkDelayExpiry ∈ dueList before s ↔ s.floor.arbiter.state = .idle ∧ s.floor.arbiter.parkExpired s.second = true) ∧
      (∀ b, .turnIntervalReached b ∈ dueList before s ↔ intervalReached s.floor b = true) := by
  refine ⟨?_, ?_, ?_, ?_, ?_, fun b => ?_⟩ <;>
    rw [due_kinds present, mem_dueTimes, mem_dueEvaluations, mem_dueTurner, mem_dueDeadlines, mem_dueReoffers] <;> simp

theorem reoffers_due :
    (.pendingReoffer .turner ∈ dueList before s ↔ s.tables.active.inService 20 = true ∧ s.floor.arbiter.waiting ≠ []) ∧
      (∀ n, .pendingReoffer (.poll n) ∈ dueList before s ↔ ∃ q, s.polls[n] = some q ∧ q.offered = false) ∧
      (∀ c : Fin 12, .pendingReoffer (.valve c) ∈ dueList before s ↔
        before.channels[c].valvePending = true ∧ s.floor.channels[c].valvePending = true) ∧
      ∀ u, .pendingReoffer (.unit u) ∈ dueList before s ↔ unitReofferDue s.env s.floor u = true := by
  refine ⟨?_, fun n => ?_, fun c => ?_, fun u => ?_⟩ <;>
    rw [due_kinds present, mem_dueTimes, mem_dueEvaluations, mem_dueTurner, mem_dueDeadlines, mem_dueReoffers] <;> simp

theorem times_due :
    (∀ v : Fin 6, .stepMaximum v ∈ dueList before s ↔
      s.floor.vessels[v].ctx.state = .running ∧ stepMaxTime s.floor.vessels[v].ctx.fields ≤ s.floor.vessels[v].timer) ∧
    (∀ n : Fin 12, .dayEnded n ∈ dueList before s ↔
      s.floor.boxes[n].ctx.state = .running ∧ dayLength s.floor.boxes[n].ctx.fields * 60 ≤ s.floor.boxes[n].dayClock) ∧
    (∀ k : Fin 2, .phaseMaximum k ∈ dueList before s ↔
      s.floor.kilns[k].ctx.state = .running ∧ phaseMaxTime s.floor.kilns[k].ctx.fields ≤ s.floor.kilns[k].timer) ∧
    ∀ k : Fin 2, .flameLost k ∈ dueList before s ↔ flameDue s.floor k = true := by
  refine ⟨fun v => ?_, fun n => ?_, fun k => ?_, fun k => ?_⟩ <;>
    rw [due_kinds present, mem_dueTimes, mem_dueEvaluations, mem_dueTurner, mem_dueDeadlines, mem_dueReoffers] <;> simp

theorem evaluations_due :
    (∀ v : Fin 6, .vesselEvaluation v ∈ dueList before s ↔ evaluationDue s.env s.floor.vessels[v].origin = true ∧
      s.floor.vessels[v].ctx.state.vesselEvaluates = true) ∧
    (∀ n : Fin 12, .boxEvaluation n ∈ dueList before s ↔ evaluationDue s.env s.floor.boxes[n].origin = true ∧
      s.floor.boxes[n].ctx.state.vesselEvaluates = true) ∧
    ∀ k : Fin 2, .kilnEvaluation k ∈ dueList before s ↔ evaluationDue s.env s.floor.kilns[k].origin = true ∧
      s.floor.kilns[k].ctx.state.kilnEvaluates = true := by
  refine ⟨fun v => ?_, fun n => ?_, fun k => ?_⟩ <;>
    rw [due_kinds present, mem_dueTimes, mem_dueEvaluations, mem_dueTurner, mem_dueDeadlines, mem_dueReoffers] <;> simp

end Kinds

end List

/-- The state of a second before its end. -/
def secondState (s : State) : State :=
  { s with second := s.second + 1, time := s.time + 1#32, points := s.points.map Point.aged, floor := secondFloor s }

/-- A second changes no vessel's demand condition. -/
theorem secondFloor_demand (s : State) (v : Fin 6) : vesselDemand (secondFloor s) v = vesselDemand s.floor v := by
  cases present : s.tables.present with
  | true =>
    simp only [vesselDemand, secondFloor, if_pos present]
    rw [floorSecond_vessels, Vessel.second]
    split
    · rfl
    · split <;> rfl
  | false => simp [vesselDemand, secondFloor, present]

/-- Settles O43: the list of the due steps, by the kinds of its steps. -/
theorem secondMakesStepsDue : Obligations.SecondMakesStepsDue := by
  intro s awake
  obtain ⟨t, runs, lines, frame, floor⟩ := exec_second awake
  have due : t.due = dueList s.floor (secondState s) := by rw [frame]; rfl
  have second : t.second = s.second + 1 := by rw [frame]
  have points : t.points = s.points.map Point.aged := by rw [frame]
  have polls : t.polls = s.polls := by rw [frame]
  have told := tellOwners_frame s.env s.floor s.nextEnv (secondFloor s)
  rw [← floor] at told
  obtain ⟨-, vessels, boxes, arbiter, kilns, batches, -⟩ := told
  refine ⟨t, runs, fun transparent i mem => ?_, ?_, fun present => ?_⟩
  · rw [due, dueList] at mem
    have none : (secondState s).tables.present = false := transparent
    rw [none] at mem
    exact (mem_dueCongestion.mp mem).2
  · have old : t.floor.queue.hasOld t.second = (secondFloor s).queue.hasOld (s.second + 1) := by
      rw [second, floor]
      exact tellOwners_hasOld s.env s.floor s.nextEnv (secondFloor s)
    have congested : t.floor.queue.congested = (secondFloor s).queue.congested := by
      rw [floor]
      exact (tellOwners_offered .refl).congested
    rw [due, congested_due, old, congested]
    rfl
  · rw [due, vessels, boxes, arbiter, kilns, batches, second, points, polls]
    obtain ⟨deadline, wait, overdue⟩ := deadlines_due (before := s.floor) (s := secondState s) present
    obtain ⟨prep, start, overrun, trail, park, interval⟩ := turner_due (before := s.floor) (s := secondState s) present
    obtain ⟨turner, poll, valve, unit⟩ := reoffers_due (before := s.floor) (s := secondState s) present
    obtain ⟨steps, days, phases, flames⟩ := times_due (before := s.floor) (s := secondState s) present
    obtain ⟨vesselEvaluations, boxEvaluations, kilnEvaluations⟩ := evaluations_due (before := s.floor) (s := secondState s) present
    refine ⟨fun p => ?_, fun n => (deadline n).trans pollDue_iff,
      fun n => ⟨(wait n).trans voteWaitDue_iff, (overdue n).trans overdueDue_iff⟩, ⟨?_, ?_, ?_, ?_, ?_, turner⟩, poll,
      fun c apart => ?_, fun u v names => (unit u).trans (unitReofferDue_vessel names),
      fun u n names => (unit u).trans (unitReofferDue_box names), fun u k names => (unit u).trans (unitReofferDue_kiln names),
      fun v => ⟨steps v, ?_⟩, fun n => ⟨days n, (interval n).trans intervalReached_iff', ?_⟩,
      fun k => ⟨phases k, (flames k).trans flameDue_iff, ?_⟩⟩
    · obtain ⟨stale, held⟩ := points_due (before := s.floor) (s := secondState s) present p
      exact ⟨stale.trans staleDue_iff, held.trans heldDue_iff⟩
    · exact prep.trans (and_congr expired_iff Iff.rfl)
    · exact start.trans (and_congr expired_iff Iff.rfl)
    · exact overrun.trans (and_congr expired_iff Iff.rfl)
    · exact trail.trans (and_congr expired_iff Iff.rfl)
    · exact park.trans (and_congr Iff.rfl parkExpired_iff)
    · have channel : t.floor.channels[c] = (secondFloor s).channels[c] := by
        have heard : (secondFloor s).KilnsHeard s.nextEnv := by
          rw [secondFloor, if_pos present]
          exact floorSecond_heard s.nextEnv s.floor
        rw [floor]
        exact tellOwners_heard (secondFloor_demand s) heard apart
      rw [channel]
      exact valve c
    · exact (vesselEvaluations v).trans ((and_congr evaluationDue_iff vesselEvaluates_iff).trans and_assoc)
    · exact (boxEvaluations n).trans ((and_congr evaluationDue_iff vesselEvaluates_iff).trans and_assoc)
    · exact (kilnEvaluations k).trans ((and_congr evaluationDue_iff kilnEvaluates_iff).trans and_assoc)

end Sys2Proof.Machine

/-! SUPPORT. A point that becomes HELD or STALE, and what its notices do to kilns, boxes, channels and the turner (R32, R34, R140,
R154, R165, R189): O44. -/

namespace Sys2Proof.Machine

/-- A fold in which the element `a` takes `Q` to be reached from `P`, and the others keep both. -/
theorem foldl_reaches {σ α : Type} {op : σ → α → σ} {P Q : σ → Prop} {a : α} (before : ∀ s b, b ≠ a → P s → P (op s b))
    (reach : ∀ s, P s → Q (op s a)) (after : ∀ s b, Q s → Q (op s b)) {l : List α} (mem : a ∈ l) {s : σ} (start : P s) :
    Q (l.foldl op s) := by
  induction l generalizing s with
  | nil => cases mem
  | cons b l ih =>
    rw [List.foldl_cons]
    by_cases here : b = a
    · subst here
      exact foldl_inv Q op after l _ (reach s start)
    · exact ih ((List.mem_cons.mp mem).resolve_left (Ne.symm here)) (before s b here start)

/-! ### What an attempt of a transfer leaves of the plant -/

/-- Vessels, channels, boxes, arbiter and kilns are as they were. -/
structure Floor.SamePlant (f g : Floor) : Prop where
  vessels : g.vessels = f.vessels
  channels : g.channels = f.channels
  boxes : g.boxes = f.boxes
  arbiter : g.arbiter = f.arbiter
  kilns : g.kilns = f.kilns

section Plant

variable {e : Env} {f g h : Floor} {b : Fin 20}

theorem Floor.SamePlant.refl (f : Floor) : f.SamePlant f := ⟨rfl, rfl, rfl, rfl, rfl⟩

theorem Floor.SamePlant.trans (a : f.SamePlant g) (b : g.SamePlant h) : f.SamePlant h :=
  ⟨b.vessels.trans a.vessels, b.channels.trans a.channels, b.boxes.trans a.boxes, b.arbiter.trans a.arbiter,
    b.kilns.trans a.kilns⟩

theorem foldl_samePlant {α : Type} {op : Floor → α → Floor} (each : ∀ (f : Floor) a, f.SamePlant (op f a)) (l : List α) (f : Floor) :
    f.SamePlant (l.foldl op f) := foldl_inv f.SamePlant op (fun _ _ same => same.trans (each _ _)) l f (.refl f)

theorem raiseEvent_samePlant (code index : Nat) (v : Int) : f.SamePlant (raiseEvent e code index v f) := by
  constructor <;> simp

theorem attemptOnce_samePlant (told : Bool) : f.SamePlant (attemptOnce e b told f) := by
  simp only [attemptOnce]
  split
  · exact .refl f
  · split
    · split
      · rw [writeTransfer_floor]
        exact ⟨rfl, rfl, rfl, rfl, rfl⟩
      · split
        · exact ⟨rfl, rfl, rfl, rfl, rfl⟩
        · exact .refl f
    · exact .refl f

theorem expireWait_samePlant : f.SamePlant (expireWait e b f) := by
  simp only [expireWait]
  split
  · exact Floor.SamePlant.trans (g := f.transfer b fun t => { t with waitExpired := true }) ⟨rfl, rfl, rfl, rfl, rfl⟩
      (attemptOnce_samePlant true)
  · exact .refl f

theorem attemptSlot_samePlant (f : Floor) (b : Fin 20) : f.SamePlant (attemptSlot e f b) :=
  (attemptOnce_samePlant true).trans expireWait_samePlant

theorem transferAttempt_samePlant (f : Floor) (b : Fin 20) : f.SamePlant (transferAttempt e b f) := by
  simp only [transferAttempt, noticeIfWritten]
  split
  · exact attemptSlot_samePlant f b
  · exact (attemptSlot_samePlant f b).trans (foldl_samePlant attemptSlot_samePlant _ _)

/-- R103: a notice at the Batch Table changes nothing of the plant. -/
theorem batchNotice_samePlant (p : Nat) (f : Floor) : f.SamePlant (batchNotice e p f) :=
  foldl_samePlant transferAttempt_samePlant _ f

end Plant

/-! ### What stops settles the channels -/

section Settling

variable {e : Env} {f : Floor}

theorem stopChannelsOf_settles (e : Env) (u : PlantUnit) (f : Floor) : f.Settles (stopChannelsOf e u f) :=
  foldl_settles (fun f c => stopChannel_settles e c f) _ f

theorem enterReleasing_settles (e : Env) (r : TurnResult) (f : Floor) : f.Settles (enterReleasing e r f) := by
  simp only [enterReleasing]
  split
  · exact .same rfl
  · next b granted =>
    refine Floor.Settles.trans (arb_settles f fun a => { a with
      state := .releasing, result := r, timer := some (e.second + entrySprayTrail f.boxes[b].ctx.entry) }) ?_
    split
    · exact releaseTurn_settles ..
    · split
      · refine Floor.Settles.trans (stopChannelsOf_settles e (.box b) _) ?_
        refine Floor.Settles.trans (.same ?_) (releaseTurn_settles ..)
        rw [(raiseEvent_frame ..).2.1]
        rfl
      · exact .same rfl

theorem boxLeaves_settles (e : Env) (b : Fin 12) (f : Floor) : f.Settles (boxLeaves e b f) := by
  simp only [boxLeaves]
  split
  · split
    · exact ((arb_settles f _).trans (withdraw_settles e b (f.arb (·.drop b)))).trans (.same (by simp))
    · refine Floor.Settles.trans (.same (g := (turnerStop e f).arb (·.drop b)) (by simp)) ?_
      exact (withdraw_settles e b _).trans (.same (by simp))
    · refine Floor.Settles.trans (.same (g := turnerStop e f) (by simp)) ?_
      exact (stopChannelsOf_settles ..).trans (enterReleasing_settles ..)
    · exact .same rfl
  · exact .same rfl

/-- R154: a box that loses its bed reading. -/
theorem boxQuality_settles (e : Env) (p : Nat) (b : Fin 12) (f : Floor) : f.Settles (boxQuality e p b f) := by
  simp only [boxQuality, bedLost, holdBox]
  split
  · split
    · refine Floor.Settles.trans (.same (g := enterHeld e (.box b) .point .running f) (by simp)) ?_
      exact (boxLeaves_settles e b _).trans (.same (by simp))
    · exact .same rfl
  · exact .same rfl

theorem kilnQuality_settles (e : Env) (p : Nat) (f : Floor) (k : Fin 2) : f.Settles (kilnQuality e p f k) := by
  simp only [kilnQuality, tripKiln]
  split
  · split
    · refine Floor.Settles.trans ?_ (.same (by simp; rfl))
      refine Floor.Settles.trans (.same ?_) (stopUnitChannel_settles ..)
      split <;> simp
    · exact .same rfl
  · exact .same rfl

theorem turnerFault_settles (e : Env) (value : Int) (f : Floor) : f.Settles (turnerFault e value f) := by
  simp only [turnerFault]
  split
  · exact .same rfl
  · next b granted =>
    refine Floor.Settles.trans (.same (g := turnerStop e f) (by simp)) ?_
    refine (stopChannelsOf_settles e (.box b) _).trans ?_
    refine (withdraw_settles e b _).trans (.same ?_)
    simp only [afterFault]
    split <;> simp <;> rfl

theorem arbiterQuality_settles (e : Env) (p : Nat) (stale : Bool) (f : Floor) : f.Settles (arbiterQuality e p stale f) := by
  simp only [arbiterQuality]
  split
  · split
    · split
      · exact turnerFault_settles ..
      · split <;> exact .same (by simp)
    · exact .same (by simp)
  · exact .same rfl

end Settling

/-! ### A channel whose point is lost -/

section Masks

variable {e : Env} {f : Floor} {c d : Fin 12} {p : Nat}

/-- `y` is `x` on its way to rest: open, or STOPPED with its valve CLOSED, with the counts of `x`. -/
def Channel.Halting (x y : Channel) : Prop :=
  (y.isOpen = true ∨ (y.state = .stopped ∧ y.valve = .closed)) ∧ y.base = x.base ∧ y.current = x.current

/-- `y` is `x` STOPPED, its valve CLOSED, with the counts of `x`. -/
def Channel.Halted (x y : Channel) : Prop :=
  (y.state = .stopped ∧ y.valve = .closed) ∧ y.base = x.base ∧ y.current = x.current

theorem Channel.Halted.shut {x y : Channel} (a : x.Halted y) : y.isOpen = false := by simp [Channel.isOpen, a.1.1]

theorem Channel.Halted.settles {x y z : Channel} (a : x.Halted y) (b : y.Settles z) : x.Halted z := by
  rw [b.2 a.shut]
  exact a

theorem Channel.Halting.settles {x y z : Channel} (a : x.Halting y) (b : y.Settles z) : x.Halting z := by
  obtain ⟨isOpen | halted, base, current⟩ := a
  · obtain ⟨opens, dose⟩ := b.1 isOpen
    refine ⟨opens, ?_, ?_⟩ <;> rw [dose]
    · exact base
    · exact current
  · obtain ⟨halted, counts⟩ := Channel.Halted.settles ⟨halted, base, current⟩ b
    exact ⟨.inr halted, counts⟩

/-- R140: point `p` meters or proves channel `c`. -/
def UsesPoint (e : Env) (p : Nat) (c : Fin 12) : Prop := e.bank.meterPoint c = p ∨ e.bank.feedbackPoint c = p

theorem maskChannel_idle {report : Floor → Floor} (idle : f.channels[c].isOpen = false ∨ ¬UsesPoint e p c) :
    maskChannel report e c p f = f := by
  refine if_neg ?_
  rintro ⟨isOpen, uses⟩
  exact idle.elim (fun shut => Bool.false_ne_true (shut.symm.trans isOpen)) fun other => other uses

/-- R140: the floor once a channel that lost a point has been masked and STOPPED, before the report to its owner. -/
def maskedFloor (e : Env) (c : Fin 12) (f : Floor) : Floor :=
  enterChannel e c .stopped (f.channel c fun x => { x with masked := true })

theorem maskChannel_open {report : Floor → Floor} (isOpen : f.channels[c].isOpen = true) (uses : UsesPoint e p c) :
    maskChannel report e c p f = raiseEvent e 21 c p (report (maskedFloor e c f)) := if_pos ⟨isOpen, uses⟩

theorem maskedFloor_channels (e : Env) (c : Fin 12) (f : Floor) :
    ∃ pending, (maskedFloor e c f).channels =
      upd f.channels c fun x => Channel.entered e.second .stopped pending { x with masked := true } := by
  obtain ⟨pending, entered⟩ := enterChannel_channels e c .stopped (f.channel c fun x => { x with masked := true })
  refine ⟨pending, entered.trans ?_⟩
  rw [channel_channels, upd_upd]
  rfl

/-- The mask of a channel settles every other. -/
theorem maskChannel_settles_other (other : d ≠ c) :
    f.channels[c].Settles (maskChannel (ownerStopped e d) e d p f).channels[c] := by
  by_cases masks : f.channels[d].isOpen = true ∧ UsesPoint e p d
  · obtain ⟨pending, entered⟩ := maskedFloor_channels e d f
    have kept : (maskedFloor e d f).channels[c] = f.channels[c] := by
      rw [entered]
      exact upd_get_ne _ _ other
    rw [maskChannel_open masks.1 masks.2, ← kept, (raiseEvent_frame ..).2.1]
    exact (ownerStopped_settles e d _).each c
  · rw [maskChannel_idle (by
      cases isOpen : f.channels[d].isOpen with
      | false => exact .inl rfl
      | true => exact .inr fun uses => masks ⟨isOpen, uses⟩)]
    exact .refl _

/-- R140: the mask of an open channel stops it, its counts as they were. -/
theorem maskChannel_halts (isOpen : f.channels[c].isOpen = true) (uses : UsesPoint e p c) :
    f.channels[c].Halted (maskChannel (ownerStopped e c) e c p f).channels[c] ∧
      (maskChannel (ownerStopped e c) e c p f).channels[c].masked = true := by
  obtain ⟨pending, entered⟩ := maskedFloor_channels e c f
  have own : (maskedFloor e c f).channels[c] = Channel.entered e.second .stopped pending { f.channels[c] with masked := true } := by
    rw [entered]
    exact upd_get_self ..
  have dose := entered_sameDose e.second .stopped pending { f.channels[c] with masked := true }
  have halted : f.channels[c].Halted (maskedFloor e c f).channels[c] := by
    rw [own]
    refine ⟨by simp [Channel.entered], ?_, ?_⟩ <;> rw [dose]
  have masked : (maskedFloor e c f).channels[c].masked = true := by rw [own, dose]
  rw [maskChannel_open isOpen uses, (raiseEvent_frame ..).2.1]
  have settles := (ownerStopped_settles e c (maskedFloor e c f)).each c
  refine ⟨halted.settles settles, ?_⟩
  rw [settles.2 halted.shut]
  exact masked

theorem maskChannel_stays {x : Channel} (halted : x.Halted f.channels[c]) :
    x.Halted (maskChannel (ownerStopped e d) e d p f).channels[c] ∧
      (maskChannel (ownerStopped e d) e d p f).channels[c].masked = f.channels[c].masked := by
  by_cases same : d = c
  · subst same
    rw [maskChannel_idle (.inl halted.shut)]
    exact ⟨halted, rfl⟩
  · have settles := maskChannel_settles_other (e := e) (f := f) (p := p) same
    refine ⟨halted.settles settles, ?_⟩
    rw [settles.2 halted.shut]

/-- R140: the masks that a lost point makes. -/
def maskAll (e : Env) (p : Nat) (f : Floor) : Floor := (List.finRange 12).foldl (fun f c => maskChannel (ownerStopped e c) e c p f) f

theorem maskAll_halts {x : Channel} (uses : UsesPoint e p c) (halting : x.Halting f.channels[c]) :
    x.Halted (maskAll e p f).channels[c] := by
  refine foldl_reaches (a := c) (P := fun g : Floor => x.Halting g.channels[c]) (Q := fun g : Floor => x.Halted g.channels[c])
    (fun g d other halting => halting.settles (maskChannel_settles_other other)) (fun g halting => ?_)
    (fun g d halted => (maskChannel_stays halted).1) (List.mem_finRange c) halting
  obtain ⟨isOpen | stopped, base, current⟩ := halting
  · obtain ⟨stopped, base', current'⟩ := (maskChannel_halts isOpen uses).1
    exact ⟨stopped, base'.trans base, current'.trans current⟩
  · have halted : x.Halted g.channels[c] := ⟨stopped, base, current⟩
    exact (maskChannel_stays halted).1

end Masks

end Sys2Proof.Machine

/-! SUPPORT. The end of an event in which a point becomes HELD or STALE: O44. -/

namespace Sys2Proof.Machine

section Notice

variable {e : Env} {f g : Floor} {p : Nat}

/-- R154: the boxes that lose their bed reading. -/
def boxesLost (e : Env) (p : Nat) (f : Floor) : Floor := (List.finRange 12).foldl (fun f b => boxQuality e p b f) f

/-- R189: the kilns that lose their Ton. -/
def kilnsLost (e : Env) (p : Nat) (f : Floor) : Floor := (List.finRange 2).foldl (kilnQuality e p) f

/-- R34: the floor that a STALE point's notices come to at the arbiter. -/
def staleFloor (e : Env) (p : Nat) (f : Floor) : Floor := arbiterQuality e p true (maskAll e p (kilnsLost e p (boxesLost e p f)))

theorem staleNotice_samePlant (e : Env) (p : Nat) (f : Floor) : (staleFloor e p f).SamePlant (staleNotice e p f) := by
  have noticed := batchNotice_samePlant (e := e) p (staleFloor e p f)
  by_cases watched : e.bank.watched p
  · rw [staleNotice, if_pos watched]
    exact noticed.trans (raiseEvent_samePlant ..)
  · rw [staleNotice, if_neg watched]
    exact noticed

/-! ### Boxes -/

theorem ownerStopped_box (c b : Fin 12) : (ownerStopped e c f).ctx (.box b) = f.ctx (.box b) := by
  simp only [ownerStopped]
  split
  · simp only [vesselStopped]
    split
    · exact (holdVessel_ctx ..).trans (if_neg nofun)
    · rfl
  · simp
  · simp only [kilnStopped]
    split
    · exact (enterHeld_ctx ..).trans (if_neg nofun)
    · rfl
  · rfl

theorem maskAll_box (b : Fin 12) : (maskAll e p f).ctx (.box b) = f.ctx (.box b) := by
  refine foldl_keeps (fun g => g.ctx (.box b)) _ (fun g c => ?_) _ f
  simp only [maskChannel]
  split
  · rw [raiseEvent_ctx, ownerStopped_box, enterChannel_ctx, channel_ctx]
  · rfl

theorem kilnQuality_box (k : Fin 2) (b : Fin 12) : (kilnQuality e p f k).ctx (.box b) = f.ctx (.box b) := by
  simp only [kilnQuality]
  split
  · rw [tripKiln_ctx, if_neg nofun]
  · rfl

/-- R154: a box once point `p` is lost. -/
def Ctx.bedLost (lost : Bool) (c : Ctx) : Ctx := if lost = true ∧ c.state = .running then c.heldFor .point else c

theorem boxQuality_ctx (b c : Fin 12) : (boxQuality e p b f).ctx (.box c) =
    if c = b then (f.ctx (.box c)).bedLost (e.bank.boxBinding c 1 == p) else f.ctx (.box c) := by
  by_cases binds : e.bank.boxBinding b 1 = p
  · rw [boxQuality, if_pos binds, Machine.bedLost]
    by_cases running : f.boxes[b].ctx.state = .running
    · rw [if_pos running, boxRound_ctx, holdBox_ctx]
      by_cases here : c = b
      · subst here
        rw [if_pos rfl, if_pos rfl, Ctx.bedLost, if_pos ⟨beq_iff_eq.mpr binds, running⟩]
        rfl
      · rw [if_neg here, if_neg fun same => here (PlantUnit.box.inj same)]
    · rw [if_neg running]
      split
      · next here =>
        subst here
        exact (if_neg fun now => running now.2).symm
      · rfl
  · rw [boxQuality, if_neg binds]
    split
    · next here =>
      subst here
      exact (if_neg fun now => binds (beq_iff_eq.mp now.1)).symm
    · rfl

/-- R154: a RUNNING box whose bed reading is lost is HELD(POINT). -/
theorem staleFloor_box {b : Fin 12} (binds : e.bank.boxBinding b 1 = p) (running : f.boxes[b].ctx.state = .running) :
    (staleFloor e p f).ctx (.box b) = f.boxes[b].ctx.heldFor .point := by
  have kilns : (kilnsLost e p (boxesLost e p f)).ctx (.box b) = (boxesLost e p f).ctx (.box b) :=
    foldl_keeps (fun g : Floor => g.ctx (.box b)) _ (fun g k => kilnQuality_box k b) _ _
  have boxes := foldl_eachAt (fun (g : Floor) (b : Fin 12) => g.ctx (.box b)) (fun b c => c.bedLost (e.bank.boxBinding b 1 == p))
    (fun g b => boxQuality e p b g) (fun g b c => boxQuality_ctx b c) (List.finRange 12) (List.nodup_finRange 12) f b
  rw [if_pos (List.mem_finRange b)] at boxes
  rw [staleFloor, arbiterQuality_ctx, maskAll_box, kilns]
  exact boxes.trans (if_pos ⟨beq_iff_eq.mpr binds, running⟩)

/-! ### Kilns -/

/-- R189: kiln `k` has tripped for the loss of its Ton. -/
def Floor.TonLost (f : Floor) (k : Fin 2) : Prop :=
  f.kilns[k].ctx.state = .tripped ∧ ∃ y, f.kilns[k].trip = some y ∧ y.cause = .tonLost

theorem Floor.TonLost.same {k : Fin 2} (lost : f.TonLost k) (kilns : g.kilns = f.kilns) : g.TonLost k := by
  rw [Floor.TonLost, kilns]
  exact lost

theorem ownerStopped_tonLost {k : Fin 2} (lost : f.TonLost k) (c : Fin 12) : (ownerStopped e c f).TonLost k := by
  simp only [ownerStopped]
  split
  · exact lost.same (by simp)
  · exact lost.same (by simp)
  · next j _ =>
    simp only [kilnStopped]
    split
    · next stops =>
      have other : j ≠ k := by
        rintro rfl
        exact absurd (lost.1.symm.trans stops.1) nofun
      have kept : (enterHeld e (.kiln j) .dose .running f).kilns[k] = f.kilns[k] := by
        rw [(enterHeld_kiln ..).2.2]
        exact upd_get_ne _ _ other
      rw [Floor.TonLost, kept]
      exact lost
    · exact lost
  · exact lost

theorem maskAll_tonLost {k : Fin 2} (lost : f.TonLost k) : (maskAll e p f).TonLost k := by
  refine foldl_inv (fun g : Floor => g.TonLost k) _ (fun g c lost => ?_) _ f lost
  simp only [maskChannel]
  split
  · refine Floor.TonLost.same ?_ ((raiseEvent_frame ..).2.2.2.2.1)
    exact ownerStopped_tonLost (lost.same (by simp)) c
  · exact lost

/-- R189: a kiln that is RUNNING or HELD trips when its Ton is lost. -/
theorem staleFloor_kiln {k : Fin 2} (binds : e.bank.kilnBinding k 1 = p)
    (firing : f.kilns[k].ctx.state = .running ∨ f.kilns[k].ctx.state = .held) : (staleFloor e p f).TonLost k := by
  have boxes : (boxesLost e p f).kilns = f.kilns := by
    refine foldl_keeps Floor.kilns _ (fun g b => ?_) _ f
    simp
  have tripped : (kilnsLost e p (boxesLost e p f)).TonLost k := by
    refine foldl_reaches (a := k) (P := fun g : Floor => g.kilns[k].ctx.state = .running ∨ g.kilns[k].ctx.state = .held)
      (Q := fun g : Floor => g.TonLost k) (fun g j other live => ?_) (fun g live => ?_) (fun g j lost => ?_) (List.mem_finRange k) ?_
    · simp only [kilnQuality]
      split
      · rw [tripKiln_other other.symm]
        exact live
      · exact live
    · rw [kilnQuality, if_pos binds, Floor.TonLost, tripKiln_live _ live]
      exact ⟨rfl, _, rfl, rfl⟩
    · simp only [kilnQuality]
      split
      · rw [Floor.TonLost, tripKiln_get, Kiln.afterCause]
        have dead : ¬(g.kilns[k].ctx.state = .running ∨ g.kilns[k].ctx.state = .held) := by
          rw [lost.1]
          exact nofun
        rw [if_neg dead, ite_self]
        exact lost
      · exact lost
    · rw [boxes]
      exact firing
  have noticed : (staleFloor e p f).kilns = (maskAll e p (kilnsLost e p (boxesLost e p f))).kilns := (arbiterQuality_frame ..).2.1
  exact (maskAll_tonLost tripped).same noticed

/-! ### Channels -/

/-- R140: an open channel that loses a point is STOPPED. -/
theorem staleFloor_channel {c : Fin 12} (uses : UsesPoint e p c) (isOpen : f.channels[c].isOpen = true) :
    f.channels[c].Halted (staleFloor e p f).channels[c] := by
  have boxes : f.Settles (boxesLost e p f) := foldl_settles (fun g b => boxQuality_settles e p b g) _ f
  have kilns : f.Settles (kilnsLost e p (boxesLost e p f)) := boxes.trans (foldl_settles (kilnQuality_settles e p) _ _)
  have halting : f.channels[c].Halting (kilnsLost e p (boxesLost e p f)).channels[c] :=
    Channel.Halting.settles ⟨.inl isOpen, rfl, rfl⟩ (kilns.each c)
  exact (maskAll_halts uses halting).settles ((arbiterQuality_settles e p true _).each c)

/-- R34: point `p` is the Ton of no kiln and the bed of no box. -/
structure Alone (e : Env) (p : Nat) : Prop where
  kilns : ∀ k : Fin 2, e.bank.kilnBinding k 1 ≠ p
  boxes : ∀ b : Fin 12, e.bank.boxBinding b 1 ≠ p

theorem Alone.staleFloor (alone : Alone e p) : staleFloor e p f = arbiterQuality e p true (maskAll e p f) := by
  have boxes : boxesLost e p f = f := foldl_idle fun b _ _ => if_neg (alone.boxes b)
  have kilns : kilnsLost e p f = f := foldl_idle fun k _ _ => if_neg (alone.kilns k)
  rw [Machine.staleFloor, boxes, kilns]

theorem kilnStopped_openAt (k : Fin 2) (c : Fin 12) : (kilnStopped e k f).openAt c = f.openAt c := openAt_of_channels (by simp) c

/-- The report of another channel's stop opens and closes no channel. -/
theorem ownerStopped_openAt {c d : Fin 12} (other : c ≠ d) : (ownerStopped e d f).openAt c = f.openAt c := by
  cases reported : reportedOwner e d with
  | none => rw [ownerStopped, reported]
  | some u =>
    cases u with
    | vessel v =>
      rw [ownerStopped, reported]
      simp only [vesselStopped]
      split
      · exact holdVessel_openAt (reportedOwner_unitChannel reported) other .dose
      · rfl
    | box b =>
      rw [ownerStopped, reported]
      exact sprayReport_openAt b
    | kiln k =>
      rw [ownerStopped, reported]
      exact kilnStopped_openAt k c

theorem maskChannel_openAt {c d : Fin 12} (other : d ≠ c) : (maskChannel (ownerStopped e d) e d p f).openAt c = f.openAt c := by
  simp only [maskChannel]
  split
  · have kept : (maskedFloor e d f).openAt c = f.openAt c := by
      obtain ⟨pending, entered⟩ := maskedFloor_channels e d f
      rw [Floor.openAt, entered, upd_get_ne _ _ other]
      rfl
    have reported := (ownerStopped_openAt (e := e) (f := maskedFloor e d f) other.symm).trans kept
    exact (openAt_of_channels (raiseEvent_frame ..).2.1 c).trans reported
  · rfl

theorem Channel.Settles.masked {x y : Channel} (a : x.Settles y) (shut : x.isOpen = false) : y.masked = x.masked := by rw [a.2 shut]

/-- R140: where the point is no Ton and no bed, the channel is masked too. -/
theorem staleFloor_masked {c : Fin 12} (alone : Alone e p) (uses : UsesPoint e p c) (isOpen : f.channels[c].isOpen = true) :
    (staleFloor e p f).channels[c].masked = true := by
  obtain ⟨halted, masked⟩ : f.channels[c].Halted (maskAll e p f).channels[c] ∧ (maskAll e p f).channels[c].masked = true :=
    ⟨maskAll_halts uses ⟨.inl isOpen, rfl, rfl⟩,
      (foldl_reaches (a := c) (P := fun g : Floor => g.openAt c = true)
        (Q := fun g : Floor => g.channels[c].isOpen = false ∧ g.channels[c].masked = true)
        (fun g d other isOpen => (maskChannel_openAt other).trans isOpen)
        (fun g isOpen => ⟨(maskChannel_halts isOpen uses).1.shut, (maskChannel_halts isOpen uses).2⟩)
        (fun g d shut => by
          by_cases same : d = c
          · subst same
            rw [maskChannel_idle (.inl shut.1)]
            exact shut
          · have settles := maskChannel_settles_other (e := e) (f := g) (p := p) same
            refine ⟨settles.shut shut.1, ?_⟩
            exact (settles.masked shut.1).trans shut.2) (List.mem_finRange c) isOpen).2⟩
  rw [alone.staleFloor]
  have settles := (arbiterQuality_settles e p true (maskAll e p f)).each c
  exact (settles.masked halted.shut).trans masked

/-- R165: where nothing else uses the turner's point, its loss is a turner fault. -/
theorem Alone.turnerFault {n : Fin 12} (alone : Alone e p) (turner : e.bank.isTurnerPoint p = true)
    (grant : f.arbiter.grant = some n) (unused : ∀ c, ¬UsesPoint e p c) :
    Machine.staleFloor e p f = Machine.turnerFault e (256 + p) f := by
  have masks : maskAll e p f = f := foldl_idle fun c _ _ => maskChannel_idle (.inr (unused c))
  rw [alone.staleFloor, masks, arbiterQuality, if_pos turner, if_pos rfl, if_pos (by simp [grant])]

/-- R165: what a turner fault of box `n` leaves of the arbiter and of the turn clocks. -/
structure Floor.Faulted (f g : Floor) (n : Fin 12) : Prop where
  grant : g.arbiter.grant = none
  request : g.arbiter.hasRequest n = false
  faults : g.arbiter.faults = f.arbiter.faults + 1
  turnClock : ∀ b, (g.boxAt b).turnClock = (f.boxAt b).turnClock
  disabled : 2 ≤ f.arbiter.faults → g.arbiter.state = .disabled
  idle : f.arbiter.faults < 2 → g.arbiter.state = .idle

theorem Floor.Faulted.told {h : Floor} {n : Fin 12} (a : f.Faulted g n) (arbiter : h.arbiter = g.arbiter)
    (boxes : h.boxes = g.boxes) : f.Faulted h n := by
  obtain ⟨grant, request, faults, turnClock, disabled, idle⟩ := a
  exact ⟨arbiter ▸ grant, arbiter ▸ request, arbiter ▸ faults, fun b => (boxAt_congr boxes) ▸ turnClock b, arbiter ▸ disabled,
    arbiter ▸ idle⟩

theorem afterFault_of_turnerFault {n : Fin 12} (value : Int) (grant : f.arbiter.grant = some n) (unready : turnerReady e = false) :
    f.Faulted (turnerFault e value f) n := by
  obtain ⟨h, faulted, withdrawn, request, counted, fans⟩ := turnerFault_counted (e := e) value grant
  have leaves := afterFault_leaves e h
  rw [← faulted] at leaves
  refine ⟨?_, ?_, leaves.faults.trans counted, fun b => (leaves.turnClock b).trans (fans.turnClock b),
    fun many => (leaves.disabled (by omega)).1, fun few => (leaves.idle (by omega) unready).1⟩
  · by_cases third : 3 ≤ h.arbiter.faults
    · exact (leaves.disabled third).2.trans withdrawn
    · exact (leaves.idle (by omega) unready).2.trans withdrawn
  · rw [Arbiter.hasRequest, leaves.queue]
    exact request

end Notice

/-! ### The end of the event -/

section Ends

variable {s : State} {p : Fin 192}

/-- The points once point `p` has another record. -/
theorem sampledEnv_at (x : Point) (i : Int) :
    (s.sampledEnv p x).point i = if indexOf 192 i = some p then x else s.env.point i := by
  cases named : indexOf 192 i with
  | none =>
    rw [if_neg nofun, Env.point, Env.point, named]
  | some j =>
    rw [Env.point, Env.point, named]
    by_cases here : j = p
    · rw [if_pos (congrArg some here), here]
      exact Vector.getElem_set_self _
    · rw [if_neg fun same => here (Option.some.inj same)]
      exact Vector.getElem_set_ne p.2 j.2 fun same => here (Fin.ext same.symm)

/-- R148, R159: a turner whose position or status cannot be used is not ready. -/
theorem sampledEnv_unready {x : Point} (binds : s.tables.active.binding 20 6 = (p : Nat) ∨ s.tables.active.binding 20 7 = (p : Nat))
    (lost : x.usable = false) : turnerReady (s.sampledEnv p x) = false := by
  obtain position | status := binds
  · have reads : (s.sampledEnv p x).turnerPosition = x := sampledEnv_point position
    simp [turnerReady, reads, lost]
  · have reads : (s.sampledEnv p x).turnerStatus = x := sampledEnv_point status
    simp [turnerReady, reads, lost]

/-- R32: FRESH becomes HELD, and nothing follows. -/
theorem exec_qualityHeld (awake : s.inReset = false) (lines : s.LinesFollow) (due : .qualityHeld p ∈ s.due)
    (fresh : s.points[p].quality = .fresh) (stale : s.tables.active.staleTime p < s.points[p].age)
    (held : s.points[p].age ≤ s.tables.active.staleTime p + s.tables.active.holdTime p) :
    exec (.qualityHeld p) s = .next { s with
      due := s.due.erase (.qualityHeld p), points := s.points.set p { s.points[p] with quality := .held } } := by
  have works : qualityHeld p { s with due := s.due.erase (.qualityHeld p) } = { s with
      due := s.due.erase (.qualityHeld p), points := s.points.set p { s.points[p] with quality := .held } } := by
    refine if_pos ?_
    simp only [heldDue, staleDue, Bool.and_eq_true, beq_iff_eq, decide_eq_true_eq, Bool.not_eq_true', Bool.and_eq_false_imp,
      decide_eq_false_iff_not, Nat.not_lt]
    exact ⟨⟨fresh, stale⟩, fun _ => held⟩
  have permits (f : Floor) (k : Fin 2) :
      permit (s.sampledEnv p { s.points[p] with quality := .held }) f k = permit s.env f k := by
    have ton : ((s.sampledEnv p { s.points[p] with quality := .held }).ton k).usable = (s.env.ton k).usable := by
      refine (congrArg Point.usable (sampledEnv_at _ _)).trans ?_
      split
      · next named =>
        have reads : s.env.ton k = s.points[p] := by
          rw [Env.ton, Env.point, show indexOf 192 (s.env.bank.kilnBinding k 1) = some p from named]
          rfl
        rw [reads, Point.usable, Point.usable, fresh]
        rfl
      · rfl
    simp only [permit, ton]
    rfl
  have told : tellOwners s.env s.floor (s.sampledEnv p { s.points[p] with quality := .held }) s.floor = s.floor :=
    tellOwners_quiet _ _ _ _ rfl rfl fun k => (permits s.floor k).symm
  refine congrArg Host.Outcome.next ((takeDue_taken _ _ s awake due).trans ?_)
  rw [works]
  have same : ({ s with
      due := s.due.erase (.qualityHeld p), points := s.points.set p { s.points[p] with quality := .held } } : State).lines =
      s.lines := by
    have follow : linesOf { s with
        due := s.due.erase (.qualityHeld p), points := s.points.set p { s.points[p] with quality := .held } } = linesOf s := by
      simp only [linesOf]
      rw [← permits, ← permits]
      rfl
    rw [State.lines, State.lines, follow]
  exact (congrArg (fun f : Floor => setLines { s with
    due := s.due.erase (.qualityHeld p)
    points := s.points.set p { s.points[p] with quality := .held }
    floor := f }) told).trans (setLines_same s _ lines rfl same)

/-- R32, R34: FRESH or HELD becomes STALE, and the notices follow. -/
theorem exec_qualityStale (awake : s.inReset = false) (due : .qualityStale p ∈ s.due)
    (usable : s.points[p].quality = .fresh ∨ s.points[p].quality = .held)
    (past : s.tables.active.staleTime p + s.tables.active.holdTime p < s.points[p].age) :
    ∃ t, exec (.qualityStale p) s = .next t ∧ t.LinesFollow ∧
      t = { s with
        due := s.due.erase (.qualityStale p)
        points := s.points.set p { s.points[p] with quality := .stale }
        floor := t.floor
        pins := t.pins } ∧
      (staleNotice (s.sampledEnv p { s.points[p] with quality := .stale }) p s.floor).ToldOnly t.floor := by
  have works : qualityStale p { s with due := s.due.erase (.qualityStale p) } =
      becomeStale p { s with due := s.due.erase (.qualityStale p) } := by
    refine if_pos ?_
    simp only [staleDue, Point.usable, Bool.and_eq_true, Bool.or_eq_true, beq_iff_eq, decide_eq_true_eq]
    exact ⟨usable, past⟩
  refine ⟨_, congrArg Host.Outcome.next ((takeDue_taken _ _ s awake due).trans (congrArg (finish s) works)), finish_follow .., ?_, ?_⟩
  · exact finish_eq s _
  · rw [finish_floor]
    exact told_only _ _ _ _ (staleNotice (s.sampledEnv p { s.points[p] with quality := .stale }) p s.floor).queue

end Ends

/-- Settles O44: what the notices of the Point Store leave, part by part. -/
theorem pointsAgeToHeldAndStale : Obligations.PointsAgeToHeldAndStale := by
  intro s p awake b x
  refine ⟨fun lines due fresh stale held => exec_qualityHeld awake lines due fresh stale held, fun due usable past => ?_⟩
  obtain ⟨t, runs, lines, frame, told⟩ := exec_qualityStale awake due usable past
  have plant := staleNotice_samePlant (s.sampledEnv p { x with quality := .stale }) p s.floor
  refine ⟨t, runs, lines, frame, fun k binds firing => ?_, fun n binds running => ?_, ?_⟩
  · exact ((staleFloor_kiln (e := s.sampledEnv p { x with quality := .stale }) binds firing).same plant.kilns).same told.kilns
  · have boxes := (boxAt_congr (b := n) told.boxes).trans (boxAt_congr plant.boxes)
    exact (congrArg Box.ctx boxes).trans (staleFloor_box (e := s.sampledEnv p { x with quality := .stale }) binds running)
  intro alone
  have only : alone → Alone (s.sampledEnv p { x with quality := .stale }) p := fun alone => ⟨alone.1, alone.2⟩
  refine ⟨fun c uses isOpen => ?_, fun n service binds grant isAlone unused => ?_⟩
  · have halted := staleFloor_channel (e := s.sampledEnv p { x with quality := .stale }) uses isOpen
    rw [← plant.channels] at halted
    obtain ⟨⟨stopped, closed⟩, base, current⟩ := halted.settles (told.channels.each c)
    refine ⟨stopped, closed, base, current, fun isAlone => ?_⟩
    have masked := staleFloor_masked (e := s.sampledEnv p { x with quality := .stale }) (only isAlone) uses isOpen
    rw [← plant.channels] at masked
    exact ((told.channels.each c).masked halted.shut).trans masked
  · have turner : (s.sampledEnv p { x with quality := .stale }).bank.isTurnerPoint p = true := by
      simp only [Bank.isTurnerPoint, Bool.and_eq_true, Bool.or_eq_true, beq_iff_eq]
      exact ⟨service, binds⟩
    have notice := Alone.turnerFault (f := s.floor) (only isAlone) turner grant fun c uses => uses.elim (unused c).1 (unused c).2
    have unready := sampledEnv_unready (s := s) (x := { x with quality := .stale }) binds rfl
    have leaves := afterFault_of_turnerFault (256 + (p : Nat)) grant unready
    rw [← notice] at leaves
    obtain ⟨withdrawn, request, faults, turnClock, disabled, idle⟩ :=
      leaves.told (told.arbiter.trans plant.arbiter) (told.boxes.trans plant.boxes)
    refine ⟨withdrawn, request, faults, ?_, turnClock n, fun many => ⟨disabled many, ?_⟩, idle⟩
    · rw [sprayShut_iff, frame]
      have shut := turnerFault_shut (s.sampledEnv p { x with quality := .stale }) (256 + (p : Nat)) n s.floor grant
      rw [← notice] at shut
      intro c owner
      have shut := shut c owner
      rw [Floor.openAt, ← plant.channels] at shut
      exact (told.channels.each c).shut shut
    · exact alertLow_disabled lines (by rw [frame]; exact awake) (disabled many)

end Sys2Proof.Machine

/-! SUPPORT. Offers that were refused are made again, and the age of the insertion queue (R21, R42, R122, R132, R153, R164, R183):
O47. -/

namespace Sys2Proof.Machine

/-- A due step that changes nothing that the end of an event reads leaves what it works. -/
theorem exec_due_still {s : State} {i : Instr} (awake : s.inReset = false) (lines : s.LinesFollow) (due : i ∈ s.due)
    {op : State → State} (runs : exec i s = .next (takeDue i op s)) {t : State} (works : op { s with due := s.due.erase i } = t)
    (same : t.endInputs = s.endInputs) : exec i s = .next t := by
  rw [runs, takeDue_taken i op s awake due, works, finish_of_endInputs lines same]

section Offers

variable {s : State}


/-- The part of what an event's end reads that no offer changes. -/
theorem offered_endInputs {d : List Instr} (c : QCell) {polls : Vector (Option Poll) 4} {boxes : Vector Box 12}
    {channels : Vector Channel 12} {w : List TurnerCommand} :
    ({ s with
      due := d
      polls := polls
      floor := { s.floor with
        queue := (s.floor.queue.offerCommand c).1
        boxes := boxes
        channels := channels
        arbiter := { s.floor.arbiter with waiting := w } } } : State).endInputs = s.endInputs := by
  simp only [State.endInputs, offerCommand_congested]
  rfl

theorem reofferValve_pending {e : Env} {c : Fin 12} {f : Floor} {n g : Byte} (pending : f.channels[c].valvePending = true)
    (actuator : e.bank.channelActuator c = some (n, g)) :
    let r := f.queue.offerCommand (e.commandCell n g (32 + c) (if f.channels[c].valve = .opened then 1 else 0))
    reofferValve e c f = { f with
      queue := r.1, channels := f.channels.set c { f.channels[c] with valvePending := !r.2 } } := by
  intro r
  rw [reofferValve, if_pos pending, offerValve, actuator]
  rfl

theorem reofferPoll_refused {i : Fin 4} {q : Poll} {m : Nat} (entry : s.polls[i] = some q) (refused : q.offered = false)
    (names : s.tables.active.mapOfPoint q.point = some m) :
    let r := s.floor.queue.offerCommand
      ⟨mapByte (s.tables.active.field 1 m 1), 3#8, mapByte (s.tables.active.field 1 m 2), BitVec.ofNat 8 i, 0#32, 0#8, s.second⟩
    reofferPoll i s = { s with
      polls := s.polls.set i (some { q with offered := r.2 }), floor := { s.floor with queue := r.1 } } := by
  intro r
  simp only [reofferPoll, entry, refused, offerPoll, names]
  rfl

theorem reofferTurner_waiting {e : Env} {f : Floor} {w : TurnerCommand} (service : e.bank.inService 20 = true)
    (waiting : f.arbiter.waiting = [w]) :
    let r := f.queue.offerCommand (turnerCell e w)
    reofferTurner e f = { f with
      queue := r.1, arbiter := { f.arbiter with waiting := if r.2 = true then [] else [w] } } := by
  intro r
  rw [reofferTurner, if_pos ⟨service, by simp [waiting]⟩, waiting, offerTurner]
  by_cases taken : r.2 = true
  · rw [if_pos taken]
    exact if_pos taken
  · rw [if_neg taken]
    exact if_neg taken

theorem reofferFan_pending {e : Env} {b : Fin 12} {f : Floor} {n g : Byte} {v : Int} (pending : f.boxes[b].fanPending = true)
    (notRestart : f.boxes[b].ctx.heldRestart = false) (actuator : actuatorRef (e.bank.boxBinding b 2) = some (n, g))
    (fan : f.boxes[b].fan = some v) :
    let r := f.queue.offerCommand (e.commandCell n g (6 + b) v)
    reofferFan e b f = { f with queue := r.1, boxes := f.boxes.set b { f.boxes[b] with fanPending := !r.2 } } := by
  intro r
  rw [reofferFan, if_pos ⟨pending, by rw [notRestart]; exact nofun⟩, offerFan, actuator, fan]
  rfl


end Offers

theorem unitOf_isSome (u : Fin 20) : (unitOf u).isSome = true := by
  simp only [unitOf]
  split
  · rfl
  · split
    · rfl
    · rw [dif_pos u.2]
      rfl

/-! ### The outputs of a unit -/

/-- From `f` to `g` no unit has changed but in the pending flags of its outputs. -/
structure Floor.Reoffered (f g : Floor) : Prop where
  vessels : ∀ v : Fin 6, g.vessels[v] = { f.vessels[v] with outs := g.vessels[v].outs } ∧
    ∀ o : Fin 5, g.vessels[v].outs[o].decision = f.vessels[v].outs[o].decision
  boxes : ∀ b, g.boxAt b = { f.boxAt b with fanPending := (g.boxAt b).fanPending }
  kilns : ∀ k, ∃ p q, g.kilnAt k = (f.kilnAt k).reoffered p q

section Units

variable {e : Env} {f g : Floor}

theorem kilnAt_congr {k : Fin 2} (kilns : g.kilns = f.kilns) : g.kilnAt k = f.kilnAt k := by rw [Floor.kilnAt, kilns]; rfl

theorem Floor.Decides.reoffered {v : Fin 6} (decides : f.Decides v g (f.standing v)) (boxes : g.boxes = f.boxes)
    (kilns : g.kilns = f.kilns) : f.Reoffered g := by
  refine ⟨fun w => ?_, fun b => by rw [boxAt_congr boxes], fun k => ⟨_, _, kilnAt_congr kilns⟩⟩
  by_cases here : w = v
  · subst here
    exact ⟨decides.vessel, decides.standing⟩
  · rw [decides.other here]
    exact ⟨rfl, fun _ => rfl⟩

theorem Floor.Reoffered.of_boxes (vessels : g.vessels = f.vessels) (kilns : g.kilns = f.kilns)
    (boxes : ∀ b, g.boxAt b = { f.boxAt b with fanPending := (g.boxAt b).fanPending }) : f.Reoffered g := by
  refine ⟨fun v => ?_, boxes, fun k => ⟨_, _, kilnAt_congr kilns⟩⟩
  rw [vessels]
  exact ⟨rfl, fun _ => rfl⟩

theorem Floor.Reoffered.of_kiln {k : Fin 2} {p q : Bool} (vessels : g.vessels = f.vessels) (boxes : g.boxes = f.boxes)
    (kilns : g.kilns = upd f.kilns k (Kiln.reoffered p q)) : f.Reoffered g := by
  refine ⟨fun v => ?_, fun b => by rw [boxAt_congr boxes], fun j => ?_⟩
  · rw [vessels]
    exact ⟨rfl, fun _ => rfl⟩
  · rw [Floor.kilnAt, kilns, upd_get]
    split
    · next here => exact ⟨p, q, by rw [← here]; rfl⟩
    · exact ⟨_, _, rfl⟩

theorem reofferUnit_reoffered (u : PlantUnit) : f.Reoffered (reofferUnit e u f) := by
  cases u with
  | vessel v => exact (reofferVessel_decides e v f).reoffered (reofferVessel_frame ..).2.2.1 (reofferVessel_frame ..).2.2.2.2.1
  | box b =>
    refine .of_boxes (reofferFan_frame ..).2.1 (reofferFan_frame ..).2.2.2.2.1 fun c => ?_
    have blown := (reofferFan_fanOf e b f).box c
    by_cases here : c = b
    · subst here
      rw [reofferFan_fan] at blown
      exact blown
    · exact ((reofferFan_fanOf e b f).other here).trans (by rw [show (reofferUnit e (.box b) f).boxAt c = f.boxAt c from
        (reofferFan_fanOf e b f).other here])
  | kiln k =>
    simp only [reofferUnit]
    split
    · exact .of_boxes rfl rfl fun _ => rfl
    · obtain ⟨p, q, records⟩ := reofferKiln_kilns e k f
      exact .of_kiln (by simp) (by simp) records

theorem reofferUnit_rest (u : PlantUnit) : reofferUnit e u f = { f with
    queue := (reofferUnit e u f).queue
    vessels := (reofferUnit e u f).vessels
    boxes := (reofferUnit e u f).boxes
    kilns := (reofferUnit e u f).kilns } := by
  obtain ⟨eventSeq, channels, arbiter, batches, register, accept, free⟩ := reofferUnit_frame e u f
  exact Floor.eq_of_fields rfl eventSeq rfl channels rfl arbiter rfl batches register accept free

theorem Floor.Reoffered.ctx (a : f.Reoffered g) (u : PlantUnit) : g.ctx u = f.ctx u := by
  cases u with
  | vessel v => rw [ctx_vessel, (a.vessels v).1]; rfl
  | box b =>
    change (g.boxAt b).ctx = (f.boxAt b).ctx
    rw [a.boxes b]
  | kiln k =>
    obtain ⟨p, q, record⟩ := a.kilns k
    change (g.kilnAt k).ctx = (f.kilnAt k).ctx
    rw [record]
    rfl

/-- An event that changes no context and no filling of a vessel, and nothing that a permit is read from, tells the channels
nothing. -/
theorem tellOwners_sameCtx {before : Floor} (demand : ∀ v, vesselDemand f v = vesselDemand before v)
    (ctx : ∀ k : Fin 2, f.kilns[k].ctx = before.kilns[k].ctx) : tellOwners e before e f = f := by
  have permits (k : Fin 2) : permit e before k = permit e f k := by simp only [permit, ctx]
  have vessels : (List.finRange 6).foldl (tellVessel before e) f = f := by
    refine foldl_inv (fun g => g = f) _ ?_ _ _ rfl
    rintro g v rfl
    simp [tellVessel, demand]
  rw [tellOwners, vessels]
  refine foldl_inv (fun g => g = f) _ ?_ _ _ rfl
  rintro g k rfl
  exact if_pos ⟨(ctx k).symm, permits k⟩

theorem Floor.Reoffered.told (a : f.Reoffered g) : tellOwners e f e g = g := by
  refine tellOwners_sameCtx (fun v => ?_) fun k => a.ctx (.kiln k)
  rw [vesselDemand, (a.vessels v).1]
  rfl

end Units

/-- Settles O47: what is offered again, part by part. -/
theorem refusedOffersAreMadeAgain : Obligations.RefusedOffersAreMadeAgain := by
  intro s awake b cell
  refine ⟨fun lines => ⟨fun c n f due pending actuator => ?_, fun i q m due entry refused names => ?_,
    fun w due service waiting => ?_, fun n u a f v due names pending notRestart actuator fan => ?_⟩, fun u due => ?_, fun due => ?_⟩
  · exact exec_due_still awake lines due (op := reoffer (.valve c)) rfl
      (congrArg (fun f : Floor => { s with due := s.due.erase (.pendingReoffer (.valve c)), floor := f })
        (reofferValve_pending (e := s.env) pending actuator)) (offered_endInputs ..)
  · exact exec_due_still awake lines due (op := reoffer (.poll i)) rfl
      (reofferPoll_refused (s := { s with due := s.due.erase (.pendingReoffer (.poll i)) }) entry refused names)
      (offered_endInputs ..)
  · exact exec_due_still awake lines due (op := reoffer .turner) rfl
      (congrArg (fun f : Floor => { s with due := s.due.erase (.pendingReoffer .turner), floor := f })
        (reofferTurner_waiting (e := s.env) service waiting)) (offered_endInputs ..)
  · have unit : unitOf u = some (.box n) := unitOf_eq_some.mpr names
    refine exec_due_still awake lines due (op := reoffer (.unit u)) rfl ?_ (offered_endInputs ..)
    rw [reoffer, unit]
    exact congrArg (fun f : Floor => { s with due := s.due.erase (.pendingReoffer (.unit u)), floor := f })
      (reofferFan_pending (e := s.env) pending notRestart actuator fan)
  · obtain ⟨x, unit⟩ : ∃ x, unitOf u = some x := Option.isSome_iff_exists.mp (unitOf_isSome u)
    have runs : exec (.pendingReoffer (.unit u)) s = .next (takeDue (.pendingReoffer (.unit u))
        (fun t => t.onFloor fun e => reofferUnit e x) s) := by
      have same : reoffer (.unit u) = fun t => t.onFloor fun e => reofferUnit e x := by
        funext t
        simp only [reoffer, unit]
      rw [← same]
      rfl
    obtain ⟨t, steps, took, floor⟩ := exec_due_floor awake due runs
    have again := reofferUnit_reoffered (e := s.env) (f := s.floor) x
    rw [again.told] at floor
    rw [← floor] at again
    refine ⟨t, steps, took, by rw [floor]; exact reofferUnit_rest x, again.ctx, fun v => (again.vessels v).2, fun n => ?_,
      fun k => ?_⟩
    · exact (congrArg Box.fan (again.boxes n) :)
    · obtain ⟨p, q, record⟩ := again.kilns k
      exact ⟨(congrArg (fun x : Kiln => x.burner.value) record :), (congrArg (fun x : Kiln => x.fan.value) record :)⟩
  · have told : tellOwners s.env s.floor s.env { s.floor with queue := { s.floor.queue with
        congested := s.floor.queue.hasOld s.second } } = { s.floor with queue := { s.floor.queue with
        congested := s.floor.queue.hasOld s.second } } := tellOwners_still _ _ _ rfl rfl
    refine ⟨_, congrArg Host.Outcome.next (takeDue_taken _ _ s awake due), ⟨finish_eq .., finish_follow ..⟩,
      (finish_floor ..).trans told, fun old => ?_⟩
    refine alertLow_of (finish_follow ..) ?_ ?_
    · rw [finish_eq]
      exact awake
    · have congested := congrArg (fun f : Floor => f.queue.congested) ((finish_floor s (testCongestion { s with
        due := s.due.erase .congested })).trans told)
      rw [alertConditions, congested.trans old, if_pos rfl]
      omega

end Sys2Proof.Machine

/-! SUPPORT. RESTART (R22, R110, R129, R146, R170, R194, R221): O21. -/

namespace Sys2Proof.Machine

/-! ### Channels at rest are told nothing but a demand flag -/

/-- No channel is open. -/
def Floor.AllShut (f : Floor) : Prop := ∀ c : Fin 12, f.channels[c].isOpen = false

section Telling

variable {e : Env} {f g : Floor} {c : Fin 12}

theorem Floor.AllShut.settles (shut : f.AllShut) (settles : f.Settles g) : g.AllShut := fun c => (settles.each c).shut (shut c)

/-- R136: a channel that is not open is told a demand flag and nothing else. -/
theorem tellDemand_shut (d : Bool) (shut : f.channels[c].isOpen = false) :
    tellDemand e c d f = f.channel c fun x => { x with demand := d } := by
  have state : (f.channel c fun x => { x with demand := d }).channels[c].state = f.channels[c].state := by
    rw [channel_channels, upd_get_self]
  have notActive : f.channels[c].state ≠ .active := by rintro active; simp only [Channel.isOpen, active] at shut; cases shut
  have notPaused : f.channels[c].state ≠ .paused := by rintro paused; simp only [Channel.isOpen, paused] at shut; cases shut
  simp only [tellDemand]
  split
  · split
    · next active => exact absurd (state.symm.trans active) notActive
    · next paused => exact absurd (state.symm.trans paused) notPaused
    · rfl
  · rfl

/-- With every channel at rest. -/
structure Floor.ShutWith (f : Floor) (q : Queue) : Prop where
  shut : f.AllShut
  queue : f.queue = q

theorem Floor.ShutWith.tellDemand {q : Queue} (a : f.ShutWith q) (c : Fin 12) (d : Bool) : (tellDemand e c d f).ShutWith q := by
  refine ⟨a.shut.settles (tellDemand_settles e c d f), ?_⟩
  rw [tellDemand_shut d (a.shut c)]
  exact a.queue

theorem endDemandOf_queue (shut : f.AllShut) (u : PlantUnit) : (endDemandOf e u f).queue = f.queue :=
  (foldl_inv (fun g : Floor => g.ShutWith f.queue) _ (fun _ c a => a.tellDemand c false) _ f ⟨shut, rfl⟩).queue

theorem withdraw_queue (shut : f.AllShut) (b : Fin 12) : (withdraw e b f).queue = f.queue := by
  simp only [withdraw]
  split
  · exact endDemandOf_queue (f := f.arb fun a => { a with grant := none, timer := none, result := .none }) shut _
  · rfl

/-- The owners offer nothing while every channel is at rest. -/
theorem tellOwners_queue (shut : f.AllShut) (e₀ : Env) (before : Floor) : (tellOwners e₀ before e f).queue = f.queue := by
  have vessels := foldl_inv (fun g : Floor => g.ShutWith f.queue) (tellVessel before e) (fun g v a => by
    obtain same | ⟨c, d, told⟩ := tellVessel_cases before e g v
    · rw [same]; exact a
    · rw [told]; exact a.tellDemand c d) (List.finRange 6) f ⟨shut, rfl⟩
  refine (foldl_inv (fun g : Floor => g.ShutWith f.queue) (tellChangedKiln e₀ before e) (fun g k a => ?_) (List.finRange 2) _
    vessels).queue
  obtain same | told := tellChangedKiln_cases e₀ before e g k
  · rw [same]; exact a
  · obtain same | ⟨c, d, told'⟩ := tellKiln_cases e k g
    · rw [told, same]; exact a
    · rw [told, told']; exact a.tellDemand c d

end Telling

/-! ### The units at RESTART -/

/-- R110: RESTART holds a unit in this state. -/
def UnitState.restarts (st : UnitState) : Bool := st == .running || st == .manual

/-- R110: a unit's context after RESTART. -/
def Ctx.restarted (c : Ctx) : Ctx :=
  if c.state = .running then c.enterHeld .restart .running
  else if c.state = .manual then c.enterHeld .restart (c.resume.getD .loaded)
  else c

section Units

variable {e : Env} {f : Floor} {u : PlantUnit}

theorem restartUnit_stays (stays : (f.ctx u).state.restarts = false) : restartUnit e f u = f := by
  simp only [UnitState.restarts, Bool.or_eq_false_iff, beq_eq_false_iff_ne] at stays
  simp only [restartUnit]
  split
  · next running => exact absurd running stays.1
  · next manual => exact absurd manual stays.2
  · rfl

theorem restartUnit_holds (holds : (f.ctx u).state.restarts = true) :
    ∃ back, restartUnit e f u = enterHeld e u .restart back f ∧ (f.ctx u).restarted = (f.ctx u).enterHeld .restart back := by
  simp only [UnitState.restarts, Bool.or_eq_true, beq_iff_eq] at holds
  obtain running | manual := holds
  · exact ⟨.running, by simp only [restartUnit, running], if_pos running⟩
  · have notRunning : (f.ctx u).state ≠ .running := by rw [manual]; exact nofun
    refine ⟨(f.ctx u).resume.getD .loaded, ?_, (if_neg notRunning).trans (if_pos manual)⟩
    simp only [restartUnit, manual]
    cases (f.ctx u).resume <;> rfl

theorem restarted_stays {c : Ctx} (stays : c.state.restarts = false) : c.restarted = c := by
  simp only [UnitState.restarts, Bool.or_eq_false_iff, beq_eq_false_iff_ne] at stays
  rw [Ctx.restarted, if_neg stays.1, if_neg stays.2]

theorem restartUnit_ctx (w : PlantUnit) : (restartUnit e f u).ctx w = if w = u then (f.ctx w).restarted else f.ctx w := by
  cases holds : (f.ctx u).state.restarts with
  | false =>
    rw [restartUnit_stays holds]
    split
    · next here => rw [here, restarted_stays holds]
    · rfl
  | true =>
    obtain ⟨back, runs, ctx⟩ := restartUnit_holds (e := e) holds
    rw [runs, enterHeld_ctx]
    split
    · next here => rw [here, ctx]
    · rfl

/-- A hold keeps the trip record and the other parts of a kiln. -/
theorem restartUnit_kiln (k : Fin 2) :
    (restartUnit e f u).kilnAt k = { f.kilnAt k with ctx := (restartUnit e f u).ctx (.kiln k) } := by
  have held (back : ResumeState) :
      (enterHeld e u .restart back f).kilnAt k = { f.kilnAt k with ctx := (enterHeld e u .restart back f).ctx (.kiln k) } := by
    cases u with
    | vessel v => rw [kilnAt_congr (enterHeld_vessel ..).2.1, enterHeld_ctx, if_neg nofun]; rfl
    | box b => rw [kilnAt_congr (enterHeld_box ..).2.1, enterHeld_ctx, if_neg nofun]; rfl
    | kiln j =>
      rw [Floor.kilnAt, Floor.kilnAt, ctx_kiln, (enterHeld_kiln ..).2.2]
      rw [upd_get]
      split
      · next here => subst here; rfl
      · rfl
  cases holds : (f.ctx u).state.restarts with
  | false => rw [restartUnit_stays holds]; rfl
  | true =>
    obtain ⟨back, runs, -⟩ := restartUnit_holds (e := e) holds
    rw [runs]
    exact held back

theorem restartUnit_frame : (restartUnit e f u).channels = f.channels ∧ (restartUnit e f u).arbiter = f.arbiter ∧
    (restartUnit e f u).batches = f.batches ∧ (restartUnit e f u).register = f.register := by
  simp only [restartUnit]
  split <;> simp

end Units

/-! ### The events of RESTART -/

section Events

variable {e : Env} {f : Floor} {u : PlantUnit}

/-- The event UNIT_HELD of RESTART, the `n`-th that is raised. -/
def heldCell (e : Env) (u : PlantUnit) (n : Byte) : QCell :=
  ⟨BitVec.ofInt 8 (e.bank.field 0 0 5), 7#8, 8#8, n, 5#32, BitVec.ofNat 8 u.index, e.second⟩

/-- A queue that holds events alone. -/
structure Queue.EventsOnly (q : Queue) (second : Nat) : Prop where
  trip : q.trip = []
  command : q.command = []
  reply : q.reply = []
  congested : q.congested = false
  joined : ∀ c ∈ q.event, c.joined = second
  bound : q.event.length ≤ 8

theorem Queue.EventsOnly.room {q : Queue} {n : Nat} (a : q.EventsOnly n) :
    (q.event.length < 8 ∧ q.shared < 28) ↔ q.event.length < 8 := by
  have bound := a.bound
  have shared : q.shared = q.event.length := by simp [Queue.shared, a.command, a.reply]
  omega

/-- The queue once events have been offered to a queue of events: the first stands, and the lost flag tells of the last. -/
structure Queue.Raised (q r : Queue) (n second : Nat) : Prop where
  only : r.EventsOnly second
  first : q.event <+: r.event
  length : r.event.length = min 8 (q.event.length + n)
  lost : r.lost = if n = 0 then q.lost else decide (8 < q.event.length + n)

theorem Queue.Raised.refl {q : Queue} {second : Nat} (only : q.EventsOnly second) : q.Raised q 0 second :=
  ⟨only, List.prefix_refl _, by have := only.bound; omega, rfl⟩

theorem Queue.EventsOnly.offerEvent {q : Queue} {c : QCell} (a : q.EventsOnly c.joined) : q.Raised (q.offerEvent c) 1 c.joined := by
  obtain ⟨trip, command, reply, congested, joined, bound⟩ := a
  have room := Queue.EventsOnly.room ⟨trip, command, reply, congested, joined, bound⟩
  by_cases free : q.event.length < 8
  · rw [Queue.offerEvent, if_pos (room.mpr free)]
    refine ⟨⟨trip, command, reply, congested, fun d mem => ?_, ?_⟩, List.prefix_append _ _, ?_, ?_⟩
    · obtain old | new := List.mem_append.mp mem
      · exact joined d old
      · rw [List.mem_singleton.mp new]
    · simp only [List.length_append, List.length_singleton]; omega
    · simp only [List.length_append, List.length_singleton]; omega
    · simp only [Nat.one_ne_zero, if_false]
      symm
      rw [decide_eq_false_iff_not]
      omega
  · rw [Queue.offerEvent, if_neg fun h => free (room.mp h)]
    refine ⟨⟨trip, command, reply, congested, joined, bound⟩, List.prefix_refl _, ?_, ?_⟩
    · change q.event.length = _
      omega
    · simp only [Nat.one_ne_zero, if_false]
      symm
      rw [decide_eq_true_eq]
      omega

theorem Queue.Raised.trans {q r t : Queue} {m n second : Nat} (a : q.Raised r m second) (b : r.Raised t n second) :
    q.Raised t (m + n) second := by
  refine ⟨b.only, a.first.trans b.first, ?_, ?_⟩
  · have := a.length
    have := b.length
    omega
  · rw [b.lost, a.lost, a.length]
    by_cases none : n = 0
    · simp [none]
    · have some : m + n ≠ 0 := by omega
      rw [if_neg none, if_neg some]
      congr 1
      refine propext ?_
      omega

/-- RESTART raises one event of a unit it holds. -/
theorem restartUnit_raises (operating : e.operating = true)
    (holds : (f.ctx u).state.restarts = true) :
    (restartUnit e f u).queue = f.queue.offerEvent (heldCell e u (f.eventSeq + 1#8)) := by
  obtain ⟨back, runs, -⟩ := restartUnit_holds (e := e) holds
  rw [runs, enterHeld, raiseEvent_operating (h := operating)]
  have queue : (f.updCtx u fun x => x.enterHeld .restart back).queue = f.queue := by simp
  have count : (f.updCtx u fun x => x.enterHeld .restart back).eventSeq = f.eventSeq := by simp
  rw [eventCell, queue, count]
  rfl

/-- RESTART raises the events of the units that it holds, and no others. -/
theorem foldl_restart_raises (operating : e.operating = true) (l : List PlantUnit) (nodup : l.Nodup)
    (only : f.queue.EventsOnly e.second) :
    f.queue.Raised (l.foldl (restartUnit e) f).queue (l.countP fun u => (f.ctx u).state.restarts) e.second := by
  induction l generalizing f with
  | nil => exact .refl only
  | cons u l ih =>
    obtain ⟨fresh, nodup⟩ := List.nodup_cons.mp nodup
    rw [List.foldl_cons, List.countP_cons]
    cases holds : (f.ctx u).state.restarts with
    | false =>
      rw [restartUnit_stays holds]
      exact ih nodup only
    | true =>
      have raised : f.queue.Raised (restartUnit e f u).queue 1 e.second := by
        rw [restartUnit_raises operating holds]
        exact Queue.EventsOnly.offerEvent (c := heldCell e u (f.eventSeq + 1#8)) only
      have rest := raised.trans (ih nodup raised.only)
      have same : l.countP (fun w => ((restartUnit e f u).ctx w).state.restarts) = l.countP fun w => (f.ctx w).state.restarts := by
        refine List.countP_congr fun w mem => ?_
        have other : w ≠ u := by rintro rfl; exact fresh mem
        rw [restartUnit_ctx, if_neg other]
      rw [same] at rest
      rw [if_pos rfl, Nat.add_comm]
      exact rest

/-- The first event of RESTART is that of the first unit held. -/
theorem foldl_restart_first (operating : e.operating = true) (l : List PlantUnit) (nodup : l.Nodup)
    (only : f.queue.EventsOnly e.second) (empty : f.queue.event = []) {rest : List PlantUnit}
    (holds : l.filter (fun u => (f.ctx u).state.restarts) = u :: rest) :
    (l.foldl (restartUnit e) f).queue.event.head? = some { heldCell e u (f.eventSeq + 1#8) with
      qual := BitVec.ofNat 8 u.index + (if f.queue.lost then 128#8 else 0#8) } := by
  induction l with
  | nil => cases holds
  | cons w l ih =>
    obtain ⟨fresh, nodup'⟩ := List.nodup_cons.mp nodup
    rw [List.foldl_cons]
    cases here : (f.ctx w).state.restarts with
    | false =>
      rw [List.filter_cons, if_neg (by simp [here])] at holds
      rw [restartUnit_stays here]
      exact ih nodup' holds
    | true =>
      rw [List.filter_cons, if_pos here] at holds
      obtain ⟨rfl, -⟩ := List.cons.inj holds
      have queue := restartUnit_raises operating here
      have admitted : (restartUnit e f w).queue.event = [{ heldCell e w (f.eventSeq + 1#8) with
          qual := BitVec.ofNat 8 w.index + (if f.queue.lost then 128#8 else 0#8) }] := by
        rw [queue, Queue.offerEvent, if_pos (only.room.mpr (by simp [empty])), empty]
        cases f.queue.lost <;> simp [heldCell]
      have raised : (restartUnit e f w).queue.EventsOnly e.second := by
        rw [queue]
        exact (Queue.EventsOnly.offerEvent (c := heldCell e w (f.eventSeq + 1#8)) only).only
      have first := (foldl_restart_raises operating l nodup' raised).first
      rw [admitted] at first
      obtain ⟨tail, is⟩ := first
      rw [← is]
      rfl

/-- R222: in TRANSPARENT mode no event is raised. -/
theorem foldl_restart_transparent (transparent : e.operating = false) (l : List PlantUnit) :
    (l.foldl (restartUnit e) f).queue = f.queue := by
  refine foldl_keeps Floor.queue _ (fun g u => ?_) l f
  simp only [restartUnit]
  split <;> simp [enterHeld, raiseEvent, transparent]

end Events

end Sys2Proof.Machine

/-! SUPPORT. The floor and the queue that RESTART leaves: O21. -/

namespace Sys2Proof.Machine

theorem nodup_allUnits : allUnits.Nodup := by decide

theorem mem_allUnits (u : PlantUnit) : u ∈ allUnits := by
  cases u <;> simp [allUnits]

section Parts

variable {e : Env} {f : Floor}

/-- R22, R146: the floor with its queue emptied and its channels at rest. -/
def restedFloor (e : Env) (f : Floor) : Floor :=
  { f with queue := f.queue.emptied, channels := f.channels.map (restartChannel e.second) }

/-- R110: the floor with its units held. -/
def heldFloor (e : Env) (f : Floor) : Floor := allUnits.foldl (restartUnit e) (restedFloor e f)

/-- R129, R170, R194: the output records of the units at RESTART. -/
def recordsRestarted (e : Env) (f : Floor) : Floor :=
  let f := (List.finRange 6).foldl (fun f v => f.vessel v (restartVessel e v)) f
  let f := (List.finRange 12).foldl (fun f b => f.box b restartBox) f
  (List.finRange 2).foldl (fun f k => f.kiln k restartKiln) f

theorem restartFloor_eq (e : Env) (f : Floor) : restartFloor e f = restartArbiter e (recordsRestarted e (heldFloor e f)) := rfl

/-- A part of the floor that neither vessels nor boxes nor kilns belong to is left by their records. -/
theorem recordsRestarted_keeps {β : Type} (part : Floor → β) (vessel : ∀ f v, part (Floor.vessel f v (restartVessel e v)) = part f)
    (box : ∀ f b, part (Floor.box f b restartBox) = part f) (kiln : ∀ f k, part (Floor.kiln f k restartKiln) = part f) :
    part (recordsRestarted e f) = part f :=
  (foldl_keeps part _ kiln _ _).trans ((foldl_keeps part _ box _ _).trans (foldl_keeps part _ vessel _ _))

theorem recordsRestarted_frame : (recordsRestarted e f).queue = f.queue ∧ (recordsRestarted e f).channels = f.channels ∧
    (recordsRestarted e f).arbiter = f.arbiter ∧ (recordsRestarted e f).batches = f.batches ∧
    (recordsRestarted e f).register = f.register :=
  ⟨recordsRestarted_keeps Floor.queue (fun _ _ => rfl) (fun _ _ => rfl) fun _ _ => rfl,
    recordsRestarted_keeps Floor.channels (fun _ _ => rfl) (fun _ _ => rfl) fun _ _ => rfl,
    recordsRestarted_keeps Floor.arbiter (fun _ _ => rfl) (fun _ _ => rfl) fun _ _ => rfl,
    recordsRestarted_keeps Floor.batches (fun _ _ => rfl) (fun _ _ => rfl) fun _ _ => rfl,
    recordsRestarted_keeps Floor.register (fun _ _ => rfl) (fun _ _ => rfl) fun _ _ => rfl⟩

theorem restartVessel_ctx (v : Fin 6) (x : Vessel) : (restartVessel e v x).ctx = x.ctx :=
  foldl_keeps Vessel.ctx (restartOutput e.bank v) (fun _ _ => rfl) _ x

theorem restartKiln_keeps (x : Kiln) : (restartKiln x).ctx = x.ctx ∧ (restartKiln x).trip = x.trip ∧ (restartKiln x).flame = 0 := by
  simp only [restartKiln]
  split <;> exact ⟨rfl, rfl, rfl⟩

theorem recordsRestarted_ctx (u : PlantUnit) : (recordsRestarted e f).ctx u = f.ctx u :=
  recordsRestarted_keeps (fun g : Floor => g.ctx u) (fun g v => vessel_ctx_same u g v (restartVessel_ctx v))
    (fun g b => box_ctx_same u g b fun _ => rfl) fun g k => kiln_ctx_same u g k fun x => (restartKiln_keeps x).1

theorem recordsRestarted_kiln (k : Fin 2) : (recordsRestarted e f).kilnAt k = restartKiln (f.kilnAt k) := by
  have kept : ((List.finRange 12).foldl (fun f b => f.box b restartBox)
      ((List.finRange 6).foldl (fun f v => f.vessel v (restartVessel e v)) f)).kilnAt k = f.kilnAt k :=
    (foldl_keeps (fun g : Floor => g.kilnAt k) (fun (g : Floor) b => g.box b restartBox) (fun _ _ => rfl) _ _).trans
      (foldl_keeps (fun g : Floor => g.kilnAt k) (fun (g : Floor) v => g.vessel v (restartVessel e v)) (fun _ _ => rfl) _ _)
  have each := foldl_eachAt (fun (g : Floor) (k : Fin 2) => g.kilnAt k) (fun _ => restartKiln)
    (fun g k => g.kiln k restartKiln) (fun g j k => by
      rw [Floor.kilnAt, kiln_kilns, upd_get]
      by_cases here : j = k
      · rw [if_pos here, if_pos here.symm]; rfl
      · rw [if_neg here, if_neg (Ne.symm here)]; rfl) (List.finRange 2) (List.nodup_finRange 2)
    ((List.finRange 12).foldl (fun f b => f.box b restartBox)
      ((List.finRange 6).foldl (fun f v => f.vessel v (restartVessel e v)) f)) k
  rw [if_pos (List.mem_finRange k), kept] at each
  exact each

/-! ### Units -/

theorem heldFloor_ctx (u : PlantUnit) : (heldFloor e f).ctx u = (f.ctx u).restarted := by
  have each := foldl_eachAt (fun (g : Floor) (u : PlantUnit) => g.ctx u) (fun _ => Ctx.restarted) (restartUnit e)
    (fun g u w => restartUnit_ctx w) allUnits nodup_allUnits (restedFloor e f) u
  rw [if_pos (mem_allUnits u)] at each
  exact each

theorem heldFloor_keeps {β : Type} (part : Floor → β) (kept : ∀ g u, part (restartUnit e g u) = part g) :
    part (heldFloor e f) = part (restedFloor e f) := foldl_keeps part _ kept _ _

theorem heldFloor_frame : (heldFloor e f).channels = f.channels.map (restartChannel e.second) ∧
    (heldFloor e f).arbiter = f.arbiter ∧ (heldFloor e f).batches = f.batches ∧ (heldFloor e f).register = f.register :=
  ⟨heldFloor_keeps Floor.channels fun _ _ => restartUnit_frame.1, heldFloor_keeps Floor.arbiter fun _ _ => restartUnit_frame.2.1,
    heldFloor_keeps Floor.batches fun _ _ => restartUnit_frame.2.2.1,
    heldFloor_keeps Floor.register fun _ _ => restartUnit_frame.2.2.2⟩

theorem heldFloor_trip (k : Fin 2) : ((heldFloor e f).kilnAt k).trip = (f.kilnAt k).trip :=
  heldFloor_keeps (fun g : Floor => (g.kilnAt k).trip) fun _ _ => (congrArg Kiln.trip (restartUnit_kiln (e := e) k) :)

/-! ### Channels -/

theorem restartChannel_shut (second : Nat) (x : Channel) : (restartChannel second x).isOpen = false := by
  cases isOpen : x.isOpen with
  | true =>
    simp only [restartChannel, isOpen, if_true]
    rfl
  | false =>
    simp only [restartChannel, isOpen, Bool.false_eq_true, if_false]
    exact isOpen

theorem restartChannel_leaves (second : Nat) (x : Channel) :
    (restartChannel second x).masked = true ∧ (restartChannel second x).base = x.base ∧
      (restartChannel second x).current = x.current ∧
      (restartChannel second x).state = if x.state = .active ∨ x.state = .paused then .stopped else x.state := by
  have isOpen : x.isOpen = true ↔ x.state = .active ∨ x.state = .paused := by simp [Channel.isOpen]
  simp only [← isOpen]
  by_cases opens : x.isOpen = true
  · rw [restartChannel, if_pos opens, if_pos opens]
    exact ⟨rfl, rfl, rfl, rfl⟩
  · rw [restartChannel, if_neg opens, if_neg opens]
    exact ⟨rfl, rfl, rfl, rfl⟩

theorem heldFloor_shut : (recordsRestarted e (heldFloor e f)).AllShut := fun c => by
  rw [recordsRestarted_frame.2.1, heldFloor_frame.1]
  simp only [Fin.getElem_fin, Vector.getElem_map]
  exact restartChannel_shut ..

theorem restartArbiter_settles (e : Env) (f : Floor) : f.Settles (restartArbiter e f) := by
  simp only [restartArbiter]
  split
  · exact Floor.Settles.trans (.same (g := turnerStop e f) (by simp)) ((withdraw_settles ..).trans (arb_settles ..))
  · exact arb_settles ..

theorem restartArbiter_arbiter (e : Env) (f : Floor) :
    (restartArbiter e f).arbiter.queue = [] ∧ (restartArbiter e f).arbiter.grant = none ∧
      (restartArbiter e f).arbiter.faults = f.arbiter.faults ∧
      (restartArbiter e f).arbiter.state = (if f.arbiter.state = .disabled then .disabled else .idle) := by
  simp only [restartArbiter]
  split
  · next b granted =>
    obtain ⟨w, stop⟩ := turnerStop_arbiter e f
    simp [Floor.arb, withdraw_arbiter, stop]
  · next free => exact ⟨rfl, free, rfl, rfl⟩

/-- R158, R170: the grant that RESTART withdraws stops the turner. -/
theorem restartArbiter_queue (shut : f.AllShut) : (restartArbiter e f).queue =
    if f.arbiter.grant = none then f.queue else (turnerStop e f).queue := by
  simp only [restartArbiter]
  split
  · next b granted =>
    rw [if_neg (by rw [granted]; exact nofun)]
    exact withdraw_queue (shut.settles (.same (by simp))) b
  · next free => exact (if_pos free).symm

theorem restartFloor_channel (c : Fin 12) :
    (restartChannel e.second f.channels[c]).Settles (restartFloor e f).channels[c] := by
  have settles := (restartArbiter_settles e (recordsRestarted e (heldFloor e f))).each c
  rw [recordsRestarted_frame.2.1, heldFloor_frame.1] at settles
  simp only [Fin.getElem_fin, Vector.getElem_map] at settles
  exact settles

end Parts

/-! ### The queue -/

section Queues

variable {e : Env} {f : Floor}

/-- R22, R158: the STOP of the turner, where RESTART withdraws a grant. -/
def restartStop (e : Env) (f : Floor) : List QCell := if f.arbiter.grant = none then [] else [turnerCell e .stop]

theorem restedFloor_events (e : Env) (f : Floor) : (restedFloor e f).queue.EventsOnly e.second :=
  ⟨rfl, rfl, rfl, rfl, fun _ mem => (nomatch mem), Nat.zero_le _⟩

theorem heldFloor_raised : ∃ n, (restedFloor e f).queue.Raised (heldFloor e f).queue n e.second := by
  cases operating : e.operating with
  | true => exact ⟨_, foldl_restart_raises operating allUnits nodup_allUnits (restedFloor_events e f)⟩
  | false =>
    rw [heldFloor, foldl_restart_transparent operating]
    exact ⟨0, .refl (restedFloor_events e f)⟩

theorem heldFloor_events : (heldFloor e f).queue.EventsOnly e.second := by
  obtain ⟨n, raised⟩ := heldFloor_raised (e := e) (f := f)
  exact raised.only

theorem offerTurner_stop {q : Queue} {n : Nat} (only : q.EventsOnly n) (queue : f.queue = q) :
    (turnerStop e f).queue = { q with command := [turnerCell e .stop] } := by
  have bound := only.bound
  have admits : f.queue.offerCommand (turnerCell e .stop) = ({ q with command := [turnerCell e .stop] }, true) := by
    have room : q.command.length < 16 ∧ q.shared < 28 := by
      simp [Queue.shared, only.command, only.reply]
      omega
    rw [queue, Queue.offerCommand, if_neg (by simp [only.trip]), if_neg (by simp [only.command]), if_pos room, only.command]
    rfl
  simp only [turnerStop, offerTurner, Machine.offerCommand, admits]
  rfl

/-- The queue that RESTART leaves before its reply. -/
theorem restartFloor_queue : (restartFloor e f).queue = { (heldFloor e f).queue with command := restartStop e f } := by
  have queue : (recordsRestarted e (heldFloor e f)).queue = (heldFloor e f).queue := recordsRestarted_frame.1
  have grant : (recordsRestarted e (heldFloor e f)).arbiter.grant = f.arbiter.grant := by
    rw [recordsRestarted_frame.2.2.1, heldFloor_frame.2.1]
  have only := heldFloor_events (e := e) (f := f)
  rw [restartFloor_eq, restartArbiter_queue heldFloor_shut, grant, restartStop]
  split
  · rw [queue, ← only.command]
  · exact offerTurner_stop only queue

/-- A reply is admitted to a queue of events and one command. -/
theorem Queue.EventsOnly.offerReply {q : Queue} {n : Nat} (a : q.EventsOnly n) {l : List QCell} (few : l.length ≤ 1) (c : QCell) :
    ({ q with command := l } : Queue).offerReply c = { q with command := l, reply := [c] } := by
  obtain ⟨-, -, reply, -, -, bound⟩ := a
  have room : ({ q with command := l } : Queue).reply.length < 8 ∧ ({ q with command := l } : Queue).shared < 28 := by
    simp only [Queue.shared, reply, List.length_nil]
    omega
  rw [Queue.offerReply, if_pos room]
  simp only [reply]
  rfl

theorem restartStop_few : (restartStop e f).length ≤ 1 := by
  rw [restartStop]
  split
  · exact Nat.zero_le _
  · exact Nat.le_refl _

/-- R221: the reply of RESTART is admitted. -/
theorem restart_reply (c : QCell) : (restartFloor e f).queue.offerReply c =
    { (heldFloor e f).queue with command := restartStop e f, reply := [c] } := by
  rw [restartFloor_queue]
  exact heldFloor_events.offerReply restartStop_few c

end Queues

end Sys2Proof.Machine

/-! SUPPORT. The end of a RESTART: O21. -/

namespace Sys2Proof.Machine

section Ends

variable {s : State} {r : Req}

/-- R46, R64, R82: the state without its polls, its retries and its check. -/
def State.forgets (s : State) : State :=
  { s with polls := .replicate 4 none, retries := .replicate 8 none, tables := { s.tables with check := none } }

/-- The cell of RESTART's reply. -/
def restartReply (e : Env) (r : Req) : QCell := ⟨r.source, 6#8, 57#8, r.tag, 0#32, 0#8, e.second⟩

/-- R221: RESTART on the floor, with its reply. -/
def restartWork (r : Req) (e : Env) (f : Floor) : Floor := replyTo e .restart r .ok 0 (restartFloor e f)

/-- Two works on the floor are one. -/
theorem onFloor_onFloor (t : State) (op op' : Env → Floor → Floor) :
    (t.onFloor op).onFloor op' = t.onFloor fun e f => op' e (op e f) := rfl

theorem restartPart_eq (t : State) : restartPart t = t.forgets.onFloor restartFloor := rfl

theorem serveFunction_restart (t : State) : serveFunction .restart { r with fillFirst := false } t =
    t.forgets.onFloor (restartWork r) := by
  have same : restartWork { r with fillFirst := false } = restartWork r := by
    funext e f
    simp only [restartWork, replyTo]
  have served : serveFunction .restart { r with fillFirst := false } t =
      ((restartPart t).onFloor fun e => replyTo e .restart { r with fillFirst := false } .ok 0) := rfl
  rw [served, restartPart_eq, onFloor_onFloor]
  exact congrArg t.forgets.onFloor same

theorem restartWork_eq (e : Env) (f : Floor) : restartWork r e f = (restartFloor e f).withQueue
    { (heldFloor e f).queue with command := restartStop e f, reply := [restartReply e r] } :=
  congrArg (restartFloor e f).withQueue (restart_reply (restartReply e r))

theorem restartWork_queue (e : Env) (f : Floor) :
    (restartWork r e f).queue = { (heldFloor e f).queue with command := restartStop e f, reply := [restartReply e r] } := by
  rw [restartWork_eq]
  rfl

/-- The queue that RESTART finds. -/
def foundQueue (r : Req) (f : Floor) : Queue := if r.fillFirst then f.queue.filled else f.queue

/-- The queue `q` of events with the STOP of the turner and the reply `c`, its slot filled from it or before. -/
def repliedQueue (first : Bool) (q : Queue) (stop : List QCell) (c : QCell) : Queue :=
  if first then { q with command := stop, reply := [c] } else ({ q with command := stop, reply := [c] } : Queue).filled

/-- The queue that RESTART leaves. -/
def leftQueue (e : Env) (r : Req) (f : Floor) : Queue :=
  repliedQueue r.fillFirst (heldFloor e f).queue (restartStop e f) (restartReply e r)

theorem leftQueue_later {e : Env} {f : Floor} (later : r.fillFirst = false) : leftQueue e r f =
    ({ (heldFloor e f).queue with command := restartStop e f, reply := [restartReply e r] } : Queue).filled := by
  rw [leftQueue, later]
  rfl

theorem leftQueue_first {e : Env} {f : Floor} (first : r.fillFirst = true) : leftQueue e r f =
    { (heldFloor e f).queue with command := restartStop e f, reply := [restartReply e r] } := by
  rw [leftQueue, first]
  rfl

theorem withQueue_filled (f : Floor) (q : Queue) : (f.withQueue q).filled = f.withQueue q.filled := rfl

theorem Queue.EventsOnly.pop_reply {q : Queue} {n : Nat} (a : q.EventsOnly n) (c : QCell) :
    ({ q with command := [], reply := [c] } : Queue).pop = some (c, q) := by
  obtain ⟨trip, command, reply, -, -, -⟩ := a
  cases q
  simp only at trip command reply
  subst trip command reply
  rfl

theorem Queue.EventsOnly.pop_command {q : Queue} {n : Nat} (a : q.EventsOnly n) (c d : QCell) :
    ({ q with command := [d], reply := [c] } : Queue).pop = some (d, { q with reply := [c] }) := by
  obtain ⟨trip, command, reply, -, -, -⟩ := a
  cases q
  simp only at trip command reply
  subst trip command reply
  rfl

theorem fillSlot_pops {slot : Slot} {t : State} {c : QCell} {q : Queue} (pops : t.floor.queue.pop = some (c, q)) :
    (fillSlot slot t).2 = insertedSlot t c := by simp only [fillSlot, pops]

/-- R2: a reply leaves untranslated. -/
theorem insertedSlot_reply (t : State) (e : Env) (r : Req) : insertedSlot t (restartReply e r) =
    Slot.fresh ⟨0xA5#8, r.source, t.loop.node, 6#8, 57#8, r.tag, 0#32, 0#8, 0#8⟩ := by
  have notCommand : ¬((restartReply e r).kind = 2#8 ∨ (restartReply e r).kind = 3#8) := by simp [restartReply]
  simp only [insertedSlot, if_neg notCommand]
  rfl

/-- What the queue of RESTART holds. -/
structure Queue.Replied (p q : Queue) (stop : List QCell) (c : QCell) (first : Bool) : Prop where
  trip : p.trip = []
  congested : p.congested = false
  event : p.event = q.event
  lost : p.lost = q.lost
  command : stop = [] → p.command = []
  reply : first = true ∨ stop ≠ [] → p.reply = [c]
  replied : first = false → stop = [] → p.reply = []
  joined : ∀ d ∈ p.command ++ p.reply ++ p.event, d = c ∨ d ∈ stop ∨ d ∈ q.event

theorem Queue.EventsOnly.replied {q : Queue} {n : Nat} (a : q.EventsOnly n) {stop : List QCell} (few : stop.length ≤ 1)
    (c : QCell) (first : Bool) : (repliedQueue first q stop c).Replied q stop c first := by
  cases first with
  | true =>
    refine ⟨a.trip, a.congested, rfl, rfl, id, fun _ => rfl, nofun, fun d mem => ?_⟩
    simp only [repliedQueue, if_true, List.mem_append, List.mem_singleton] at mem
    tauto
  | false =>
    have later : repliedQueue false q stop c = ({ q with command := stop, reply := [c] } : Queue).filled := rfl
    match stop, few with
    | [], _ =>
      rw [later, Queue.filled, a.pop_reply]
      refine ⟨a.trip, a.congested, rfl, rfl, fun _ => a.command, fun h => absurd h (by simp), fun _ _ => a.reply, fun d mem => ?_⟩
      simp only [Option.map_some, Option.getD_some, a.command, a.reply, List.append_nil, List.nil_append] at mem
      exact .inr (.inr mem)
    | [b], _ =>
      rw [later, Queue.filled, a.pop_command]
      refine ⟨a.trip, a.congested, rfl, rfl, nofun, fun _ => rfl, fun _ => nofun, fun d mem => ?_⟩
      simp only [Option.map_some, Option.getD_some, a.command, List.nil_append, List.mem_append, List.mem_singleton] at mem
      tauto

/-- The queue that RESTART leaves. -/
theorem leftQueue_replied (e : Env) (r : Req) (f : Floor) :
    (leftQueue e r f).Replied (heldFloor e f).queue (restartStop e f) (restartReply e r) r.fillFirst :=
  heldFloor_events.replied restartStop_few (restartReply e r) r.fillFirst

/-- What RESTART leaves of a state, and the slot that leaves with its reply. -/
structure State.RestartedTo (s t : State) (r : Req) : Prop where
  lines : t.LinesFollow
  frame : t = { s.counted false with
    polls := .replicate 4 none
    retries := .replicate 8 none
    tables := { s.tables with check := none }
    outPort := t.outPort
    floor := t.floor
    pins := t.pins }
  floor : t.floor = tellOwners s.env s.floor s.env
    ((restartFloor s.env (s.floor.withQueue (foundQueue r s.floor))).withQueue
      (leftQueue s.env r (s.floor.withQueue (foundQueue r s.floor))))
  port : r.fillFirst = false → s.floor.arbiter.grant = none →
    t.outPort = some (Slot.fresh ⟨0xA5#8, r.source, s.loop.node, 6#8, 57#8, r.tag, 0#32, 0#8, 0#8⟩)

theorem exec_restart (h : s.Ready .restart r) : ∃ t, exec (.restart r) s = .next t ∧ s.RestartedTo t r := by
  refine ⟨_, exec_ready .restart r s h, finish_follow _ _, ?_, ?_, fun later free => ?_⟩
  · cases ff : r.fillFirst <;> simp [finish, setLines, State.onFloor, State.afterRequest, State.takenOff, serveFunction_restart,
      State.forgets, ff, fillSlot_floor, State.counted, countRuns, silenceTime]
  · cases ff : r.fillFirst
    · have later : foundQueue r s.floor = s.floor.queue := by rw [foundQueue, ff]; rfl
      rw [finish_floor, later, withQueue_self, leftQueue_later ff, ← withQueue_filled, ← restartWork_eq]
      simp only [State.afterRequest, State.takenOff, serveFunction_restart, fillSlot_floor, ff, Bool.false_eq_true, if_false]
      rfl
    · have first : s.floor.withQueue (foundQueue r s.floor) = s.floor.filled := by rw [foundQueue, ff]; rfl
      rw [finish_floor, first, leftQueue_first ff, ← restartWork_eq]
      simp only [State.afterRequest, State.takenOff, serveFunction_restart, fillSlot_floor, ff, if_true]
      rfl
  · rw [finish_outPort]
    simp only [State.afterRequest, State.takenOff, serveFunction_restart, later, Bool.false_eq_true, if_false]
    have queue := restartWork_queue (r := r) s.env s.floor
    have stop : restartStop s.env s.floor = [] := if_pos free
    have only := heldFloor_events (e := s.env) (f := s.floor)
    rw [stop] at queue
    have pops : (restartWork r s.env s.floor).queue.pop = some (restartReply s.env r, (heldFloor s.env s.floor).queue) :=
      (congrArg Queue.pop queue).trans (only.pop_reply (restartReply s.env r))
    refine congrArg some ?_
    refine Eq.trans (fillSlot_pops (t := (s.counted false).forgets.onFloor (restartWork r)) (c := restartReply s.env r)
      (q := (heldFloor s.env s.floor).queue) ?_) (insertedSlot_reply ..)
    exact pops

end Ends

/-! ### What RESTART leaves -/

section Leaves

variable {e : Env} {f : Floor} {r : Req}

theorem restartFloor_shut : (restartFloor e f).AllShut := fun c => (restartFloor_channel c).shut (restartChannel_shut ..)

theorem Floor.AllShut.withQueue (shut : f.AllShut) (q : Queue) : (f.withQueue q).AllShut := shut

theorem restartStop_iff : restartStop e f = [] ↔ f.arbiter.grant = none := by
  rw [restartStop]
  split
  · next free => exact ⟨fun _ => free, fun _ => rfl⟩
  · next held => exact ⟨nofun, fun free => absurd free held⟩

theorem restartStop_joined : ∀ c ∈ restartStop e f, c.joined = e.second := by
  intro c mem
  rw [restartStop] at mem
  split at mem
  · cases mem
  · rw [List.mem_singleton.mp mem]
    rfl

theorem leftQueue_joined : ∀ c ∈ (leftQueue e r f).command ++ (leftQueue e r f).reply ++ (leftQueue e r f).event,
    c.joined = e.second := by
  intro c mem
  obtain rfl | stop | event := (leftQueue_replied e r f).joined c mem
  · rfl
  · exact restartStop_joined c stop
  · exact heldFloor_events.joined c event

/-- R19, R222: the events that RESTART leaves, by the units that it holds. -/
theorem heldFloor_quiet {lost : Bool} (was : (f.queue.lost || !f.queue.event.isEmpty) = lost)
    (quiet : allUnits.filter (fun u => (f.ctx u).state.restarts) = [] ∨ e.operating = false) :
    (heldFloor e f).queue.event = [] ∧ (heldFloor e f).queue.lost = lost := by
  have same : (heldFloor e f).queue = (restedFloor e f).queue := by
    obtain none | transparent := quiet
    · have stays : ∀ u, (f.ctx u).state.restarts = false := fun u => by
        have absent := List.filter_eq_nil_iff.mp none u (mem_allUnits u)
        simpa using absent
      refine foldl_inv (fun g : Floor => g = restedFloor e f) _ (fun g u same => ?_) allUnits _ rfl |> congrArg Floor.queue
      rw [same]
      exact restartUnit_stays (stays u)
    · exact foldl_restart_transparent transparent allUnits
  rw [same]
  exact ⟨rfl, was⟩

/-- R19, R110, R222: the events of the units held, of which the queue takes 8. -/
theorem heldFloor_held {lost : Bool} (was : (f.queue.lost || !f.queue.event.isEmpty) = lost) (operating : e.operating = true)
    {u : PlantUnit} {rest : List PlantUnit} (holds : allUnits.filter (fun u => (f.ctx u).state.restarts) = u :: rest) :
    (heldFloor e f).queue.event.head? = some { heldCell e u (f.eventSeq + 1#8) with
        qual := BitVec.ofNat 8 u.index + (if lost then 128#8 else 0#8) } ∧
      (heldFloor e f).queue.event.length = min 8 (u :: rest).length ∧
      (heldFloor e f).queue.lost = decide (8 < (u :: rest).length) := by
  have first := foldl_restart_first operating allUnits nodup_allUnits (restedFloor_events e f) rfl holds
  have raised := foldl_restart_raises operating allUnits nodup_allUnits (restedFloor_events e f)
  have count : allUnits.countP (fun u => ((restedFloor e f).ctx u).state.restarts) = (u :: rest).length := by
    rw [List.countP_eq_length_filter]
    exact congrArg List.length holds
  rw [count] at raised
  have lostFlag : (restedFloor e f).queue.lost = lost := was
  have none : (restedFloor e f).queue.event.length = 0 := rfl
  have seq : (restedFloor e f).eventSeq = f.eventSeq := rfl
  rw [lostFlag, seq] at first
  rw [heldFloor]
  refine ⟨first, ?_, ?_⟩
  · have length := raised.length
    rw [none, Nat.zero_add] at length
    exact length
  · have lost := raised.lost
    rw [none, Nat.zero_add, if_neg (by simp)] at lost
    exact lost

end Leaves

/-- Settles O21: the state by its frame, the units one by one, the channels and the arbiter, and the queue by the order of its
offers. -/
theorem restartHoldsUnitsAndKeepsRecords : Obligations.RestartHoldsUnitsAndKeepsRecords := by
  intro r s ready
  obtain ⟨t, runs, lines, frame, floor, port⟩ := exec_restart ready
  have told : (restartFloor s.env (s.floor.withQueue (foundQueue r s.floor))).ToldOnly t.floor := by
    rw [floor]
    exact told_only ..
  have ctx (u : PlantUnit) : t.floor.ctx u = (s.floor.ctx u).restarted := by
    rw [told.ctx, restartFloor_eq, restartArbiter_ctx, recordsRestarted_ctx, heldFloor_ctx]
    rfl
  obtain ⟨queue, grant, faults, state⟩ :=
    restartArbiter_arbiter s.env (recordsRestarted s.env (heldFloor s.env (s.floor.withQueue (foundQueue r s.floor))))
  have arbiter : (recordsRestarted s.env (heldFloor s.env (s.floor.withQueue (foundQueue r s.floor)))).arbiter = s.floor.arbiter := by
    rw [recordsRestarted_frame.2.2.1, heldFloor_frame.2.1]
    rfl
  rw [← restartFloor_eq, ← told.arbiter] at queue grant faults state
  rw [arbiter] at faults state
  refine ⟨t, runs, frame, fun u running => ?_, fun u back manual resume => ?_, fun u notRunning notManual => ?_, fun c => ?_,
    queue, grant, faults, state, ?_, ?_, fun k => ?_, lines, ?_⟩
  · rw [ctx, Ctx.restarted, if_pos running]
    rfl
  · have notRunning : (s.floor.ctx u).state ≠ .running := by rw [manual]; exact nofun
    rw [ctx, Ctx.restarted, if_neg notRunning, if_pos manual, resume]
    rfl
  · rw [ctx, Ctx.restarted, if_neg notRunning, if_neg notManual]
  · have settles := (restartFloor_channel (e := s.env) (f := s.floor.withQueue (foundQueue r s.floor)) c).trans (told.channels.each c)
    rw [settles.2 (restartChannel_shut ..)]
    exact restartChannel_leaves s.env.second s.floor.channels[c]
  · rw [told.batches, restartFloor_eq, (restartArbiter_frame ..).2.2.2.2.1, recordsRestarted_frame.2.2.2.1, heldFloor_frame.2.2.1]
    rfl
  · rw [told.register, restartFloor_eq, (restartArbiter_frame ..).2.2.2.2.2.1, recordsRestarted_frame.2.2.2.2,
      heldFloor_frame.2.2.2]
    rfl
  · have record : t.floor.kilnAt k = restartKiln ((heldFloor s.env (s.floor.withQueue (foundQueue r s.floor))).kilnAt k) := by
      rw [kilnAt_congr told.kilns, restartFloor_eq, kilnAt_congr (restartArbiter_frame ..).2.2.2.1, recordsRestarted_kiln]
    obtain ⟨-, trip, flame⟩ := restartKiln_keeps ((heldFloor s.env (s.floor.withQueue (foundQueue r s.floor))).kilnAt k)
    rw [← record] at trip flame
    exact ⟨trip.trans (heldFloor_trip k), flame⟩
  · intro old q lost holds
    have left : q = leftQueue s.env r (s.floor.withQueue (foundQueue r s.floor)) := by
      exact (congrArg Floor.queue floor).trans (tellOwners_queue (restartFloor_shut.withQueue _) ..)
    have replied := leftQueue_replied s.env r (s.floor.withQueue (foundQueue r s.floor))
    rw [← left] at replied
    have stop : restartStop s.env (s.floor.withQueue (foundQueue r s.floor)) = [] ↔ s.floor.arbiter.grant = none := restartStop_iff
    have was : ((s.floor.withQueue (foundQueue r s.floor)).queue.lost ||
        !(s.floor.withQueue (foundQueue r s.floor)).queue.event.isEmpty) = lost := rfl
    have held' : holds = allUnits.filter fun u => ((s.floor.withQueue (foundQueue r s.floor)).ctx u).state.restarts :=
      List.filter_congr fun u _ => rfl
    refine ⟨replied.trip, replied.congested, ?_, fun free => replied.command (stop.mpr free),
      fun kept => replied.reply (kept.imp_right fun held none => held (stop.mp none)),
      fun later free => ⟨replied.replied later (stop.mpr free), port later free⟩, fun quiet => ?_, fun u rest held present => ?_⟩
    · rw [left]
      exact leftQueue_joined
    · rw [held'] at quiet
      have quieted := heldFloor_quiet (e := s.env) was quiet
      rw [replied.event, replied.lost]
      exact quieted
    · obtain ⟨first, length, lostFlag⟩ := heldFloor_held (e := s.env) (f := s.floor.withQueue (foundQueue r s.floor)) was present
        (held'.symm.trans held)
      rw [held, replied.event, replied.lost]
      exact ⟨first, length, lostFlag⟩

end Sys2Proof.Machine

/-! SUPPORT. START of a vessel whose slot is filled after its work (log entry 5): the refutations of O23 and O25. -/

namespace Sys2Proof.Machine

section Refutation

/-- One station node (16), an actuator for output 0 of vessel 0 (node 64, function 1), the vessel in service, and vessel program 0
of one step, which is no FILL step. -/
def wetBank : Bank :=
  [(2703, 1#32), (2704, 16#32), (2705, 16#32), (2706, 1#32), (3463, 1#32), (3470, 16385#32), (3895, 1#32), (5303, 1#32)]

/-- The part in operating mode with the loop UP, its queue empty, point 0 FRESH and vessel 0 in a state. -/
def vesselPlant (st : UnitState) : State :=
  setLines { State.reset with
    loop := ⟨5#8, true, 16, 0, some 100, false⟩
    tables := ⟨wetBank, [], true, 0, 0, none⟩
    points := State.reset.points.set 0 ⟨1000, .fresh, false, false, 0⟩
    floor := State.reset.floor.vessel 0 fun x => { x with ctx := { x.ctx with state := st } } }

/-- START of program 0, naming batch `id`; the slot is filled after its work. -/
def startLater (id : Nat) : Req := ⟨16#8, 9#8, BitVec.ofNat 32 id, 0#8, false⟩

/-- The command of output 0 of vessel 0 is queued or pending. -/
def firstCommanded (t : State) : Bool :=
  t.floor.vessels[0].outs[0].pending ||
    (t.floor.queue.trip ++ t.floor.queue.command).any fun d => d.dest == 64#8 && d.kind == 2#8 && d.func == 1#8

/-- The same of a command's outcome. -/
def firstCommandedAfter : Host.Outcome State Fault Refusal → Bool
  | .next t => firstCommanded t
  | _ => true

theorem commandsOutputs_first {s t : State} {p : Position} (tables : s.tables.active = wetBank) (commands : s.CommandsOutputs t 0 p) :
    firstCommanded t = true := by
  obtain ⟨-, commanded⟩ := commands 0
  have actuator : vesselActuator s.tables.active 0 0 = some (64#8, 1#8) := by rw [tables]; decide +kernel
  rw [actuator] at commanded
  obtain pending | ⟨d, mem, dest, kind, func⟩ := commanded
  · exact (congrArg (· || _) pending).trans (Bool.true_or _)
  · have found : (t.floor.queue.trip ++ t.floor.queue.command).any
        (fun d => d.dest == 64#8 && d.kind == 2#8 && d.func == 1#8) = true :=
      List.any_eq_true.mpr ⟨d, mem, by simp [dest, kind, func]⟩
    rw [firstCommanded, found, Bool.or_true]

theorem vesselPlant_ready (st : UnitState) (loadedOrEmpty : st = .loaded ∨ st = .empty) (id : Nat) (small : id = 0 ∨ id = 9) :
    (vesselPlant st).Ready .start (startLater id) := by
  obtain rfl | rfl := loadedOrEmpty <;> obtain rfl | rfl := small <;>
    exact ⟨⟨⟨by decide +kernel, by decide +kernel⟩, by unfold State.GoodSteady; decide +kernel,
      by decide +kernel, by decide +kernel, by decide +kernel, setLines_follow _⟩, by decide +kernel⟩

end Refutation

/-- Refutes O23: where the slot is filled after the work (log entry 5) and the queue was empty, the command of output 0 leaves in
the very slot that the request has left EMPTY: it is neither queued nor pending. -/
theorem not_startRunsVesselOrBox : ¬ Obligations.StartRunsVesselOrBox := by
  intro holds
  obtain ⟨t, runs, -, -, -, -, -, plain, -⟩ := (holds (startLater 0) (vesselPlant .loaded)
    (vesselPlant_ready .loaded (.inl rfl) 0 (.inl rfl))).1 0 rfl (by decide +kernel) (by unfold State.StartNames; decide +kernel)
    (by decide +kernel)
  obtain ⟨-, -, -, -, -, commands⟩ := plain (by decide +kernel)
  have after : firstCommandedAfter (exec (.start (startLater 0)) (vesselPlant .loaded)) = false := by decide +kernel
  rw [runs] at after
  exact Bool.false_ne_true (after.symm.trans (commandsOutputs_first rfl commands))

/-- Refutes O25: the same for a vessel that a START takes from EMPTY to RUNNING. -/
theorem not_startCreatesBatch : ¬ Obligations.StartCreatesBatch := by
  intro holds
  obtain ⟨-, -, -, -, -, creates⟩ := holds (startLater 9) (vesselPlant .empty) 0 (vesselPlant_ready .empty (.inr rfl) 9 (.inr rfl))
    rfl (by decide +kernel)
  obtain ⟨-, begins⟩ := creates 0 (by decide +kernel) (by decide +kernel) (by decide +kernel) (by decide +kernel) (by decide +kernel)
  obtain ⟨-, runs⟩ := begins 1000 (by decide +kernel) (by decide +kernel)
  obtain ⟨t, runs, -, -, -, -, -, -, -, -, commands⟩ := runs (by decide +kernel) (by decide +kernel)
  have after : firstCommandedAfter (exec (.start (startLater 9)) (vesselPlant .empty)) = false := by decide +kernel
  rw [runs] at after
  exact Bool.false_ne_true (after.symm.trans (commandsOutputs_first rfl commands))

end Sys2Proof.Machine

/-! SUPPORT. START of a kiln, and the peat that it begins (R133, R175, R176, R186): O24. -/

namespace Sys2Proof.Machine

/-! ### START of the peat channel (R186) -/

section Peat

variable {e : Env} {k : Fin 2} {c : Fin 12} {f : Floor}

/-- A kiln's record once its peat channel has answered. -/
def Kiln.peatIs (st : FillState) (x : Kiln) : Kiln := { x with peat := st }

/-- R133: the channel's record as its mask rule lets a START through. -/
def Channel.letIn (e : Env) (c : Fin 12) (base : Nat) (x : Channel) : Channel :=
  { x with masked := maskedBefore e c x }.dosed base

/-- R133: START of a channel whose owner asks, refused. -/
theorem startChannel_masks {u : PlantUnit} {quantity : Int} (owner : e.bank.channelOwner c = some u)
    (old : pointsFresh e c = false) (masked : maskedBefore e c f.channels[c] = true) :
    startChannel e u c quantity f = (f.channel c fun x => { x with masked := maskedBefore e c x }, .refused) := by
  have shuts : (!maskedBefore e c f.channels[c] || pointsFresh e c) = false := by
    rw [old, masked]
    rfl
  simp only [startChannel, if_pos owner, maskRule_eq, shuts]
  rfl

/-- R186: the floor as the kiln asks its channel. -/
def peatAsked (k : Fin 2) (f : Floor) : Floor := f.kiln k (Kiln.peatIs .filling)

theorem peatAsked_kilns : (peatAsked k f).kilns = upd f.kilns k (Kiln.peatIs .filling) := rfl

theorem startPeat_eq : startPeat e k c f =
    let r := startChannel e (.kiln k) c f.kilns[k].peatBase (peatAsked k f)
    match r.2 with
    | .refused => (r.1.kiln k (Kiln.peatIs .notBegun), false)
    | .accepted => (r.1, true)
    | .terminal => (terminalCountWith (kilnTerminal k) e c r.1, true) := by
  have base : (peatAsked k f).kilns[k].peatBase = f.kilns[k].peatBase := by
    rw [peatAsked_kilns, upd_get_self]
    rfl
  rw [← base]
  rfl

/-- R133: the mask rule lets the kiln's START through. -/
def LetsIn (e : Env) (k : Fin 2) (c : Fin 12) (x : Channel) : Prop :=
  e.bank.channelOwner c = some (.kiln k) ∧ (pointsFresh e c = true ∨ maskedBefore e c x = false)

/-- A channel's record with its mask as `m` says. -/
def Channel.withMask (m : Bool) (x : Channel) : Channel := { x with masked := m }

/-- R186: what START, asked for a base, leaves of the peat state and of the record `x` of the peat channel. -/
inductive PeatStarts (e : Env) (k : Fin 2) (c : Fin 12) (base : Nat) (x : Channel) : FillState → Channel → Prop where
  | refused (m : Bool) (refuses : ¬LetsIn e k c x) (masked : e.bank.channelOwner c = some (.kiln k) → m = true) :
      PeatStarts e k c base x .notBegun (x.withMask m)
  | opened {n : Nat} (lets : LetsIn e k c x) (counts : baseCount base = n) (some' : n ≠ 0) (p : Bool) :
      PeatStarts e k c base x .filling
        ((x.letIn e c n).entered e.second (openedState (e.bank.channelMode c) x.demand) p)
  | empty {y : Channel} (lets : LetsIn e k c x) (none : baseCount base = 0)
      (ends : (x.letIn e c 0).Terminated (e.bank.autoReinit c) y) : PeatStarts e k c base x .complete y

/-- R186: START of the peat channel where the channel refuses. -/
theorem startPeat_refused {base : Nat} (asks : f.kilns[k].peatBase = base) (refuses : ¬LetsIn e k c f.channels[c]) :
    ∃ m, startPeat e k c f = ((f.kiln k (Kiln.peatIs .notBegun)).channel c (Channel.withMask m), false) ∧
      (e.bank.channelOwner c = some (.kiln k) → m = true) := by
  have refuses' : e.bank.channelOwner c ≠ some (.kiln k) ∨
      (pointsFresh e c = false ∧ maskedBefore e c f.channels[c] = true) := by
    simpa [LetsIn, imp_iff_not_or] using refuses
  obtain ⟨op, refused, only⟩ := startChannel_refuses (f := peatAsked k f) (quantity := base) refuses'
  refine ⟨(op f.channels[c]).masked, ?_, fun owner => ?_⟩
  · rw [startPeat_eq, asks, refused]
    simp only [Floor.channel, Floor.kiln, peatAsked, upd_upd]
    rw [upd_congr f.channels c (g := Channel.withMask (op f.channels[c]).masked) (only f.channels[c])]
    rfl
  · obtain ⟨old, masked⟩ := refuses'.resolve_left (not_not.mpr owner)
    have masks := startChannel_masks (f := peatAsked k f) (quantity := base) owner old masked
    have channels := congrArg (fun r : Floor × Granting => r.1.channels[c]) (refused.symm.trans masks)
    simp only [channel_channels, upd_get_self] at channels
    exact (congrArg Channel.masked channels).trans masked

/-- R186: START of the peat channel where the channel opens. -/
theorem startPeat_opened {base n : Nat} (asks : f.kilns[k].peatBase = base) (lets : LetsIn e k c f.channels[c])
    (counts : baseCount base = n) (some' : n ≠ 0) :
    (startPeat e k c f).2 = true ∧ (startPeat e k c f).1.kilns = upd f.kilns k (Kiln.peatIs .filling) ∧
      ∃ p, (startPeat e k c f).1.channels = upd f.channels c fun x =>
        (x.letIn e c n).entered e.second (openedState (e.bank.channelMode c) x.demand) p := by
  have begins := startChannel_begins (f := peatAsked k f) (quantity := base) lets.1 lets.2
  obtain ⟨accepts, p, channels⟩ := beginDose_accepts (e := e) (c := c)
    (f := (peatAsked k f).channel c fun x => { x with masked := maskedBefore e c x }) some'
  have starts : startPeat e k c f = ((beginDose e c n
      ((peatAsked k f).channel c fun x => { x with masked := maskedBefore e c x })).1, true) := by
    rw [startPeat_eq, asks, begins, counts]
    simp only [accepts]
  rw [starts]
  refine ⟨rfl, ?_, p, ?_⟩
  · simp only [beginDose_frame, channel_kilns, peatAsked_kilns]
  · simp only [channels, channel_channels, upd_upd]
    rfl

theorem delivered_letIn (x : Channel) : (x.letIn e c 0).delivered = 0 := rfl

/-- R187: the report of a terminal count at which nothing was delivered. -/
theorem kilnTerminal_fed {g : Floor} (feeding : g.kilns = upd f.kilns k (Kiln.peatIs .filling)) :
    (kilnTerminal k 0 g).kilns = upd f.kilns k (Kiln.peatIs .complete) := by
  rw [kilnTerminal, kiln_kilns, feeding, upd_upd]
  rfl

theorem kilnTerminal_channels (n : Nat) (g : Floor) : (kilnTerminal k n g).channels = g.channels := rfl

/-- R186: START of the peat channel with a base of 0. -/
theorem startPeat_empty {base : Nat} (asks : f.kilns[k].peatBase = base) (lets : LetsIn e k c f.channels[c])
    (none : baseCount base = 0) :
    (startPeat e k c f).2 = true ∧ (startPeat e k c f).1.kilns = upd f.kilns k (Kiln.peatIs .complete) ∧
      ∃ y, (f.channels[c].letIn e c 0).Terminated (e.bank.autoReinit c) y ∧
        (startPeat e k c f).1.channels = f.channels.set c y := by
  have begins := startChannel_begins (f := peatAsked k f) (quantity := base) lets.1 lets.2
  have starts : startPeat e k c f = (terminalCountWith (kilnTerminal k) e c
      ((peatAsked k f).channel c (Channel.letIn e c 0)), true) := by
    rw [startPeat_eq, asks, begins, none, beginDose_empty]
    simp only [Floor.channel, upd_upd]
    rfl
  have letIn : ((peatAsked k f).channel c (Channel.letIn e c 0)).channels[c] = f.channels[c].letIn e c 0 := by
    rw [channel_channels, upd_get_self]
    rfl
  obtain ⟨y, ends, channels⟩ := terminated_channels e c ((peatAsked k f).channel c (Channel.letIn e c 0))
  have kilns : (terminated e c ((peatAsked k f).channel c (Channel.letIn e c 0))).kilns = upd f.kilns k (Kiln.peatIs .filling) :=
    (terminated_frame ..).2.2.2.1
  rw [letIn] at ends
  rw [starts]
  simp only [terminalCountWith_eq, letIn]
  refine ⟨trivial, ?_, y, ends, ?_⟩
  · rw [(raiseEvent_frame ..).2.2.2.2.1, delivered_letIn, kilnTerminal_fed kilns]
  · rw [(raiseEvent_frame ..).2.1]
    refine Eq.trans (kilnTerminal_channels ..) (channels.trans ?_)
    rw [channel_channels, upd_eq_set, Vector.set_set]
    rfl

/-- R186: what START of the peat channel leaves of the kiln and of the channels. -/
theorem startPeat_starts {base : Nat} (asks : f.kilns[k].peatBase = base) :
    ∃ st y, PeatStarts e k c base f.channels[c] st y ∧ (startPeat e k c f).1.kilns = upd f.kilns k (Kiln.peatIs st) ∧
      (startPeat e k c f).1.channels = f.channels.set c y ∧ (startPeat e k c f).2 = (st != .notBegun) := by
  by_cases lets : LetsIn e k c f.channels[c]
  · by_cases empty : baseCount base = 0
    · obtain ⟨accepts, kilns, y, ends, channels⟩ := startPeat_empty asks lets empty
      exact ⟨.complete, y, .empty lets empty ends, kilns, channels, accepts⟩
    · generalize counts : baseCount base = n at empty
      obtain ⟨accepts, kilns, p, channels⟩ := startPeat_opened asks lets counts empty
      exact ⟨.filling, _, .opened lets counts empty p, kilns, channels.trans (upd_eq_set ..), accepts⟩
  · obtain ⟨m, refused, masked⟩ := startPeat_refused asks lets
    rw [refused]
    exact ⟨.notBegun, _, .refused m lets masked, rfl, upd_eq_set .., rfl⟩

/-! ### The peat of a phase (R176) -/

/-- R186: a kiln's record with the base of its phase's peat. -/
def Kiln.based (x : Kiln) : Kiln := { x with peatBase := peatBaseOf x }

/-- R186: the floor as the kiln has told its peat channel its demand. -/
def peatTold (e : Env) (k : Fin 2) (f : Floor) : Floor := tellKiln e k (f.kiln k Kiln.based)

/-- R176: a kiln's record once the peat of its phase has begun, or has been refused. -/
def Kiln.begun (st : FillState) (x : Kiln) : Kiln :=
  { x.based with peat := st, ctx := if st = .notBegun then x.ctx.enterHeld .dose .running else x.ctx }

theorem peatTold_kilns : (peatTold e k f).kilns = upd f.kilns k Kiln.based := by simp [peatTold]

theorem beginPeat_wet (names : e.bank.unitChannel (.kiln k) = some c) (freeDry : phaseKind f.kilns[k].ctx.fields = .freeDry)
    (wet : 0 < phasePeat f.kilns[k].ctx.fields) :
    beginPeat e k f =
      let r := startPeat e k c (peatTold e k f)
      if r.2 then r.1 else enterHeld e (.kiln k) .dose .running r.1 := by
  simp only [beginPeat, names, if_pos (And.intro freeDry wet)]
  rfl

theorem enterHeld_kilns {r : HoldReason} {back : ResumeState} : (enterHeld e (.kiln k) r back f).kilns =
    upd f.kilns k fun x => { x with ctx := x.ctx.enterHeld r back } := (raiseEvent_frame ..).2.2.2.2.1

/-- R176: a phase with peat begins it. -/
theorem beginPeat_begun (names : e.bank.unitChannel (.kiln k) = some c)
    (freeDry : phaseKind f.kilns[k].ctx.fields = .freeDry) (wet : 0 < phasePeat f.kilns[k].ctx.fields) :
    ∃ st y, PeatStarts e k c (peatBaseOf f.kilns[k]) (peatTold e k f).channels[c] st y ∧
      (beginPeat e k f).kilns = upd f.kilns k (Kiln.begun st) ∧
      (beginPeat e k f).channels = (peatTold e k f).channels.set c y := by
  have asks : (peatTold e k f).kilns[k].peatBase = peatBaseOf f.kilns[k] := by
    rw [peatTold_kilns, upd_get_self]
    rfl
  obtain ⟨st, y, starts, kilns, channels, accepts⟩ := startPeat_starts (c := c) asks
  rw [peatTold_kilns, upd_upd] at kilns
  refine ⟨st, y, starts, ?_⟩
  rw [beginPeat_wet names freeDry wet]
  by_cases refused : st = .notBegun
  · have stops : (startPeat e k c (peatTold e k f)).2 = false := by rw [accepts, refused]; rfl
    simp only [stops, Bool.false_eq_true, if_false]
    refine ⟨?_, ?_⟩
    · rw [enterHeld_kilns, kilns, upd_upd, refused]
      rfl
    · rw [(enterHeld_frame ..).1, channels]
  · have goes : (startPeat e k c (peatTold e k f)).2 = true := by rw [accepts]; simpa using refused
    simp only [goes, if_true]
    refine ⟨kilns.trans (upd_congr _ _ ?_), channels⟩
    simp only [Kiln.begun, if_neg refused]
    rfl

end Peat

/-! ### A firing begins (R175) -/

section Firing

variable {e : Env} {k : Fin 2} {c : Fin 12} {f : Floor} {program : Nat}

/-- R175: a kiln's record as its firing begins in the phase at `p`, before its peat and its outputs. -/
def Kiln.firing (e : Env) (k : Fin 2) (fig : Figures) (p : Position) (x : Kiln) : Kiln :=
  (firingContext e (e.ton k).value fig { x with ctx := { x.ctx.enter .running with pos := some p } }).inPhase true

/-- R175: the floor as a firing enters its first phase, and before that. -/
def firingPlaced (e : Env) (k : Fin 2) (program : Nat) (f : Floor) : Floor :=
  let g := f.kiln k fun x => firingContext e (e.ton k).value (kilnInFigures f f.kilns[k].ctx.batch)
    { x with ctx := { x.ctx.enter .running with pos := some (e.bank.position (.kiln k) program 0) } }
  if g.kilns[k].noBasis then raiseEvent e 32 (18 + k) (match f.kilns[k].ctx.batch with | some id => id | none => 0) g else g

def firingEntered (e : Env) (k : Fin 2) (program : Nat) (f : Floor) : Floor :=
  (firingPlaced e k program f).kiln k (Kiln.inPhase true)

theorem startFiring_eq : startFiring e k program f = decidePhase e k (beginPeat e k (firingEntered e k program f)) := rfl

theorem firingEntered_channels : (firingEntered e k program f).channels = f.channels := by
  simp only [firingEntered, firingPlaced, kiln_channels]
  split <;> simp

theorem firingEntered_kilns : (firingEntered e k program f).kilns = upd f.kilns k
    (Kiln.firing e k (kilnInFigures f f.kilns[k].ctx.batch) (e.bank.position (.kiln k) program 0)) := by
  have placed : (firingPlaced e k program f).kilns = upd f.kilns k fun x =>
      firingContext e (e.ton k).value (kilnInFigures f f.kilns[k].ctx.batch)
        { x with ctx := { x.ctx.enter .running with pos := some (e.bank.position (.kiln k) program 0) } } := by
    simp only [firingPlaced]
    split
    · exact (raiseEvent_frame ..).2.2.2.2.1
    · rfl
  rw [firingEntered, kiln_kilns, placed, upd_upd]
  rfl

theorem firingEntered_kiln : (firingEntered e k program f).kilns[k] =
    f.kilns[k].firing e k (kilnInFigures f f.kilns[k].ctx.batch) (e.bank.position (.kiln k) program 0) := by
  rw [firingEntered_kilns, upd_get_self]

/-- R175: everything of the last firing is at its starting value. -/
structure Kiln.Fresh (e : Env) (k : Fin 2) (fig : Figures) (entry : List Int) (x : Kiln) : Prop where
  zero : x.timer = 0 ∧ x.removed = 0 ∧ x.carry = 0 ∧ x.cure = 0 ∧ x.skipped = 0 ∧ x.peatDelivered = 0 ∧ x.filter = none ∧
    x.history = [] ∧ x.flame = 0 ∧ x.trip = none ∧ x.origin = e.second ∧ x.setpoint = clamp 0 (entryCeiling entry) (e.ton k).value
  basis : ∀ m w, fig.mass = some m → fig.moisture = some w → x.noBasis = false ∧
    (x.dry : Int) = max 0 m * (1000 - clamp 0 1000 w) ∧ (x.water : Int) = max 0 m * clamp 0 1000 w
  noBasis : fig.mass = none ∨ fig.moisture = none → x.noBasis = true ∧ x.dry = 0 ∧ x.water = 0 ∧ x.moisture = 0

theorem clamp_within (w : Int) : 0 ≤ clamp 0 1000 w ∧ clamp 0 1000 w ≤ 1000 := by
  unfold clamp
  split
  · omega
  · split <;> omega

theorem firing_fresh (fig : Figures) (p : Position) (x : Kiln) : (x.firing e k fig p).Fresh e k fig p.entry := by
  refine ⟨⟨rfl, rfl, rfl, ?_, rfl, rfl, rfl, rfl, rfl, rfl, rfl, rfl⟩, fun m w mass moisture => ?_, fun lacks => ?_⟩
  · exact ite_self _
  · obtain ⟨low, high⟩ := clamp_within w
    simp only [Kiln.firing, Kiln.inPhase, firingContext, mass, moisture]
    refine ⟨trivial, ?_, ?_⟩
    · rw [Int.natCast_mul]
      congr 1
      · omega
      · omega
    · rw [Int.natCast_mul]
      congr 1
      · omega
      · omega
  · obtain none | none := lacks
    · simp only [Kiln.firing, Kiln.inPhase, firingContext, none]
      simp
    · simp only [Kiln.firing, Kiln.inPhase, firingContext, none]
      cases fig.mass <;> simp

theorem Kiln.Fresh.kept {fig : Figures} {entry : List Int} {x : Kiln} (fresh : x.Fresh e k fig entry) (ctx : Ctx) (peat : FillState)
    (peatBase : Nat) (burner fan : SetRecord) :
    Kiln.Fresh e k fig entry { x with ctx := ctx, peat := peat, peatBase := peatBase, burner := burner, fan := fan } :=
  ⟨fresh.zero, fresh.basis, fresh.noBasis⟩

/-- R175: the record of a kiln that LOADED has left for its first phase, and its phase there. -/
def Kiln.fires (e : Env) (k : Fin 2) (program : Nat) (f : Floor) : Kiln :=
  f.kilns[k].firing e k (kilnInFigures f f.kilns[k].ctx.batch) (e.bank.position (.kiln k) program 0)

theorem firingEntered_at : (firingEntered e k program f).kilns[k] = Kiln.fires e k program f := firingEntered_kiln

theorem decidePhase_record (g : Floor) : ∃ burner fan, (decidePhase e k g).kilns =
    upd g.kilns k fun x => { x with burner := burner, fan := fan } := by
  obtain ⟨p, q, decided⟩ := decidePhase_kilns e k g
  exact ⟨_, _, decided.trans (upd_congr _ _ rfl)⟩

/-- R176: a firing whose first phase calls for no peat. -/
theorem startFiring_dry (none : NoPeat e k (e.bank.position (.kiln k) program 0).fields) : ∃ burner fan,
    (startFiring e k program f).kilns[k] = { Kiln.fires e k program f with peat := .none, burner := burner, fan := fan } ∧
      (startFiring e k program f).channels = f.channels := by
  have begun : beginPeat e k (firingEntered e k program f) =
      (firingEntered e k program f).kiln k (Kiln.peatIs .none) := beginPeat_none (by rw [firingEntered_kiln]; exact none)
  obtain ⟨burner, fan, record⟩ := decidePhase_record (e := e) (k := k) (beginPeat e k (firingEntered e k program f))
  refine ⟨burner, fan, ?_, ?_⟩
  · rw [startFiring_eq, record, upd_get_self, begun, kiln_kilns, upd_get_self, firingEntered_at]
    rfl
  · rw [startFiring_eq, (decidePhase_frame ..).2.2.1, begun, kiln_channels, firingEntered_channels]

/-- A channel's record with its demand flag as `d` says. -/
def Channel.demanded (d : Bool) (x : Channel) : Channel := { x with demand := d }

/-- R136: what is told to a channel that is not open. -/
theorem told_shut {second : Nat} {demanding d pending : Bool} {x : Channel} (shut : x.isOpen = false) :
    x.told second demanding d pending = x.demanded d := by
  rw [(told_settles second demanding d pending x).2 shut, told_demand]
  rfl

/-- R186: the demand condition of a kiln that runs in a FREE_DRY phase with peat, with Ton and the loop. -/
theorem kilnDemand_running {g : Floor} {ctx : Ctx} {p : Position} (at' : g.kilns[k].ctx = ctx.runsAt p)
    (freeDry : phaseKind p.fields = .freeDry) (wet : 0 < phasePeat p.fields) (ton : (e.ton k).usable = true)
    (up : e.loopUp = true) : kilnDemand e g k = decide ((e.ton k).value ≤ phasePeatMaxTon p.fields) := by
  have fields : (ctx.runsAt p).fields = p.fields := rfl
  have warm : (phaseKind p.fields != .cool) = true := by rw [freeDry]; rfl
  have runs : (ctx.runsAt p).state = .running := rfl
  have placed : (ctx.runsAt p).pos.isSome = true := rfl
  have firing : (ctx.runsAt p).firing = true := rfl
  simp only [kilnDemand, permit, at', fields, freeDry, wet, ton, up, runs, placed, firing]
  simp

/-- R176: a firing whose first phase calls for peat. -/
theorem startFiring_wet (names : e.bank.unitChannel (.kiln k) = some c) (shut : f.channels[c].isOpen = false)
    (freeDry : phaseKind (e.bank.position (.kiln k) program 0).fields = .freeDry)
    (wet : 0 < phasePeat (e.bank.position (.kiln k) program 0).fields) (ton : (e.ton k).usable = true) (up : e.loopUp = true) :
    ∃ st y burner fan, PeatStarts e k c (peatBaseOf (Kiln.fires e k program f)) (f.channels[c].demanded (decide
        ((e.ton k).value ≤ phasePeatMaxTon (e.bank.position (.kiln k) program 0).fields))) st y ∧
      (startFiring e k program f).kilns[k] = { (Kiln.fires e k program f).begun st with burner := burner, fan := fan } ∧
      (startFiring e k program f).channels = f.channels.set c y := by
  obtain ⟨st, y, starts, kilns, channels⟩ := beginPeat_begun (f := firingEntered e k program f) names
    (by rw [firingEntered_kiln]; exact freeDry) (by rw [firingEntered_kiln]; exact wet)
  have demand : kilnDemand e ((firingEntered e k program f).kiln k Kiln.based) k =
      decide ((e.ton k).value ≤ phasePeatMaxTon (e.bank.position (.kiln k) program 0).fields) := by
    refine kilnDemand_running (ctx := f.kilns[k].ctx) ?_ freeDry wet ton up
    rw [kiln_kilns, upd_get_self, firingEntered_kiln]
    rfl
  obtain ⟨p, told⟩ := tellKiln_own (f := (firingEntered e k program f).kiln k Kiln.based) names
  rw [demand, kiln_channels, firingEntered_channels] at told
  have toldAt : (peatTold e k (firingEntered e k program f)).channels[c] = f.channels[c].demanded (decide
      ((e.ton k).value ≤ phasePeatMaxTon (e.bank.position (.kiln k) program 0).fields)) := by
    rw [peatTold, told, upd_get_self, told_shut shut]
  rw [firingEntered_at, toldAt] at starts
  obtain ⟨burner, fan, record⟩ := decidePhase_record (e := e) (k := k) (beginPeat e k (firingEntered e k program f))
  refine ⟨st, y, burner, fan, starts, ?_, ?_⟩
  · rw [startFiring_eq, record, upd_get_self, kilns, upd_get_self, firingEntered_at]
  · rw [startFiring_eq, (decidePhase_frame ..).2.2.1, channels, peatTold, told, upd_eq_set, Vector.set_set]

end Firing

/-! ### The channel at the end of the event (R136) -/

section Ends

variable {e : Env} {k : Fin 2} {c : Fin 12} {f g : Floor} {program : Nat}

/-- R133: the record of a dose that has begun with the demand condition told. -/
structure Channel.Begun (mode : ChannelMode) (d : Bool) (n : Nat) (z : Channel) : Prop where
  base : z.base = n
  current : z.current = n
  overrun : z.overrun = 0
  masked : z.masked = false
  active : mode ≠ .demand ∨ d = true → z.state = .active ∧ z.valve = .opened
  paused : mode = .demand → d = false → z.state = .paused ∧ z.valve = .closed
  demand : z.demand = d

theorem entered_begun {second n : Nat} {mode : ChannelMode} {p : Bool} {x : Channel} :
    ((x.letIn e c n).entered second (openedState mode x.demand) p).Begun mode x.demand n := by
  refine ⟨by simp [Channel.entered, Channel.letIn, Channel.dosed], by simp [Channel.entered, Channel.letIn, Channel.dosed],
    by simp [Channel.entered, Channel.letIn, Channel.dosed], by simp [Channel.entered, Channel.letIn, Channel.dosed],
    fun opens => ?_, fun demanding quiet => ?_, by simp [Channel.entered, Channel.letIn, Channel.dosed]⟩
  · have active : openedState mode x.demand = .active := by
      refine if_neg fun h => ?_
      obtain other | demand := opens
      · exact other h.1
      · exact h.2 demand
    simp [active, Channel.entered]
  · have paused : openedState mode x.demand = .paused := if_pos ⟨demanding, by simp [quiet]⟩
    simp [paused, Channel.entered]

theorem Channel.Begun.heard {mode : ChannelMode} {d : Bool} {n : Nat} {z : Channel} (begun : z.Begun mode d n) :
    z.Heard (decide (mode = .demand)) d := by
  refine ⟨begun.demand, fun demanding => ⟨fun h => ?_, fun h => ?_⟩⟩
  · rw [(begun.paused (of_decide_eq_true demanding) h.2).1] at h
    exact absurd h.1 (by decide)
  · rw [(begun.active (.inr h.2)).1] at h
    exact absurd h.1 (by decide)

section Starts

variable {base n : Nat} {x y : Channel} {st : FillState}

theorem PeatStarts.opens (starts : PeatStarts e k c base x st y) (lets : LetsIn e k c x) (counts : baseCount base = n)
    (some' : n ≠ 0) : st = .filling ∧ y.Begun (e.bank.channelMode c) x.demand n := by
  cases starts with
  | refused m refuses _ => exact absurd lets refuses
  | opened _ counts' =>
    obtain rfl : n = _ := counts.symm.trans counts'
    exact ⟨rfl, entered_begun⟩
  | empty _ none => exact absurd (counts.symm.trans none) some'

theorem PeatStarts.empties (starts : PeatStarts e k c base x st y) (lets : LetsIn e k c x) (none : baseCount base = 0) :
    st = .complete ∧ (x.letIn e c 0).Terminated (e.bank.autoReinit c) y := by
  cases starts with
  | refused m refuses _ => exact absurd lets refuses
  | opened _ counts some' => exact absurd (counts.symm.trans none) some'
  | empty _ _ ends => exact ⟨rfl, ends⟩

theorem PeatStarts.refuses (starts : PeatStarts e k c base x st y) (shuts : ¬LetsIn e k c x)
    (owner : e.bank.channelOwner c = some (.kiln k)) : st = .notBegun ∧ y.masked = true := by
  cases starts with
  | refused m _ masked => exact ⟨rfl, masked owner⟩
  | opened lets => exact absurd lets shuts
  | empty lets => exact absurd lets shuts

end Starts

theorem told_masked (second : Nat) (demanding d pending : Bool) (x : Channel) :
    (x.told second demanding d pending).masked = x.masked := by
  simp only [Channel.told]
  split
  · simp [Channel.entered]
  · split
    · simp [Channel.entered]
    · rfl

theorem startFiring_ctx_other {w : PlantUnit} (other : w ≠ .kiln k) : (startFiring e k program f).ctx w = f.ctx w := by
  have placed : (firingPlaced e k program f).ctx w = f.ctx w := by
    simp only [firingPlaced]
    split <;> simp [kiln_ctx, other]
  have enters : startFiring e k program f = enterPhase e k true (firingPlaced e k program f) := rfl
  rw [enters, enterPhase_ctx_other other, placed]

theorem startFiring_onlyUnit : f.OnlyUnit (.kiln k) (startFiring e k program f) :=
  ⟨fun _ other => startFiring_ctx_other other, by simp, by simp, by simp⟩

/-- What a kiln's command leaves at the end of its event: its channel is told its demand condition. -/
theorem tellOwners_tellKiln {before : Floor} (vessels : f.vessels = before.vessels)
    (others : ∀ w, w ≠ .kiln k → f.ctx w = before.ctx w) (changed : (f.kilnAt k).ctx ≠ (before.kilnAt k).ctx) :
    tellOwners e before e f = tellKiln e k f := by
  rw [tellOwners_kiln k (fun v => by simp only [vesselDemand, vessels]) fun j other => others (.kiln j) (by simpa using other)]
  exact tellChangedKiln_changed (Ne.symm changed)

/-- R93, R175: START of a LOADED kiln that passes every test. -/
theorem serveStart_fires {id : Nat} (loaded : (f.kilnAt k).ctx.state = .loaded) (few : program < programCount (.kiln k))
    (defined : 0 < e.bank.programLength (.kiln k) program) (batch : id = 0 ∨ (f.kilnAt k).ctx.batch = some id)
    (up : e.loopUp = true) (ton : (e.ton k).usable = true) (shut : unitChannelOpen e (.kiln k) f = false) :
    (serveStart e program id (.kiln k) f).1 = startFiring e k program f := by
  have state : (f.ctx (.kiln k)).state = .loaded := loaded
  have matches' : ¬(id ≠ 0 ∧ (f.ctx (.kiln k)).batch ≠ some id) := fun h => batch.elim h.1 h.2
  have defined' : programDefined e (.kiln k) program = true := by simp [programDefined, few, defined]
  have allowed : startAllowed e (.kiln k) f = true := by simp [startAllowed, firingAllowed, up, ton, shut]
  simp only [serveStart, state, startLoaded, if_neg matches', defined', allowed]
  rfl

theorem tellKiln_queued (q : Queue) : (tellKiln e k (f.withQueue q)).kilns = f.kilns := by simp

/-- R176: a firing has left LOADED: its kiln RUNS, or is HELD. -/
theorem startFiring_leaves (loaded : (f.kilnAt k).ctx.state = .loaded) : ((startFiring e k program f).kilnAt k).ctx ≠ (f.kilnAt k).ctx := by
  have ctx : ((startFiring e k program f).kilnAt k).ctx = ((beginPeat e k (firingEntered e k program f)).kilnAt k).ctx := by
    obtain ⟨burner, fan, record⟩ := decidePhase_record (e := e) (k := k) (beginPeat e k (firingEntered e k program f))
    rw [Floor.kilnAt, startFiring_eq, record, upd_get_self]
    rfl
  have runs : ((firingEntered e k program f).kilns[k]).ctx.state = .running := by rw [firingEntered_kiln]; rfl
  have state : ((beginPeat e k (firingEntered e k program f)).kilnAt k).ctx.state = .running ∨
      ((beginPeat e k (firingEntered e k program f)).kilnAt k).ctx.state = .held := by
    generalize firingEntered e k program f = g at runs
    by_cases none : NoPeat e k g.kilns[k].ctx.fields
    · refine .inl ?_
      rw [Floor.kilnAt, beginPeat_none none, kiln_kilns, upd_get_self]
      exact runs
    · simp only [NoPeat, not_or, not_not, not_le] at none
      obtain ⟨freeDry, wet, names⟩ := none
      obtain ⟨c, names⟩ := Option.ne_none_iff_exists'.mp names
      obtain ⟨st, y, -, kilns, -⟩ := beginPeat_begun names freeDry wet
      rw [Floor.kilnAt, kilns, upd_get_self]
      by_cases refused : st = .notBegun
      · simp [Kiln.begun, refused, Ctx.enterHeld]
      · simp only [Kiln.begun, if_neg refused]
        exact .inl runs
  intro same
  rw [← ctx, same, loaded] at state
  simp at state

end Ends

/-! ### The statement -/

section Fired

variable {s t : State} {r : Req} {e : Env} {k : Fin 2} {c : Fin 12} {f : Floor} {program base : Nat} {x y : Channel} {st : FillState}

/-- R133: the channel of a START that is granted, once it is told the same demand condition again. -/
theorem PeatStarts.granted (starts : PeatStarts e k c base x st y) (lets : LetsIn e k c x) (some' : 0 < base)
    (small : base < 2 ^ 31) (second : Nat) (pending : Bool) : st = .filling ∧
      (y.told second (decide (e.bank.channelMode c = .demand)) x.demand pending).Begun (e.bank.channelMode c) x.demand base := by
  have counts : baseCount (base : Int) = base := by
    have := baseCount_small (quantity := base) (by omega) (by omega)
    omega
  obtain ⟨rfl, begun⟩ := starts.opens lets counts (by omega)
  rw [told_again begun.heard]
  exact ⟨rfl, begun⟩

/-- R133: the same of a base of 0, whatever it is told. -/
theorem PeatStarts.emptied (starts : PeatStarts e k c base x st y) (lets : LetsIn e k c x) (none : base = 0) (second : Nat)
    (demanding d pending : Bool) : st = .complete ∧ (y.told second demanding d pending).tc = true ∧
      (y.told second demanding d pending).base = 0 := by
  obtain ⟨rfl, ends⟩ := starts.empties lets (by rw [none]; rfl)
  have settled := ends.settles (told_settles second demanding d pending y)
  exact ⟨rfl, settled.tc, settled.base⟩

/-- R93: the floor of `t` as a firing has left `f`. -/
structure State.Fires (s t : State) (k : Fin 2) (program : Nat) (f : Floor) : Prop where
  kiln : t.floor.kilns[k] = (startFiring s.env k program f).kilns[k]
  others : ∀ c, s.env.bank.unitChannel (.kiln k) ≠ some c → t.floor.channels[c] = (startFiring s.env k program f).channels[c]
  own : ∀ c, s.env.bank.unitChannel (.kiln k) = some c → ∃ pending, t.floor.channels[c] =
    (startFiring s.env k program f).channels[c].told s.env.second (decide (s.env.bank.channelMode c = .demand))
      (kilnDemand s.env (startFiring s.env k program f) k) pending

theorem exec_start_fires (h : s.Ready .start r) (named : unitOf r.qual.toNat = some (.kiln k))
    (loaded : (s.floor.kilnAt k).ctx.state = .loaded) (names : s.StartNames (.kiln k) r) (up : s.loop.up = true)
    (ton : (s.env.ton k).usable = true) (shut : unitChannelOpen s.env (.kiln k) s.floor = false) :
    ∃ t q, exec (.start r) s = .next t ∧ s.ServedOn t ∧ s.floor.OnlyUnit (.kiln k) t.floor ∧
      (t.floor.vessels = s.floor.vessels ∧ t.floor.boxes = s.floor.boxes ∧ t.floor.arbiter = s.floor.arbiter) ∧
      s.Fires t k (Req.upper r) (s.floor.withQueue q) := by
  obtain ⟨few, defined, batch⟩ := names
  obtain ⟨t, q, q', runs, served, floor⟩ := exec_unit_tells h (by decide) named (moving_of_state loaded rfl)
  have serves : (serveUnit .start r s.env (.kiln k) (s.floor.withQueue q)).1 =
      startFiring s.env k (Req.upper r) (s.floor.withQueue q) := serveStart_fires loaded few defined batch up ton shut
  have tells : tellOwners s.env s.floor s.env ((startFiring s.env k (Req.upper r) (s.floor.withQueue q)).withQueue q') =
      tellKiln s.env k ((startFiring s.env k (Req.upper r) (s.floor.withQueue q)).withQueue q') := by
    refine tellOwners_tellKiln (by simp) (fun w other => ?_) (startFiring_leaves (f := s.floor.withQueue q) loaded)
    exact (ctx_withQueue ..).trans ((startFiring_ctx_other other).trans (ctx_withQueue ..))
  rw [serves, tells] at floor
  obtain ⟨onlyOthers, batches, register, accept⟩ := startFiring_onlyUnit (e := s.env) (k := k) (f := s.floor.withQueue q)
    (program := Req.upper r)
  refine ⟨t, q, runs, served, ?_, by rw [floor]; simp, ?_, fun c other => ?_, fun c names => ?_⟩
  · rw [floor]
    exact ⟨fun w other => (tellKiln_ctx ..).trans ((ctx_withQueue ..).trans ((onlyOthers w other).trans (ctx_withQueue ..))),
      by simp, by simp, by simp⟩
  · rw [floor, tellKiln_queued]
  · rw [floor, tellKiln_other other, withQueue_channels]
  · obtain ⟨pending, told⟩ := tellKiln_own (e := s.env) (k := k)
      (f := (startFiring s.env k (Req.upper r) (s.floor.withQueue q)).withQueue q') names
    rw [← floor, withQueue_channels] at told
    exact ⟨pending, (congrArg (fun v : Vector Channel 12 => v[c]) told).trans (upd_get_self ..)⟩

/-- R133, R186: what a firing with peat has left of its kiln and its channel. -/
structure State.Feeds (s t : State) (k : Fin 2) (c : Fin 12) (p : Position) (z : Kiln) (st : FillState) (y : Channel) : Prop where
  starts : PeatStarts s.env k c t.floor.kilns[k].peatBase
    (s.floor.channels[c].demanded (decide ((s.env.ton k).value ≤ phasePeatMaxTon p.fields))) st y
  record : ∃ burner fan, t.floor.kilns[k] = { z.begun st with burner := burner, fan := fan }
  told : ∃ d pending, t.floor.channels[c] = y.told s.env.second (decide (s.env.bank.channelMode c = .demand)) d pending ∧
    (st ≠ .notBegun → d = decide ((s.env.ton k).value ≤ phasePeatMaxTon p.fields))

/-- R175: the record of the kiln whose firing begins on the floor that the request's slot has left. -/
def State.firesAs (s : State) (k : Fin 2) (program : Nat) : Kiln :=
  s.floor.kilns[k].firing s.env k (kilnInFigures s.floor s.floor.kilns[k].ctx.batch) (s.env.bank.position (.kiln k) program 0)

theorem fires_queued (q : Queue) : Kiln.fires s.env k program (s.floor.withQueue q) = s.firesAs k program := rfl

theorem firesAs_ctx : (s.firesAs k program).ctx = s.floor.kilns[k].ctx.runsAt (s.env.bank.position (.kiln k) program 0) := rfl

variable {q : Queue}

theorem State.Fires.dry (fires : s.Fires t k program (s.floor.withQueue q))
    (none : NoPeat s.env k (s.env.bank.position (.kiln k) program 0).fields) :
    (∃ burner fan, t.floor.kilns[k] = { s.firesAs k program with peat := .none, burner := burner, fan := fan }) ∧
      ∀ c, s.env.bank.unitChannel (.kiln k) ≠ some c → t.floor.channels[c] = s.floor.channels[c] := by
  obtain ⟨burner, fan, record, channels⟩ := startFiring_dry (f := s.floor.withQueue q) none
  refine ⟨⟨burner, fan, fires.kiln.trans (fires_queued q ▸ record)⟩, fun c other => ?_⟩
  rw [fires.others c other, channels]
  rfl

theorem State.Fires.feeds (fires : s.Fires t k program (s.floor.withQueue q))
    (names : s.env.bank.unitChannel (.kiln k) = some c) (shut : unitChannelOpen s.env (.kiln k) s.floor = false)
    (freeDry : phaseKind (s.env.bank.position (.kiln k) program 0).fields = .freeDry)
    (wet : 0 < phasePeat (s.env.bank.position (.kiln k) program 0).fields) (ton : (s.env.ton k).usable = true) (up : s.loop.up = true) :
    (∃ st y, s.Feeds t k c (s.env.bank.position (.kiln k) program 0) (s.firesAs k program) st y) ∧
      ∀ d, s.env.bank.unitChannel (.kiln k) ≠ some d → t.floor.channels[d] = s.floor.channels[d] := by
  have shut' : s.floor.channels[c].isOpen = false := by
    simp only [unitChannelOpen, names] at shut
    exact shut
  obtain ⟨st, y, burner, fan, starts, record, channels⟩ := startFiring_wet (f := s.floor.withQueue q) names shut' freeDry wet ton up
  have kiln : t.floor.kilns[k] = { (s.firesAs k program).begun st with burner := burner, fan := fan } :=
    fires.kiln.trans (fires_queued q ▸ record)
  have base : t.floor.kilns[k].peatBase = peatBaseOf (s.firesAs k program) := by
    rw [kiln]
    rfl
  obtain ⟨pending, own⟩ := fires.own c names
  rw [channels, set_get] at own
  refine ⟨⟨st, y, ?_, ⟨burner, fan, kiln⟩, _, pending, own, fun begun => ?_⟩, fun d other => ?_⟩
  · rw [base]
    exact starts
  · refine kilnDemand_running (ctx := s.floor.kilns[k].ctx) ?_ freeDry wet ton up
    rw [← fires.kiln, kiln]
    simp only [Kiln.begun, if_neg begun]
    exact firesAs_ctx
  · have apart : c ≠ d := fun same => other (same ▸ names)
    rw [fires.others d other, channels, set_get_ne _ _ apart]
    rfl

/-- R175: what a firing has left, with or without peat. -/
theorem State.Fires.fresh (fires : s.Fires t k program (s.floor.withQueue q))
    (shut : unitChannelOpen s.env (.kiln k) s.floor = false) (ton : (s.env.ton k).usable = true) (up : s.loop.up = true) :
    t.floor.kilns[k].Fresh s.env k (kilnInFigures s.floor s.floor.kilns[k].ctx.batch)
        (s.env.bank.position (.kiln k) program 0).entry ∧
      ∀ c, s.env.bank.unitChannel (.kiln k) ≠ some c → t.floor.channels[c] = s.floor.channels[c] := by
  have begins : (s.firesAs k program).Fresh s.env k (kilnInFigures s.floor s.floor.kilns[k].ctx.batch)
      (s.env.bank.position (.kiln k) program 0).entry := firing_fresh ..
  by_cases none : NoPeat s.env k (s.env.bank.position (.kiln k) program 0).fields
  · obtain ⟨⟨burner, fan, record⟩, others⟩ := fires.dry none
    rw [record]
    exact ⟨begins.kept .., others⟩
  · simp only [NoPeat, not_or, not_not, not_le] at none
    obtain ⟨freeDry, wet, names⟩ := none
    obtain ⟨d, names⟩ := Option.ne_none_iff_exists'.mp names
    obtain ⟨⟨st, y, feeds⟩, others⟩ := fires.feeds names shut freeDry wet ton up
    obtain ⟨burner, fan, record⟩ := feeds.record
    rw [record]
    exact ⟨begins.kept .., others⟩

variable {p : Position} {z : Kiln}

theorem State.Feeds.granted (feeds : s.Feeds t k c p z st y) {d : Bool} (lets : LetsIn s.env k c (s.floor.channels[c].demanded d))
    (some' : 0 < t.floor.kilns[k].peatBase) (small : t.floor.kilns[k].peatBase < 2 ^ 31) :
    t.floor.kilns[k].ctx = z.ctx ∧ t.floor.kilns[k].peat = .filling ∧ t.floor.channels[c].Begun (s.env.bank.channelMode c)
      (decide ((s.env.ton k).value ≤ phasePeatMaxTon p.fields)) t.floor.kilns[k].peatBase := by
  obtain ⟨n, pending, told, demand⟩ := feeds.told
  obtain ⟨rfl, begun⟩ := feeds.starts.granted lets some' small s.env.second pending
  obtain ⟨burner, fan, record⟩ := feeds.record
  rw [demand (by decide)] at told
  rw [told]
  refine ⟨?_, ?_, begun⟩
  · rw [record]
    rfl
  · rw [record]
    rfl

theorem State.Feeds.emptied (feeds : s.Feeds t k c p z st y) {d : Bool} (lets : LetsIn s.env k c (s.floor.channels[c].demanded d))
    (none : t.floor.kilns[k].peatBase = 0) : t.floor.kilns[k].ctx = z.ctx ∧ t.floor.kilns[k].peat = .complete ∧
      t.floor.channels[c].tc = true ∧ t.floor.channels[c].base = 0 := by
  obtain ⟨n, pending, told, -⟩ := feeds.told
  obtain ⟨rfl, tc, base⟩ := feeds.starts.emptied lets none s.env.second (decide (s.env.bank.channelMode c = .demand)) n pending
  obtain ⟨burner, fan, record⟩ := feeds.record
  rw [told]
  refine ⟨?_, ?_, tc, base⟩
  · rw [record]
    rfl
  · rw [record]
    rfl

theorem State.Feeds.refused (feeds : s.Feeds t k c p z st y) {d : Bool} (shuts : ¬LetsIn s.env k c (s.floor.channels[c].demanded d))
    (owner : s.env.bank.channelOwner c = some (.kiln k)) : t.floor.kilns[k].ctx = z.ctx.heldFor .dose ∧
      t.floor.kilns[k].peat = .notBegun ∧ t.floor.channels[c].masked = true := by
  obtain ⟨n, pending, told, -⟩ := feeds.told
  obtain ⟨rfl, masked⟩ := feeds.starts.refuses shuts owner
  obtain ⟨burner, fan, record⟩ := feeds.record
  rw [told]
  refine ⟨?_, ?_, (told_masked ..).trans masked⟩
  · rw [record]
    rfl
  · rw [record]
    rfl

theorem State.Feeds.peatBase (feeds : s.Feeds t k c p z st y) : t.floor.kilns[k].peatBase =
    if t.floor.kilns[k].noBasis = true then 0 else (phasePeat z.ctx.fields).toNat * t.floor.kilns[k].dry / 1000000 := by
  obtain ⟨burner, fan, record⟩ := feeds.record
  rw [record]
  rfl

/-- R133: the words of the statement for a channel whose mask rule lets the START through. -/
theorem letsIn_iff {d : Bool} : LetsIn s.env k c (s.floor.channels[c].demanded d) ↔
    s.env.bank.channelOwner c = some (.kiln k) ∧ (pointsFresh s.env c = true ∨ ¬(s.floor.channels[c].masked = true ∨
      ((s.env.point (s.env.bank.meterPoint c)).quality = .stale ∨ (s.env.point (s.env.bank.meterPoint c)).quality = .none) ∨
      ((s.env.point (s.env.bank.feedbackPoint c)).quality = .stale ∨ (s.env.point (s.env.bank.feedbackPoint c)).quality = .none))) := by
  refine and_congr_right fun _ => or_congr_right ?_
  rw [Bool.eq_false_iff]
  exact not_congr (maskedBefore_iff ..)

end Fired

/-- Settles O24: a firing begins in phase 0, with its peat granted, empty or refused. -/
theorem startBeginsFiring : Obligations.StartBeginsFiring := by
  intro r s k h at' loaded names up ton shut p fig
  obtain ⟨t, q, runs, served, only, ⟨vessels, boxes, arbiter⟩, fires⟩ :=
    exec_start_fires h (unitOf_eq_some.mpr at') loaded names up ton shut
  obtain ⟨fresh, others⟩ := fires.fresh shut ton up
  obtain ⟨timer, removed, carry, cure, skipped, delivered, filter, history, flame, trip, origin, setpoint⟩ := fresh.zero
  refine ⟨t, runs, served, only, vessels, boxes, arbiter, others, timer, removed, carry, cure, skipped, delivered, filter, history,
    flame, trip, origin, setpoint, fresh.basis, fresh.noBasis, fun none => ?_, fun freeDry wet c names owner => ?_⟩
  · obtain ⟨⟨burner, fan, record⟩, -⟩ := fires.dry none
    rw [record]
    exact ⟨firesAs_ctx, rfl⟩
  · obtain ⟨⟨st, y, feeds⟩, -⟩ := fires.feeds names shut freeDry wet ton up
    refine ⟨feeds.peatBase, fun grants some' small => ?_, fun grants none => ?_, fun old masks => ?_⟩
    · obtain ⟨ctx, peat, begun⟩ := feeds.granted (d := true) (letsIn_iff.mpr ⟨owner, grants⟩) some' small
      refine ⟨ctx.trans firesAs_ctx, peat, begun.base, begun.current, begun.overrun, begun.masked, fun opens => ?_, fun mode hot => ?_⟩
      · exact begun.active (opens.imp_right decide_eq_true)
      · exact begun.paused mode (decide_eq_false (not_le.mpr hot))
    · obtain ⟨ctx, rest⟩ := feeds.emptied (d := true) (letsIn_iff.mpr ⟨owner, grants⟩) none
      exact ⟨ctx.trans firesAs_ctx, rest⟩
    · obtain ⟨ctx, rest⟩ := feeds.refused (d := true) (fun lets => (letsIn_iff.mp lets).2.elim
        (fun fresh => Bool.false_ne_true (old.symm.trans fresh)) fun clear => clear masks) owner
      exact ⟨ctx, rest⟩

end Sys2Proof.Machine

/-! SUPPORT. RESUME (R86, R95, R125, R154, R187, R191): O27. -/

namespace Sys2Proof.Machine

/-! ### What a channel answers (R133, R134) -/

section Answers

variable {e : Env} {f g : Floor} {u : PlantUnit} {c : Fin 12} {k : Fin 2} {v : Fin 6} {quantity : Int}

/-- R133: the mask rule lets a request to the channel of record `x` through. -/
def letsThrough (e : Env) (c : Fin 12) (x : Channel) : Bool := !maskedBefore e c x || pointsFresh e c

/-- R133: the answer of a START, by the channel's record. -/
def startAnswer (e : Env) (u : PlantUnit) (c : Fin 12) (quantity : Int) (x : Channel) : Granting :=
  if e.bank.channelOwner c = some u then
    if letsThrough e c x then if baseCount quantity = 0 then .terminal else .accepted else .refused
  else .refused

/-- R134: the answer of a CONTINUE, by the channel's record. -/
def continueAnswer (e : Env) (u : PlantUnit) (c : Fin 12) (x : Channel) : Granting :=
  if e.bank.channelOwner c = some u then
    if x.state = .active ∨ x.state = .paused then .accepted
    else if x.state = .done then .refused
    else if letsThrough e c x then if x.current = 0 then .terminal else .accepted
    else .refused
  else .refused

theorem startChannel_answer : (startChannel e u c quantity f).2 = startAnswer e u c quantity f.channels[c] := by
  simp only [startChannel, startAnswer, maskRule_eq, letsThrough]
  split
  · by_cases lets : (!maskedBefore e c f.channels[c] || pointsFresh e c) = true
    · simp only [lets, if_true, beginDose]
      split <;> rfl
    · simp only [lets]
      rfl
  · rfl

/-- R134: a CONTINUE of a channel that is IDLE or STOPPED. -/
theorem continueChannel_rests (owner : e.bank.channelOwner c = some u)
    (rests : f.channels[c].state = .idle ∨ f.channels[c].state = .stopped) :
    (continueChannel e u c f).2 = if letsThrough e c f.channels[c] then
      if f.channels[c].current = 0 then .terminal else .accepted else .refused := by
  have continues : continueChannel e u c f =
      let g := f.channel c fun x => { x with masked := maskedBefore e c x }
      if letsThrough e c f.channels[c] then
        let g := g.channel c fun x => { x with masked := false, note := false }
        if g.channels[c].current = 0 then (g, .terminal) else (openChannel e c g, .accepted)
      else (g, .refused) := by
    obtain state | state := rests <;>
      · simp only [continueChannel, if_pos owner, state, maskRule_eq]
        rfl
  rw [continues]
  by_cases lets : letsThrough e c f.channels[c] = true
  · simp only [lets, if_true, channel_channels, upd_get_self]
    split <;> rfl
  · simp only [lets]
    rfl

theorem continueChannel_answer : (continueChannel e u c f).2 = continueAnswer e u c f.channels[c] := by
  by_cases owner : e.bank.channelOwner c = some u
  · rw [continueAnswer, if_pos owner]
    cases state : f.channels[c].state with
    | active =>
      simp only [continueChannel, if_pos owner, state]
      rfl
    | paused =>
      simp only [continueChannel, if_pos owner, state]
      rfl
    | done =>
      simp only [continueChannel, if_pos owner, state]
      rfl
    | idle =>
      rw [continueChannel_rests owner (.inl state)]
      simp
    | stopped =>
      rw [continueChannel_rests owner (.inr state)]
      simp
  · rw [continueAnswer, if_neg owner, continueChannel, if_neg owner]

theorem letsThrough_congr {x y : Channel} (masked : y.masked = x.masked) : letsThrough e c y = letsThrough e c x := by
  rw [letsThrough, maskedBefore, masked, letsThrough, maskedBefore]

theorem continueAnswer_congr {x y : Channel} (state : y.state = x.state) (masked : y.masked = x.masked)
    (current : y.current = x.current) : continueAnswer e u c y = continueAnswer e u c x := by
  rw [continueAnswer, letsThrough_congr masked, state, current, continueAnswer]

/-- Whether the offer of a valve's cell was refused is of no account to the rest of the record. -/
theorem told_pending (second : Nat) (demanding d p p' : Bool) (x : Channel) :
    (x.told second demanding d p).state = (x.told second demanding d p').state ∧
      (x.told second demanding d p).masked = (x.told second demanding d p').masked ∧
      (x.told second demanding d p).current = (x.told second demanding d p').current := by
  simp only [Channel.told]
  split
  · simp [Channel.entered]
  · split <;> simp [Channel.entered]

/-- R125: the answer of a vessel's fill request, by its fill state and its channel. -/
theorem fillRequest_congr (channels : g.channels = f.channels) (fill : (g.vesselAt v).fill = (f.vesselAt v).fill)
    (pos : (g.vesselAt v).ctx.pos = (f.vesselAt v).ctx.pos) : (fillRequest e v g).2 = (fillRequest e v f).2 := by
  have fields : (g.vesselAt v).ctx.fields = (f.vesselAt v).ctx.fields := by rw [Ctx.fields, pos]; rfl
  simp only [Floor.vesselAt] at fill fields
  have starts : (startFill e v g).2 = (startFill e v f).2 := by
    simp only [startFill]
    cases e.bank.unitChannel (.vessel v) with
    | none => rfl
    | some c =>
      have answers : (startChannel e (.vessel v) c (stepFillVolume g.vessels[v].ctx.fields) g).2 =
          (startChannel e (.vessel v) c (stepFillVolume f.vessels[v].ctx.fields) f).2 := by
        rw [startChannel_answer, startChannel_answer, channels, fields]
      simp only [answers]
      split <;> rfl
  simp only [fillRequest, fill]
  cases f.vessels[v].fill with
  | notBegun => simp only [starts]
  | filling =>
    cases e.bank.unitChannel (.vessel v) with
    | none => rfl
    | some c =>
      simp only [channels, continueChannel_answer]
      split <;> rfl
  | none => rfl
  | complete => rfl

theorem startPeat_accepts_iff : (startPeat e k c f).2 = true ↔ LetsIn e k c f.channels[c] := by
  obtain ⟨st, y, starts, -, -, accepts⟩ := startPeat_starts (e := e) (k := k) (c := c) (f := f) rfl
  rw [accepts]
  cases starts with
  | refused m refuses => exact iff_of_false (by decide) refuses
  | opened lets => exact iff_of_true (by decide) lets
  | empty lets => exact iff_of_true (by decide) lets

/-- R187: the answer of a kiln's peat request reads the channels and the kilns alone. -/
theorem resumePeat_congr (channels : g.channels = f.channels) (kilns : g.kilns = f.kilns) :
    (resumePeat e k g).2 = (resumePeat e k f).2 := by
  cases names : e.bank.unitChannel (.kiln k) with
  | none => simp only [resumePeat, names]
  | some c =>
    obtain ⟨p, toldG⟩ := tellKiln_own (f := g) names
    obtain ⟨p', toldF⟩ := tellKiln_own (f := f) names
    have demand : kilnDemand e g k = kilnDemand e f k := kilnDemand_congr (by rw [kilns])
    rw [demand, channels] at toldG
    obtain ⟨state, masked, current⟩ := told_pending e.second (decide (e.bank.channelMode c = .demand)) (kilnDemand e f k) p p'
      f.channels[c]
    have atG := (congrArg (fun w : Vector Channel 12 => w[c]) toldG).trans (upd_get_self ..)
    have atF := (congrArg (fun w : Vector Channel 12 => w[c]) toldF).trans (upd_get_self ..)
    rw [← atG, ← atF] at state masked current
    have peat : (tellKiln e k g).kilns = (tellKiln e k f).kilns := by simp [kilns]
    have starts : (startPeat e k c (tellKiln e k g)).2 = (startPeat e k c (tellKiln e k f)).2 := by
      rw [Bool.eq_iff_iff, startPeat_accepts_iff, startPeat_accepts_iff]
      simp only [LetsIn, maskedBefore, masked]
    have opens : (tellKiln e k g).channels[c].isOpen = (tellKiln e k f).channels[c].isOpen := by simp only [Channel.isOpen, state]
    have continues := continueAnswer_congr (e := e) (u := .kiln k) (c := c) state masked current
    simp only [resumePeat, names, peat]
    cases (tellKiln e k f).kilns[k].peat with
    | notBegun => exact starts
    | filling =>
      simp only [opens, current, continueChannel_answer, continues]
      split
      · rfl
      · split <;> rfl
    | none => rfl
    | complete => rfl

theorem fillRequest_queued (q : Queue) : (fillRequest e v (f.withQueue q)).2 = (fillRequest e v f).2 := fillRequest_congr rfl rfl rfl

theorem resumePeat_queued (q : Queue) : (resumePeat e k (f.withQueue q)).2 = (resumePeat e k f).2 := resumePeat_congr rfl rfl

end Answers

/-! ### The contexts after a RESUME -/

section Contexts

variable {e : Env} {f : Floor} {u w : PlantUnit} {why : HoldReason} {back : ResumeState}

/-- R90: a context that has entered RUNNING. -/
def Ctx.resumed (c : Ctx) : Ctx := c.enter .running

theorem kilnRunsAgain_ctx (k : Fin 2) (r : Bool) :
    (kilnRunsAgain e k r f).ctx w = if w = .kiln k then (f.ctx w).resumed else f.ctx w := by
  have runs : (f.kiln k fun x => { x with ctx := x.ctx.enter .running }).ctx w =
      if w = .kiln k then (f.ctx w).resumed else f.ctx w := by
    rw [kiln_ctx]
    split
    · next here => rw [here]; rfl
    · rfl
  simp only [kilnRunsAgain]
  split <;> simp only [offerKiln_ctx, reofferKiln_ctx, decidePhase_ctx, runs]

theorem boxRunsAgain_ctx (b : Fin 12) :
    (boxRunsAgain e b f).ctx w = if w = .box b then (f.ctx w).resumed else f.ctx w := by
  have runs : (f.box b fun x => { x with ctx := x.ctx.enter .running }).ctx w =
      if w = .box b then (f.ctx w).resumed else f.ctx w := by
    rw [box_ctx]
    split
    · next here => rw [here]; rfl
    · rfl
  simp only [boxRunsAgain]
  split <;> simp only [grantDecision_ctx, reofferFan_ctx, runs]

theorem resumeRound_ctx (v : Fin 6) (r : Bool) : (resumeRound e v r f).ctx w = f.ctx w := by
  simp only [resumeRound]
  split <;> simp only [offerAllOutputs_ctx, reofferVessel_ctx, vesselRound_ctx]

theorem fillRequest_ctx (v : Fin 6) : (fillRequest e v f).1.ctx w = f.ctx w := by
  simp only [fillRequest]
  (repeat' split) <;> simp

/-- A vessel that has entered RUNNING. -/
def vesselRuns (v : Fin 6) (f : Floor) : Floor := f.vessel v fun x => { x with ctx := x.ctx.enter .running }

theorem vesselRuns_ctx (v : Fin 6) : (vesselRuns v f).ctx w = if w = .vessel v then (f.ctx w).resumed else f.ctx w := by
  rw [vesselRuns, vessel_ctx]
  split
  · next here => rw [here]; rfl
  · rfl

theorem vesselRuns_fill (v : Fin 6) : ((vesselRuns v f).vesselAt v).fill = (f.vesselAt v).fill ∧
    ((vesselRuns v f).vesselAt v).ctx.pos = (f.vesselAt v).ctx.pos := by
  rw [Floor.vesselAt, vesselRuns, vessel_vessels, upd_get_self]
  exact ⟨rfl, rfl⟩

theorem vesselRuns_request (v : Fin 6) : (fillRequest e v (vesselRuns v f)).2 = (fillRequest e v f).2 :=
  fillRequest_congr rfl (vesselRuns_fill v).1 (vesselRuns_fill v).2

/-- R125: RESUME from HELD(DOSE) asks before the vessel runs; any other after. -/
theorem resumeVessel_dose (v : Fin 6) : resumeVessel e v .dose f =
    if (fillRequest e v f).2 = .refused then ((fillRequest e v f).1, false)
    else (vesselTakesUp e v false (fillRequest e v f).2 (vesselRuns v (fillRequest e v f).1), true) := rfl

theorem resumeVessel_other {v : Fin 6} (other : why ≠ .dose) : resumeVessel e v why f =
    (vesselTakesUp e v (why == .restart) (fillRequest e v (vesselRuns v f)).2 (fillRequest e v (vesselRuns v f)).1, true) := if_neg other

/-- R125: a vessel whose fill request is granted runs again. -/
theorem resumeVessel_granted {v : Fin 6} (granted : (fillRequest e v f).2 = .granted) :
    (resumeVessel e v why f).1.ctx w = if w = .vessel v then (f.ctx w).resumed else f.ctx w := by
  by_cases dose : why = .dose
  · rw [dose, resumeVessel_dose, granted, if_neg (by decide)]
    simp only [vesselTakesUp]
    rw [resumeRound_ctx, vesselRuns_ctx, fillRequest_ctx]
  · rw [resumeVessel_other dose, vesselRuns_request, granted]
    simp only [vesselTakesUp]
    rw [resumeRound_ctx, fillRequest_ctx, vesselRuns_ctx]

/-- R125: a vessel whose fill request is refused is HELD(DOSE). -/
theorem resumeVessel_refused {v : Fin 6} (refused : (fillRequest e v f).2 = .refused) :
    (resumeVessel e v why f).1.ctx w =
      if w = .vessel v ∧ why ≠ .dose then ((f.ctx w).resumed).heldFor .dose else f.ctx w := by
  by_cases dose : why = .dose
  · rw [dose, resumeVessel_dose, if_pos refused]
    exact (fillRequest_ctx v).trans (if_neg fun h => h.2 rfl).symm
  · rw [resumeVessel_other dose, vesselRuns_request, refused]
    simp only [vesselTakesUp]
    rw [resumeRound_ctx, holdVessel_ctx, fillRequest_ctx, vesselRuns_ctx]
    by_cases here : w = .vessel v
    · rw [if_pos here, if_pos here, if_pos ⟨here, dose⟩]
      rfl
    · rw [if_neg here, if_neg here, if_neg fun h => here h.1]

theorem resumeKiln_accepted {k : Fin 2} (accepted : (resumePeat e k f).2 = true) :
    (resumeKiln e k why f).1.ctx w = if w = .kiln k then (f.ctx w).resumed else f.ctx w := by
  simp only [resumeKiln, accepted, if_true]
  rw [kilnRunsAgain_ctx, resumePeat_ctx]

theorem resumeKiln_refused {k : Fin 2} (refused : (resumePeat e k f).2 = false) :
    (resumeKiln e k why f).1.ctx w = if w = .kiln k ∧ why ≠ .dose then (f.ctx w).heldFor .dose else f.ctx w := by
  have refuses : ¬(resumePeat e k f).2 = true := by rw [refused]; decide
  by_cases dose : why = .dose
  · have stays : (resumeKiln e k why f).1 = (resumePeat e k f).1 := by simp only [resumeKiln, if_neg refuses, if_pos dose]
    rw [stays, resumePeat_ctx, if_neg fun h => h.2 dose]
  · have holds : (resumeKiln e k why f).1 = enterHeld e (.kiln k) .dose .running (resumePeat e k f).1 := by
      simp only [resumeKiln, if_neg refuses, if_neg dose]
    rw [holds]
    refine (enterHeld_ctx ..).trans ?_
    rw [resumePeat_ctx]
    by_cases here : w = .kiln k
    · rw [if_pos here, if_pos ⟨here, dose⟩, here]
      rfl
    · rw [if_neg here, if_neg fun h => here h.1, resumePeat_ctx]

/-- R95: RESUME of a unit held for a reason, to return to RUNNING. -/
theorem resumeHeld_running (reason : (f.ctx u).reason = some why) (there : why ≠ .programGone)
    (resume : (f.ctx u).resume = some .running) :
    resumeHeld e u f = ((resumeRunning e u why f).1, if (resumeRunning e u why f).2 then .ok else .refused) := by
  cases why with
  | programGone => exact absurd rfl there
  | _ => simp only [resumeHeld, reason, resume]

/-- R95: the same, to return to LOADED or DONE. -/
theorem resumeHeld_back (reason : (f.ctx u).reason = some why) (there : why ≠ .programGone) (resume : (f.ctx u).resume = some back)
    (rests : back ≠ .running) : resumeHeld e u f = (reofferUnit e u (f.updCtx u (·.enter back.state)), .ok) := by
  cases why with
  | programGone => exact absurd rfl there
  | _ =>
    cases back with
    | running => exact absurd rfl rests
    | _ => simp only [resumeHeld, reason, resume]

/-- R86: RESUME of a unit in HELD(PROGRAM_GONE). -/
theorem resumeHeld_gone (reason : (f.ctx u).reason = some .programGone) : resumeHeld e u f = resumeGone e u f := by
  simp only [resumeHeld, reason]

theorem serveResume_held (held : (f.ctx u).state = .held) (up : e.loopUp = true) : serveResume e u f = resumeHeld e u f := by
  simp only [serveResume, held, up, if_true]

end Contexts

section Events

theorem reofferUnit_ctx {e : Env} {f : Floor} (u w : PlantUnit) : (reofferUnit e u f).ctx w = f.ctx w := by
  cases u with
  | vessel v => exact reofferVessel_ctx w
  | box b => exact reofferFan_ctx w
  | kiln k =>
    simp only [reofferUnit]
    split
    · rfl
    · exact reofferKiln_ctx w

variable {s : State} {r : Req} {u : PlantUnit} {c' : Ctx}

/-- R95: RESUME of a HELD unit with the loop UP. -/
theorem exec_resume_works (h : s.Ready .resume r) (named : unitOf r.qual.toNat = some u) (held : (s.floor.ctx u).state = .held)
    (up : s.loop.up = true) : ∃ t q, exec (.resume r) s = .next t ∧ s.ServedOn t ∧
      (resumeHeld s.env u (s.floor.withQueue q)).1.ToldOnly t.floor := by
  obtain ⟨t, q, runs, served, told⟩ := exec_unit_works h (by decide) named (moving_of_state held rfl)
  have serves : serveUnit .resume r s.env u (s.floor.withQueue q) = resumeHeld s.env u (s.floor.withQueue q) :=
    serveResume_held (by rw [withQueue_ctx]; exact held) up
  rw [serves] at told
  exact ⟨t, q, runs, served, told⟩

theorem resumeHeld_onlyUnit {e : Env} {f : Floor} (ctx : ∀ w, (resumeHeld e u f).1.ctx w = if w = u then c' else f.ctx w) :
    f.OnlyUnit u (resumeHeld e u f).1 :=
  onlyUnit_of_ctx ctx (resumeHeld_frame ..).1 (resumeHeld_frame ..).2.1 (resumeHeld_frame ..).2.2

/-- R95: RESUME of a HELD unit, by the contexts that it leaves. -/
theorem exec_resume_leaves (h : s.Ready .resume r) (named : unitOf r.qual.toNat = some u) (held : (s.floor.ctx u).state = .held)
    (up : s.loop.up = true)
    (ctx : ∀ q w, (resumeHeld s.env u (s.floor.withQueue q)).1.ctx w = if w = u then c' else (s.floor.withQueue q).ctx w) :
    ∃ t, exec (.resume r) s = .next t ∧ s.ServedOn t ∧ s.floor.OnlyUnit u t.floor ∧ t.floor.ctx u = c' := by
  obtain ⟨t, q, runs, served, told⟩ := exec_resume_works h named held up
  exact ⟨t, runs, served, (resumeHeld_onlyUnit (ctx q)).queued.told told, (told.ctx u).trans ((ctx q u).trans (if_pos rfl))⟩

/-- R95: RESUME of a HELD unit whose request is refused: HELD(DOSE), as it was or again. -/
theorem exec_resume_holds {c₁ : Ctx} {why : HoldReason} (h : s.Ready .resume r) (named : unitOf r.qual.toNat = some u)
    (held : (s.floor.ctx u).state = .held) (up : s.loop.up = true) (reason : (s.floor.ctx u).reason = some why)
    (resume : (s.floor.ctx u).resume = some .running) (batch : c₁.batch = (s.floor.ctx u).batch) (pos : c₁.pos = (s.floor.ctx u).pos)
    (ctx : ∀ q w, (resumeHeld s.env u (s.floor.withQueue q)).1.ctx w =
      if w = u ∧ why ≠ .dose then c₁.heldFor .dose else (s.floor.withQueue q).ctx w) :
    ∃ t, exec (.resume r) s = .next t ∧ s.ServedOn t ∧ s.floor.OnlyUnit u t.floor ∧
      (t.floor.ctx u).state = .held ∧ (t.floor.ctx u).reason = some .dose ∧ (t.floor.ctx u).resume = some .running ∧
      (t.floor.ctx u).batch = (s.floor.ctx u).batch ∧ (t.floor.ctx u).pos = (s.floor.ctx u).pos := by
  by_cases dose : why = .dose
  · obtain ⟨t, runs, served, only, own⟩ := exec_resume_leaves (c' := s.floor.ctx u) h named held up fun q w => by
      rw [ctx q w, if_neg fun h => h.2 dose]
      split
      · next here => rw [here, ctx_withQueue]
      · rfl
    refine ⟨t, runs, served, only, ?_⟩
    rw [own]
    exact ⟨held, reason.trans (congrArg some dose), resume, rfl, rfl⟩
  · obtain ⟨t, runs, served, only, own⟩ := exec_resume_leaves (c' := c₁.heldFor .dose) h named held up fun q w => by
      rw [ctx q w]
      exact if_congr (and_iff_left dose) rfl rfl
    refine ⟨t, runs, served, only, ?_⟩
    rw [own]
    exact ⟨rfl, rfl, rfl, batch, pos⟩

/-- R95: RESUME that only answers. -/
theorem exec_resume_stays {st : Status} (h : s.Ready .resume r) (named : unitOf r.qual.toNat = some u)
    (still : (s.floor.ctx u).state.moving = false) (stays : ∀ t, s.Arrived t → serveResume t.env u t.floor = (t.floor, ⟨st, true⟩)) :
    exec (.resume r) s = .next (s.afterRequest .resume r fun t => t.answer .resume r st (s.floor.ctx u).replyValue) :=
  exec_unit_stays h (by decide) named still stays

end Events

/-! ### A PAUSED feed (R136, R187) -/

section Feeds

variable {e : Env} {f g : Floor} {k : Fin 2} {c : Fin 12} {why : HoldReason} {p : Position}

theorem kilnDemand_held (held : (f.kilnAt k).ctx.state = .held) : kilnDemand e f k = false := by
  simp only [Floor.kilnAt] at held
  simp only [kilnDemand, held]
  rfl

/-- R136: a PAUSED channel that is told its demand is false stays so. -/
theorem told_waits {second : Nat} {demanding q : Bool} {x : Channel} (paused : x.state = .paused) :
    x.told second demanding false q = x.demanded false := by
  simp [Channel.told, paused, Channel.demanded]

theorem isOpen_paused {d : Bool} {x : Channel} (paused : x.state = .paused) : (x.demanded d).isOpen = true := by
  simp [Channel.isOpen, Channel.demanded, paused]

/-- R187: RESUME of a kiln whose feed is PAUSED asks nothing of its channel. -/
theorem resumePeat_paused (names : e.bank.unitChannel (.kiln k) = some c) (held : (f.kilnAt k).ctx.state = .held)
    (feeding : (f.kilnAt k).peat = .filling) (paused : f.channels[c].state = .paused) :
    resumePeat e k f = (tellKiln e k f, true) ∧ (tellKiln e k f).channels[c] = f.channels[c].demanded false := by
  obtain ⟨q, told⟩ := tellKiln_own (f := f) names
  have at' : (tellKiln e k f).channels[c] = f.channels[c].demanded false := by
    rw [told, upd_get_self, kilnDemand_held held, told_waits paused]
  have peat : (tellKiln e k f).kilns[k].peat = .filling := by
    rw [(tellKiln_frame ..).2.2.2.2.1]
    exact feeding
  have isOpen : (tellKiln e k f).channels[c].isOpen = true := by
    rw [at']
    exact isOpen_paused paused
  refine ⟨?_, at'⟩
  simp only [resumePeat, names, peat, isOpen, if_true]

/-- R136: a PAUSED channel in DEMAND mode that is told its demand is true. -/
theorem told_takesUp {second : Nat} {q : Bool} {x : Channel} (paused : x.state = .paused) :
    (x.told second true true q).state = .active ∧ (x.told second true true q).valve = .opened ∧
      (x.told second true true q).demand = true := by
  obtain ⟨state, valve⟩ := (told_true second true q x).1 rfl paused
  exact ⟨state, valve, told_demand ..⟩

theorem resumed_runsAt {x : Ctx} (pos : x.pos = some p) : x.resumed = x.runsAt p := by
  cases x
  obtain rfl : _ = some p := pos
  rfl

/-- R187: the kiln's channel at the end of the event, where its feed was PAUSED. -/
theorem resumeKiln_takesUp {before : Floor} {q q' : Queue} (names : e.bank.unitChannel (.kiln k) = some c)
    (mode : e.bank.channelMode c = .demand) (held : (before.kilnAt k).ctx.state = .held)
    (feeding : (before.kilnAt k).peat = .filling) (paused : before.channels[c].state = .paused)
    (pos : (before.kilnAt k).ctx.pos = some p) (freeDry : phaseKind p.fields = .freeDry) (wet : 0 < phasePeat p.fields)
    (ton : (e.ton k).usable = true) (cool : (e.ton k).value ≤ phasePeatMaxTon p.fields) (up : e.loopUp = true) :
    let y := (tellOwners e before e ((resumeKiln e k why (before.withQueue q)).1.withQueue q')).channels[c]
    y.state = .active ∧ y.valve = .opened ∧ y.demand = true := by
  obtain ⟨asks, told⟩ := resumePeat_paused (f := before.withQueue q) names held feeding paused
  have runs : (resumeKiln e k why (before.withQueue q)).1 =
      kilnRunsAgain e k (why == .restart) (tellKiln e k (before.withQueue q)) := by
    simp only [resumeKiln, asks, if_true]
  have ctx (w : PlantUnit) : ((resumeKiln e k why (before.withQueue q)).1.withQueue q').ctx w =
      if w = .kiln k then (before.ctx w).resumed else before.ctx w := by
    rw [ctx_withQueue, resumeKiln_accepted (by rw [asks]), ctx_withQueue]
  have own : (((resumeKiln e k why (before.withQueue q)).1.withQueue q').kilnAt k).ctx = (before.kilnAt k).ctx.runsAt p :=
    ((ctx (.kiln k)).trans (if_pos rfl)).trans (resumed_runsAt pos)
  have channel : ((resumeKiln e k why (before.withQueue q)).1.withQueue q').channels[c] = before.channels[c].demanded false := by
    rw [withQueue_channels, runs, (kilnRunsAgain_frame ..).2.2.1, told]
    rfl
  have tells := tellOwners_tellKiln (e := e) (k := k) (before := before)
    (f := (resumeKiln e k why (before.withQueue q)).1.withQueue q') (by rw [withQueue_vessels, runs]; simp)
    (fun w other => (ctx w).trans (if_neg other)) fun same => by
      rw [own] at same
      have state := congrArg Ctx.state same
      rw [held] at state
      cases state
  have demand := kilnDemand_running (e := e) (k := k) (g := (resumeKiln e k why (before.withQueue q)).1.withQueue q') own
    freeDry wet ton up
  obtain ⟨n, told'⟩ := tellKiln_own (f := (resumeKiln e k why (before.withQueue q)).1.withQueue q') names
  rw [tells, told', upd_get_self, channel, demand, decide_eq_true cool, decide_eq_true mode]
  exact told_takesUp paused

end Feeds

/-! ### HELD(PROGRAM_GONE) (R86) -/

section Gone

variable {e : Env} {f : Floor} {u w : PlantUnit} {p q : Position}

theorem resumeGone_lacks {i : Nat} (pos : (f.ctx u).pos = some p) (noted : (f.ctx u).noted = some i)
    (lacks : e.bank.programLength u p.program ≤ (i : Int)) : resumeGone e u f = (f, .refused) := by
  simp only [resumeGone, pos, noted]
  exact if_neg (by omega)

theorem resumeGone_fetches {i : Nat} (pos : (f.ctx u).pos = some p) (noted : (f.ctx u).noted = some i)
    (holds : (i : Int) < e.bank.programLength u p.program) :
    (resumeGone e u f).1 = enterFetched e u (e.bank.position u p.program i) f := by
  simp only [resumeGone, pos, noted]
  rw [if_pos holds]

/-- R114: a vessel as it enters the step at `q`, which is no FILL step. -/
def stepEntered (v : Fin 6) (q : Position) (f : Floor) : Floor :=
  (f.vessel v fun x => { x with timer := 0, note := false, ctx := { x.ctx with pos := some q } }).vessel v
    fun x => { x with fill := .none }

theorem stepEntered_ctx {v : Fin 6} :
    (stepEntered v q f).ctx w = if w = .vessel v then { f.ctx w with pos := some q } else f.ctx w := by
  rw [stepEntered, vessel_ctx]
  by_cases here : w = .vessel v
  · rw [if_pos here, if_pos here, vessel_vessels, upd_get_self, here]
    rfl
  · rw [if_neg here, if_neg here, vessel_ctx, if_neg here]

theorem stepEntered_timer {v : Fin 6} : ((stepEntered v q f).vesselAt v).timer = 0 := by
  rw [Floor.vesselAt, stepEntered, vessel_vessels, upd_get_self, vessel_vessels, upd_get_self]

theorem Floor.Decides.timer {g : Floor} {v : Fin 6} {d : Fin 5 → Decision} (decides : f.Decides v g d) :
    (g.vesselAt v).timer = (f.vesselAt v).timer := by
  obtain ⟨outs, vessels, -⟩ := decides
  rw [Floor.vesselAt, vessels, upd_get_self]
  rfl

/-- R86: a vessel that has fetched a step which is no FILL step. -/
theorem vesselFetches_plain {v : Fin 6} (notFill : stepKind q.fields ≠ .fill) :
    (∀ w, (vesselFetches e v q f).ctx w = if w = .vessel v then (f.ctx w).runsAt q else f.ctx w) ∧
      ((vesselFetches e v q f).vesselAt v).timer = 0 := by
  have fetches : vesselFetches e v q f = reofferVessel e v (vesselRound e v (stepEntered v q (vesselRuns v f))) :=
    congrArg (reofferVessel e v) (enterStepWith_plain notFill)
  have ctx (w : PlantUnit) : (stepEntered v q (vesselRuns v f)).ctx w = if w = .vessel v then (f.ctx w).runsAt q else f.ctx w := by
    rw [stepEntered_ctx]
    by_cases here : w = .vessel v
    · rw [if_pos here, if_pos here, vesselRuns_ctx, if_pos here]
      rfl
    · rw [if_neg here, if_neg here, vesselRuns_ctx, if_neg here]
  rw [fetches]
  refine ⟨fun w => by rw [reofferVessel_ctx, vesselRound_ctx, ctx], ?_⟩
  rw [(reofferVessel_decides ..).timer, (vesselRound_decides ..).timer]
  exact stepEntered_timer

/-- A box that has entered RUNNING. -/
def boxRuns (b : Fin 12) (f : Floor) : Floor := f.box b fun x => { x with ctx := x.ctx.enter .running }

theorem boxRuns_ctx (b : Fin 12) : (boxRuns b f).ctx w = if w = .box b then (f.ctx w).resumed else f.ctx w := by
  rw [boxRuns, box_ctx]
  split
  · next here => rw [here]; rfl
  · rfl

theorem enterDay_ctx {b : Fin 12} :
    (enterDay e b q f).ctx w = if w = .box b then { f.ctx w with pos := some q } else f.ctx w := by
  have placed : (f.box b fun x => { x with dayClock := 0, ctx := { x.ctx with pos := some q } }).ctx w =
      if w = .box b then { f.ctx w with pos := some q } else f.ctx w := by
    rw [box_ctx]
    split
    · next here => rw [here]; rfl
    · rfl
  simp only [enterDay, boxRound_ctx]
  split
  · rw [dropRequest_ctx, placed]
  · exact placed

/-- R86: a box that has fetched its noted day. -/
theorem boxFetches_enters {b : Fin 12} :
    (∀ w, (boxFetches e b q f).ctx w = if w = .box b then (f.ctx w).runsAt q else f.ctx w) ∧
      ((boxFetches e b q f).boxAt b).dayClock = 0 := by
  have ctx (w : PlantUnit) : (reofferFan e b (enterDay e b q (boxRuns b f))).ctx w =
      if w = .box b then (f.ctx w).runsAt q else f.ctx w := by
    rw [reofferFan_ctx, enterDay_ctx]
    by_cases here : w = .box b
    · rw [if_pos here, if_pos here, boxRuns_ctx, if_pos here]
      rfl
    · rw [if_neg here, if_neg here, boxRuns_ctx, if_neg here]
  have clock : ((reofferFan e b (enterDay e b q (boxRuns b f))).boxAt b).dayClock = 0 := by
    rw [(reofferFan_fanOf e b _).box b]
    exact enterDay_boxAt.2.1
  have fetches : boxFetches e b q f =
      let g := reofferFan e b (enterDay e b q (boxRuns b f))
      if g.arbiter.hasRequest b then grantDecision e g else g := rfl
  rw [fetches]
  generalize reofferFan e b (enterDay e b q (boxRuns b f)) = g at ctx clock
  dsimp only
  by_cases request : g.arbiter.hasRequest b = true
  · rw [if_pos request]
    refine ⟨fun w => (grantDecision_ctx ..).trans (ctx w), ?_⟩
    rw [(grantDecision_fansOnly e g).each b]
    exact clock
  · rw [if_neg request]
    exact ⟨ctx, clock⟩

/-- R86: a kiln that has fetched a phase without peat. -/
theorem kilnFetches_plain {k : Fin 2} (none : NoPeat e k q.fields) :
    (∀ w, (enterFetched e (.kiln k) q f).ctx w = if w = .kiln k then (f.ctx w).runsAt q else f.ctx w) ∧
      ((enterFetched e (.kiln k) q f).kilnAt k).timer = 0 ∧
      ((enterFetched e (.kiln k) q f).kilnAt k).setpoint = clamp 0 (entryCeiling q.entry) (phaseStart q.fields) := by
  have fetches : enterFetched e (.kiln k) q f = reofferKiln e k (enterPhase e k false
      (f.kiln k fun x => { x with ctx := { x.ctx.enter .running with pos := some q } })) := rfl
  obtain ⟨a, b, entered⟩ := enterPhase_plain (e := e) (k := k)
    (f := f.kiln k fun x => { x with ctx := { x.ctx.enter .running with pos := some q } }) false
    (by rw [kiln_kilns, upd_get_self]; exact none)
  obtain ⟨n, m, again⟩ := reofferKiln_kilns e k (enterPhase e k false
    (f.kiln k fun x => { x with ctx := { x.ctx.enter .running with pos := some q } }))
  rw [entered, kiln_kilns, upd_upd, upd_upd, ← fetches] at again
  refine ⟨fun w => ?_, ?_, ?_⟩
  · by_cases here : w = .kiln k
    · rw [if_pos here, here]
      have own : ((enterFetched e (.kiln k) q f).kilns[k]).ctx = (f.kilns[k]).ctx.runsAt q := by
        rw [again, upd_get_self]
        rfl
      exact own
    · rw [if_neg here, fetches, reofferKiln_ctx, enterPhase_ctx_other here, kiln_ctx, if_neg here]
  · rw [Floor.kilnAt, again, upd_get_self]
    rfl
  · rw [Floor.kilnAt, again, upd_get_self]
    rfl

end Gone

/-! ### A TRIPPED kiln (R191) -/

section Relight

variable {e : Env} {f : Floor} {k : Fin 2}

/-- R187: a kiln whose peat needs nothing of its channel. -/
theorem resumePeat_nothing (nothing : (f.kilnAt k).peat = .none ∨ (f.kilnAt k).peat = .complete ∨
    e.bank.unitChannel (.kiln k) = none) : (resumePeat e k f).2 = true ∧ (resumePeat e k f).1.kilns = f.kilns := by
  cases names : e.bank.unitChannel (.kiln k) with
  | none =>
    simp only [resumePeat, names]
    exact ⟨trivial, trivial⟩
  | some c =>
    have kilns : (tellKiln e k f).kilns = f.kilns := by simp
    obtain none | complete | unbound := nothing
    · have peat : (tellKiln e k f).kilns[k].peat = .none := by rw [kilns]; exact none
      simp only [resumePeat, names, peat]
      exact ⟨trivial, kilns⟩
    · have peat : (tellKiln e k f).kilns[k].peat = .complete := by rw [kilns]; exact complete
      simp only [resumePeat, names, peat]
      exact ⟨trivial, kilns⟩
    · rw [names] at unbound
      cases unbound

/-- R191: the setpoint of a kiln that starts again. -/
theorem clamp_ton {ceiling ton : Int} (below : ton ≤ ceiling) : clamp 0 ceiling ton = max 0 ton := by
  unfold clamp
  split
  · omega
  · split <;> omega

/-- R191: a TRIPPED kiln as its setpoint is taken from Ton. -/
def kilnRelit (e : Env) (k : Fin 2) (f : Floor) : Floor :=
  f.kiln k fun x => { x with setpoint := clamp 0 (entryCeiling x.ctx.entry) (e.ton k).value }

theorem relightKiln_runs (accepted : (resumePeat e k (kilnRelit e k f)).2 = true)
    (kilns : (resumePeat e k (kilnRelit e k f)).1.kilns = (kilnRelit e k f).kilns)
    (below : (e.ton k).value ≤ entryCeiling (f.kilnAt k).ctx.entry) :
    (∀ w, w ≠ .kiln k → (relightKiln e k f).ctx w = f.ctx w) ∧ ∃ p q,
    (relightKiln e k f).kilnAt k = { f.kilnAt k with
      ctx := (f.kilnAt k).ctx.resumed
      setpoint := max 0 (e.ton k).value
      burner := ⟨some (max 0 (e.ton k).value), p⟩
      fan := ⟨some (phaseFan (f.kilnAt k).ctx.fields), q⟩ } := by
  have relights : relightKiln e k f = decidePhase e k ((resumePeat e k (kilnRelit e k f)).1.kiln k
      fun x => { x with ctx := x.ctx.enter .running }) := if_pos accepted
  rw [relights]
  refine ⟨fun w other => ?_, ?_⟩
  · rw [decidePhase_ctx, kiln_ctx, if_neg other, resumePeat_ctx, kilnRelit, kiln_ctx, if_neg other]
  · obtain ⟨p, q, decided⟩ := decidePhase_kilns e k ((resumePeat e k (kilnRelit e k f)).1.kiln k
      fun x => { x with ctx := x.ctx.enter .running })
    have relit : (kilnRelit e k f).kilns =
        upd f.kilns k fun x => { x with setpoint := clamp 0 (entryCeiling x.ctx.entry) (e.ton k).value } := rfl
    rw [kiln_kilns, kilns, relit, upd_upd, upd_upd] at decided
    refine ⟨p, q, ?_⟩
    rw [Floor.kilnAt, decided, upd_get_self, ← clamp_ton below]
    rfl

end Relight

section Held

variable {s : State} {r : Req} {k : Fin 2} {v : Fin 6} {b : Fin 12} {u : PlantUnit} {why : HoldReason}

/-- A unit resumes, and nothing else changes but its channel and the queue. -/
def State.ResumesTo (s : State) (r : Req) (u : PlantUnit) (c : Ctx) : Prop :=
  ∃ t, exec (.resume r) s = .next t ∧ s.ServedOn t ∧ s.floor.OnlyUnit u t.floor ∧ t.floor.ctx u = c

/-- A unit stays, or is again, HELD(DOSE). -/
def State.HoldsForDose (s : State) (r : Req) (u : PlantUnit) : Prop :=
  ∃ t, exec (.resume r) s = .next t ∧ s.ServedOn t ∧ s.floor.OnlyUnit u t.floor ∧
    (t.floor.ctx u).state = .held ∧ (t.floor.ctx u).reason = some .dose ∧ (t.floor.ctx u).resume = some .running ∧
    (t.floor.ctx u).batch = (s.floor.ctx u).batch ∧ (t.floor.ctx u).pos = (s.floor.ctx u).pos

/-- A RESUME is answered, with the unit's state, and nothing is done. -/
def State.OnlyAnswers (s : State) (r : Req) (u : PlantUnit) (st : Status) : Prop :=
  exec (.resume r) s = .next (s.afterRequest .resume r fun t => t.answer .resume r st (s.floor.ctx u).replyValue)

theorem resume_running (h : s.Ready .resume r) (named : unitOf r.qual.toNat = some u) (running : (s.floor.ctx u).state = .running) :
    s.OnlyAnswers r u .ok := by
  refine exec_resume_stays h named (moving_of_state running rfl) fun t arrived => ?_
  simp only [serveResume, arrived.ctx, running]
  rfl

theorem resume_silent (h : s.Ready .resume r) (named : unitOf r.qual.toNat = some u) (held : (s.floor.ctx u).state = .held)
    (silent : s.loop.up = false) : s.OnlyAnswers r u .refused := by
  refine exec_resume_stays h named (moving_of_state held rfl) fun t arrived => ?_
  have silent' : t.env.loopUp = false := by rw [arrived.env]; exact silent
  simp only [serveResume, arrived.ctx, silent', held]
  rfl

theorem resume_back {back : ResumeState} (h : s.Ready .resume r) (named : unitOf r.qual.toNat = some u)
    (held : (s.floor.ctx u).state = .held) (up : s.loop.up = true) (reason : (s.floor.ctx u).reason = some why)
    (there : why ≠ .programGone) (resume : (s.floor.ctx u).resume = some back) (rests : back ≠ .running) :
    s.ResumesTo r u ((s.floor.ctx u).enter back.state) := by
  refine exec_resume_leaves h named held up fun q w => ?_
  rw [resumeHeld_back (f := s.floor.withQueue q) (by rw [ctx_withQueue]; exact reason) there
    (by rw [ctx_withQueue]; exact resume) rests, reofferUnit_ctx, updCtx_ctx, ctx_withQueue]

/-- R95: what a RESUME to RUNNING makes of the floor that its slot has left. -/
theorem resumeHeld_queued {q : Queue} (reason : (s.floor.ctx u).reason = some why) (there : why ≠ .programGone)
    (resume : (s.floor.ctx u).resume = some .running) :
    (resumeHeld s.env u (s.floor.withQueue q)).1 = (resumeRunning s.env u why (s.floor.withQueue q)).1 := by
  rw [resumeHeld_running (by rw [ctx_withQueue]; exact reason) there (by rw [ctx_withQueue]; exact resume)]

theorem if_unit {w : PlantUnit} {q : Queue} {op : Ctx → Ctx} :
    (if w = u then op ((s.floor.withQueue q).ctx w) else (s.floor.withQueue q).ctx w) =
      if w = u then op (s.floor.ctx u) else (s.floor.withQueue q).ctx w := by
  split
  · next here => rw [here, ctx_withQueue]
  · rfl

theorem resume_box_lost (h : s.Ready .resume r) (named : unitOf r.qual.toNat = some (.box b))
    (held : (s.floor.ctx (.box b)).state = .held) (up : s.loop.up = true) (reason : (s.floor.ctx (.box b)).reason = some .point)
    (resume : (s.floor.ctx (.box b)).resume = some .running) (lost : (s.env.bed b).usable = false) :
    s.OnlyAnswers r (.box b) .refused := by
  refine exec_resume_stays h named (moving_of_state held rfl) fun t arrived => ?_
  have ctx := arrived.ctx (.box b)
  rw [serveResume_held (by rw [ctx]; exact held) (by rw [arrived.env]; exact up),
    resumeHeld_running (by rw [ctx]; exact reason) (by decide) (by rw [ctx]; exact resume), arrived.env]
  simp only [resumeRunning, lost]
  rfl

theorem resume_box_runs (h : s.Ready .resume r) (named : unitOf r.qual.toNat = some (.box b))
    (held : (s.floor.ctx (.box b)).state = .held) (up : s.loop.up = true) (reason : (s.floor.ctx (.box b)).reason = some why)
    (there : why ≠ .programGone) (resume : (s.floor.ctx (.box b)).resume = some .running)
    (rest : why ≠ .point ∨ (s.env.bed b).usable = true) : s.ResumesTo r (.box b) (s.floor.ctx (.box b)).resumed := by
  refine exec_resume_leaves h named held up fun q w => ?_
  have runs : resumeRunning s.env (.box b) why (s.floor.withQueue q) = (boxRunsAgain s.env b (s.floor.withQueue q), true) := by
    refine if_neg fun h => ?_
    simp only [Bool.not_eq_true'] at h
    exact rest.elim (fun other => other h.1) fun usable => Bool.false_ne_true (h.2.symm.trans usable)
  rw [resumeHeld_queued reason there resume, runs]
  exact (boxRunsAgain_ctx b).trans if_unit

theorem resume_vessel_runs (h : s.Ready .resume r) (named : unitOf r.qual.toNat = some (.vessel v))
    (held : (s.floor.ctx (.vessel v)).state = .held) (up : s.loop.up = true)
    (reason : (s.floor.ctx (.vessel v)).reason = some why) (there : why ≠ .programGone)
    (resume : (s.floor.ctx (.vessel v)).resume = some .running) (granted : (fillRequest s.env v s.floor).2 = .granted) :
    s.ResumesTo r (.vessel v) (s.floor.ctx (.vessel v)).resumed := by
  refine exec_resume_leaves h named held up fun q w => ?_
  rw [resumeHeld_queued reason there resume]
  exact (resumeVessel_granted ((fillRequest_queued q).trans granted)).trans if_unit

theorem resume_vessel_holds (h : s.Ready .resume r) (named : unitOf r.qual.toNat = some (.vessel v))
    (held : (s.floor.ctx (.vessel v)).state = .held) (up : s.loop.up = true)
    (reason : (s.floor.ctx (.vessel v)).reason = some why) (there : why ≠ .programGone)
    (resume : (s.floor.ctx (.vessel v)).resume = some .running) (refused : (fillRequest s.env v s.floor).2 = .refused) :
    s.HoldsForDose r (.vessel v) := by
  refine exec_resume_holds (c₁ := (s.floor.ctx (.vessel v)).resumed) h named held up reason resume rfl rfl fun q w => ?_
  rw [resumeHeld_queued reason there resume]
  refine (resumeVessel_refused ((fillRequest_queued q).trans refused)).trans ?_
  split
  · next here => rw [here.1, ctx_withQueue]
  · rfl

theorem resume_kiln_runs (h : s.Ready .resume r) (named : unitOf r.qual.toNat = some (.kiln k))
    (held : (s.floor.ctx (.kiln k)).state = .held) (up : s.loop.up = true)
    (reason : (s.floor.ctx (.kiln k)).reason = some why) (there : why ≠ .programGone)
    (resume : (s.floor.ctx (.kiln k)).resume = some .running) (accepted : (resumePeat s.env k s.floor).2 = true) :
    s.ResumesTo r (.kiln k) (s.floor.ctx (.kiln k)).resumed := by
  refine exec_resume_leaves h named held up fun q w => ?_
  rw [resumeHeld_queued reason there resume]
  exact (resumeKiln_accepted ((resumePeat_queued q).trans accepted)).trans if_unit

theorem resume_kiln_holds (h : s.Ready .resume r) (named : unitOf r.qual.toNat = some (.kiln k))
    (held : (s.floor.ctx (.kiln k)).state = .held) (up : s.loop.up = true)
    (reason : (s.floor.ctx (.kiln k)).reason = some why) (there : why ≠ .programGone)
    (resume : (s.floor.ctx (.kiln k)).resume = some .running) (refused : (resumePeat s.env k s.floor).2 = false) :
    s.HoldsForDose r (.kiln k) := by
  refine exec_resume_holds (c₁ := s.floor.ctx (.kiln k)) h named held up reason resume rfl rfl fun q w => ?_
  rw [resumeHeld_queued reason there resume]
  refine (resumeKiln_refused ((resumePeat_queued q).trans refused)).trans ?_
  split
  · next here => rw [here.1, ctx_withQueue]
  · rfl

theorem resume_kiln_feeds {c : Fin 12} {p : Position} (h : s.Ready .resume r) (named : unitOf r.qual.toNat = some (.kiln k))
    (held : (s.floor.ctx (.kiln k)).state = .held) (up : s.loop.up = true)
    (reason : (s.floor.ctx (.kiln k)).reason = some why) (there : why ≠ .programGone)
    (resume : (s.floor.ctx (.kiln k)).resume = some .running) (names : s.env.bank.unitChannel (.kiln k) = some c)
    (mode : s.env.bank.channelMode c = .demand) (feeding : (s.floor.kilnAt k).peat = .filling)
    (paused : s.floor.channels[c].state = .paused) (pos : (s.floor.ctx (.kiln k)).pos = some p)
    (freeDry : phaseKind p.fields = .freeDry) (wet : 0 < phasePeat p.fields) (ton : (s.env.ton k).usable = true)
    (cool : (s.env.ton k).value ≤ phasePeatMaxTon p.fields) :
    ∃ t, exec (.resume r) s = .next t ∧ t.floor.channels[c].state = .active ∧ t.floor.channels[c].valve = .opened ∧
      t.floor.channels[c].demand = true := by
  obtain ⟨t, q, q', runs, -, floor⟩ := exec_unit_tells h (by decide) named (moving_of_state held rfl)
  have serves : (serveUnit .resume r s.env (.kiln k) (s.floor.withQueue q)).1 = (resumeKiln s.env k why (s.floor.withQueue q)).1 :=
    (congrArg Prod.fst (serveResume_held (by rw [ctx_withQueue]; exact held) up)).trans (resumeHeld_queued reason there resume)
  rw [serves] at floor
  refine ⟨t, runs, ?_⟩
  rw [floor]
  exact resumeKiln_takesUp names mode held feeding paused pos freeDry wet ton cool up

end Held

section Fetched

variable {s : State} {r : Req} {u : PlantUnit} {p : Position} {i : Nat}

theorem resume_gone_lacks (h : s.Ready .resume r) (named : unitOf r.qual.toNat = some u) (held : (s.floor.ctx u).state = .held)
    (up : s.loop.up = true) (reason : (s.floor.ctx u).reason = some .programGone) (pos : (s.floor.ctx u).pos = some p)
    (noted : (s.floor.ctx u).noted = some i) (lacks : s.env.bank.programLength u p.program ≤ (i : Int)) :
    s.OnlyAnswers r u .refused := by
  refine exec_resume_stays h named (moving_of_state held rfl) fun t arrived => ?_
  have ctx := arrived.ctx u
  rw [serveResume_held (by rw [ctx]; exact held) (by rw [arrived.env]; exact up), resumeHeld_gone (by rw [ctx]; exact reason),
    resumeGone_lacks (by rw [ctx]; exact pos) (by rw [ctx]; exact noted) (by rw [arrived.env]; exact lacks)]
  rfl

/-- R86: the noted item is fetched again. -/
theorem resume_gone_fetches (h : s.Ready .resume r) (named : unitOf r.qual.toNat = some u) (held : (s.floor.ctx u).state = .held)
    (up : s.loop.up = true) (reason : (s.floor.ctx u).reason = some .programGone) (pos : (s.floor.ctx u).pos = some p)
    (noted : (s.floor.ctx u).noted = some i) (holds : (i : Int) < s.env.bank.programLength u p.program)
    (ctx : ∀ f w, (enterFetched s.env u (s.env.bank.position u p.program i) f).ctx w =
      if w = u then (f.ctx w).runsAt (s.env.bank.position u p.program i) else f.ctx w) :
    ∃ t q, exec (.resume r) s = .next t ∧ s.ServedOn t ∧ s.floor.OnlyUnit u t.floor ∧
      t.floor.ctx u = (s.floor.ctx u).runsAt (s.env.bank.position u p.program i) ∧
      (enterFetched s.env u (s.env.bank.position u p.program i) (s.floor.withQueue q)).ToldOnly t.floor := by
  have fetches (q : Queue) : (resumeHeld s.env u (s.floor.withQueue q)).1 =
      enterFetched s.env u (s.env.bank.position u p.program i) (s.floor.withQueue q) := by
    rw [resumeHeld_gone (by rw [ctx_withQueue]; exact reason),
      resumeGone_fetches (by rw [ctx_withQueue]; exact pos) (by rw [ctx_withQueue]; exact noted) holds]
  have leaves (q : Queue) (w : PlantUnit) : (resumeHeld s.env u (s.floor.withQueue q)).1.ctx w =
      if w = u then (s.floor.ctx u).runsAt (s.env.bank.position u p.program i) else (s.floor.withQueue q).ctx w := by
    rw [fetches, ctx]
    exact if_unit (op := fun c => c.runsAt _)
  obtain ⟨t, q, runs, served, told⟩ := exec_resume_works h named held up
  exact ⟨t, q, runs, served, (resumeHeld_onlyUnit (leaves q)).queued.told told, (told.ctx u).trans ((leaves q u).trans (if_pos rfl)),
    fetches q ▸ told⟩

end Fetched

section Tripped

variable {s : State} {r : Req} {k : Fin 2}

theorem serveResume_tripped {e : Env} {f : Floor} (tripped : (f.kilnAt k).ctx.state = .tripped) : serveResume e (.kiln k) f =
    if relightAllowed e k (f.kilnAt k) then (relightKiln e k f, .ok) else (f, .refused) := by
  have state : (f.ctx (.kiln k)).state = .tripped := tripped
  simp only [serveResume, state]
  rfl

/-- R191: the test of a RESUME of a TRIPPED kiln. -/
theorem relightAllowed_iff {e : Env} {x : Kiln} : relightAllowed e k x = true ↔
    e.loopUp = true ∧ x.ctx.pos.isSome = true ∧ (e.ton k).quality = .fresh ∧ (e.ton k).value ≤ entryCeiling x.ctx.entry := by
  simp [relightAllowed, and_assoc]

theorem relight_runs (h : s.Ready .resume r) (named : unitOf r.qual.toNat = some (.kiln k))
    (tripped : (s.floor.kilnAt k).ctx.state = .tripped) (up : s.loop.up = true) (pos : (s.floor.kilnAt k).ctx.pos.isSome = true)
    (fresh : (s.env.ton k).quality = .fresh) (below : (s.env.ton k).value ≤ entryCeiling (s.floor.kilnAt k).ctx.entry)
    (nothing : (s.floor.kilnAt k).peat = .none ∨ (s.floor.kilnAt k).peat = .complete ∨ s.env.bank.unitChannel (.kiln k) = none) :
    ∃ t, exec (.resume r) s = .next t ∧ s.ServedOn t ∧ s.floor.OnlyUnit (.kiln k) t.floor ∧
      t.floor.kilnAt k = { s.floor.kilnAt k with
        ctx := (s.floor.kilnAt k).ctx.resumed
        setpoint := max 0 (s.env.ton k).value
        burner := (t.floor.kilnAt k).burner
        fan := (t.floor.kilnAt k).fan } ∧
      (t.floor.kilnAt k).burner.value = some (max 0 (s.env.ton k).value) ∧
      (t.floor.kilnAt k).fan.value = some (phaseFan (s.floor.kilnAt k).ctx.fields) := by
  obtain ⟨t, q, runs, served, told⟩ := exec_unit_works h (by decide) named (moving_of_state tripped rfl)
  have serves : (serveUnit .resume r s.env (.kiln k) (s.floor.withQueue q)).1 = relightKiln s.env k (s.floor.withQueue q) := by
    have allowed : relightAllowed s.env k ((s.floor.withQueue q).kilnAt k) = true := relightAllowed_iff.mpr ⟨up, pos, fresh, below⟩
    refine (congrArg Prod.fst (serveResume_tripped (f := s.floor.withQueue q) tripped)).trans ?_
    rw [if_pos allowed]
  rw [serves] at told
  have relit : (kilnRelit s.env k (s.floor.withQueue q)).kilnAt k =
      { s.floor.kilnAt k with setpoint := clamp 0 (entryCeiling (s.floor.kilnAt k).ctx.entry) (s.env.ton k).value } := by
    rw [Floor.kilnAt, kilnRelit, kiln_kilns, upd_get_self]
    rfl
  obtain ⟨accepted, kilns⟩ := resumePeat_nothing (e := s.env) (f := kilnRelit s.env k (s.floor.withQueue q)) (k := k) (by
    rw [relit]
    exact nothing)
  obtain ⟨others, n, m, record⟩ := relightKiln_runs (f := s.floor.withQueue q) accepted kilns below
  have only : (s.floor.withQueue q).OnlyUnit (.kiln k) (relightKiln s.env k (s.floor.withQueue q)) :=
    ⟨others, by simp, by simp, by simp⟩
  have kiln : t.floor.kilnAt k = (relightKiln s.env k (s.floor.withQueue q)).kilnAt k := kilnAt_congr told.kilns
  refine ⟨t, runs, served, only.queued.told told, ?_⟩
  rw [kiln, record]
  exact ⟨rfl, rfl, rfl⟩

theorem relight_refused (h : s.Ready .resume r) (named : unitOf r.qual.toNat = some (.kiln k))
    (tripped : (s.floor.kilnAt k).ctx.state = .tripped) (fails : ¬(s.loop.up = true ∧ (s.floor.kilnAt k).ctx.pos.isSome = true ∧
      (s.env.ton k).quality = .fresh ∧ (s.env.ton k).value ≤ entryCeiling (s.floor.kilnAt k).ctx.entry)) :
    s.OnlyAnswers r (.kiln k) .refused := by
  refine exec_resume_stays h named (moving_of_state tripped rfl) fun t arrived => ?_
  have kiln : t.floor.kilnAt k = s.floor.kilnAt k := by rw [Floor.kilnAt, arrived.floor]; rfl
  rw [serveResume_tripped (by rw [kiln]; exact tripped), arrived.env, kiln,
    if_neg fun allowed => fails (relightAllowed_iff.mp allowed)]
  rfl

end Tripped

/-- Settles O27: RESUME of a RUNNING, a HELD and a TRIPPED unit. -/
theorem resumeReturnsUnit : Obligations.ResumeReturnsUnit := by
  refine ⟨fun r s u h named => ?_, fun r s k h at' tripped => ?_⟩
  · intro c runs holds stays
    refine ⟨resume_running h named, resume_silent h named, fun held up why reason there => ⟨fun back resume rests => ?_,
      fun resume => ⟨?_, ?_, ?_⟩⟩, fun held up reason p i pos noted => ⟨resume_gone_lacks h named held up reason pos noted,
        fun fetched => ⟨?_, ?_, ?_⟩⟩⟩
    · exact resume_back h named held up reason there resume rests
    · rintro b rfl
      exact ⟨by rintro rfl lost; exact resume_box_lost h named held up reason resume lost,
        resume_box_runs h named held up reason there resume⟩
    · rintro v rfl
      exact ⟨resume_vessel_runs h named held up reason there resume, resume_vessel_holds h named held up reason there resume⟩
    · rintro k rfl
      refine ⟨resume_kiln_runs h named held up reason there resume, resume_kiln_holds h named held up reason there resume,
        fun d names mode feeding paused pos freeDry wet ton cool => ?_⟩
      obtain ⟨p, pos⟩ := Option.isSome_iff_exists.mp pos
      have fields : c.fields = p.fields := by rw [Ctx.fields, pos]
      rw [fields] at freeDry wet cool
      exact resume_kiln_feeds h named held up reason there resume names mode feeding paused pos freeDry wet ton cool
    · rintro v rfl notFill
      obtain ⟨t, q, runs, served, only, own, told⟩ := resume_gone_fetches h named held up reason pos noted fetched fun f w =>
        (vesselFetches_plain notFill).1 w
      refine ⟨t, runs, served, only, own, ?_⟩
      rw [told.vessels]
      exact (vesselFetches_plain notFill).2
    · rintro b rfl
      obtain ⟨t, q, runs, served, only, own, told⟩ := resume_gone_fetches h named held up reason pos noted fetched fun f w =>
        boxFetches_enters.1 w
      refine ⟨t, runs, served, only, own, ?_⟩
      rw [told.boxes]
      exact boxFetches_enters.2
    · rintro k rfl none
      have plain : NoPeat s.env k (s.env.bank.position (.kiln k) p.program i).fields := none
      obtain ⟨t, q, runs, served, only, own, told⟩ := resume_gone_fetches h named held up reason pos noted fetched fun f w =>
        (kilnFetches_plain plain).1 w
      refine ⟨t, runs, served, only, own, ?_⟩
      rw [told.kilns]
      exact (kilnFetches_plain plain).2
  · have named : unitOf r.qual.toNat = some (.kiln k) := unitOf_eq_some.mpr at'
    exact ⟨fun up pos fresh below nothing => relight_runs h named tripped up pos fresh below nothing, relight_refused h named tripped⟩

end Sys2Proof.Machine

/-! SUPPORT. The end of a check: its tests in the order of R76, and the swap of the banks (R48, R76 to R83): O18. -/

namespace Sys2Proof.Machine

/-! ### The first that fails -/

section Finding

/-- `n` is the lowest number that has property `P`. -/
def Lowest (P : Nat → Prop) (n : Nat) : Prop := P n ∧ ∀ m, m < n → ¬P m

/-- A search has found the lowest number that has property `P`, or none has it. -/
structure Finds (o : Option Nat) (P : Nat → Prop) : Prop where
  found : ∀ n, o = some n → Lowest P n
  lacks : o = none → ∀ n, ¬P n

variable {o : Option Nat} {P : Nat → Prop} {n : Nat}

theorem Finds.of_lowest (finds : Finds o P) (lowest : Lowest P n) : o = some n := by
  cases is : o with
  | none => exact absurd lowest.1 (finds.lacks is n)
  | some m =>
    obtain ⟨has, least⟩ := finds.found m is
    have notBelow : ¬m < n := fun below => lowest.2 m below has
    have notAbove : ¬n < m := fun above => least n above lowest.1
    congr
    omega

theorem Finds.of_none (finds : Finds o P) (none : ∀ n, ¬P n) : o = .none := by
  cases is : o with
  | none => rfl
  | some m => exact absurd (finds.found m is).1 (none m)

theorem find_range_finds {b : Nat} {p : Nat → Bool} (same : ∀ n, P n ↔ n < b ∧ p n = true) : Finds ((List.range b).find? p) P := by
  refine ⟨fun n found => ?_, fun lacks n has => ?_⟩
  · simp only [List.find?_range_eq_some, List.mem_range] at found
    obtain ⟨holds, bound, before⟩ := found
    refine ⟨(same n).mpr ⟨bound, holds⟩, fun m below has => ?_⟩
    have fails := before m below
    simp [((same m).mp has).2] at fails
  · obtain ⟨bound, holds⟩ := (same n).mp has
    simp only [List.find?_range_eq_none] at lacks
    have fails := lacks n bound
    simp [holds] at fails

theorem findSome_range_first {α : Type} {f : Nat → Option α} {v : α} (b : Nat) (found : (List.range b).findSome? f = some v) :
    ∃ t, t < b ∧ f t = some v ∧ ∀ m, m < t → f m = none := by
  induction b with
  | zero => simp at found
  | succ b ih =>
    rw [List.range_succ, List.findSome?_append] at found
    cases before : (List.range b).findSome? f with
    | some w =>
      rw [before] at found
      obtain ⟨t, bound, is, least⟩ := ih (before.trans found)
      exact ⟨t, by omega, is, least⟩
    | none =>
      rw [before] at found
      refine ⟨b, by omega, by simpa using found, fun m below => ?_⟩
      exact List.findSome?_eq_none_iff.mp before m (List.mem_range.mpr below)

/-- A search in the lexicographic order of two numbers, the second below `base`. -/
theorem findSome_range_finds {b base : Nat} {f : Nat → Option Nat} {Q : Nat → Nat → Prop}
    (inner : ∀ t, Finds (f t) (Q t)) (small : ∀ t n, Q t n → n < base) (same : ∀ v, P v ↔ ∃ t n, t < b ∧ Q t n ∧ v = base * t + n) :
    Finds ((List.range b).findSome? fun t => (f t).map fun n => base * t + n) P := by
  refine ⟨fun v found => ?_, fun lacks v has => ?_⟩
  · obtain ⟨t, bound, is, least⟩ := findSome_range_first b found
    obtain ⟨n, inT, rfl⟩ := Option.map_eq_some_iff.mp is
    obtain ⟨holds, before⟩ := (inner t).found n inT
    refine ⟨(same _).mpr ⟨t, n, bound, holds, rfl⟩, fun m below has => ?_⟩
    obtain ⟨t', n', bound', holds', rfl⟩ := (same m).mp has
    have small' := small t' n' holds'
    have earlier : ¬t' < t := fun lt => (inner t').lacks (Option.map_eq_none_iff.mp (least t' lt)) n' holds'
    by_cases here : t' = t
    · subst here
      exact before n' (by omega) holds'
    · have later : t + 1 ≤ t' := by omega
      have grows := Nat.mul_le_mul_left base later
      have smaller := small t n holds
      rw [Nat.mul_add] at grows
      omega
  · obtain ⟨t, n, bound, holds, -⟩ := (same v).mp has
    simp only [List.findSome?_eq_none_iff, List.mem_range, Option.map_eq_none_iff] at lacks
    exact (inner t).lacks (lacks t bound) n holds

end Finding

/-! ### The tests (R76 to R79) -/

section Tests

variable {b : Bank} {own : Byte} {t : TableBank} {f : Floor}

/-- R67, R77: the bank bears the identity name. -/
def Bank.Named (b : Bank) : Prop := b.read 0 = 0x56414C47#32 ∧ b.read 1 = 0x52412037#32 ∧ b.read 2 = 0x31343020#32

theorem nameGood_iff : nameGood b = true ↔ b.Named := by simp [nameGood, Bank.Named, and_assoc]

theorem checkGood_iff : checkGood b = true ↔ b.unsigned 0 0 4 = b.checkCode.toNat := beq_iff_eq

theorem oldGeneration_iff : oldGeneration t = true ↔ t.present = true ∧ t.shadow.unsigned 0 0 3 ≤ t.active.unsigned 0 0 3 := by
  simp [oldGeneration]

/-- R77: Channel Map entry `j` has the source and the channel of an earlier one. -/
def Bank.Repeats (b : Bank) (j : Nat) : Prop := j < 256 ∧ b.field 1 j 0 ≠ 0 ∧
  ∃ i, i < j ∧ b.field 1 i 0 ≠ 0 ∧ b.field 1 i 1 = b.field 1 j 1 ∧ b.field 1 i 2 = b.field 1 j 2

theorem duplicateKey_finds : Finds (duplicateKey b) b.Repeats := by
  refine find_range_finds fun j => and_congr_right fun _ => ?_
  simp [Bank.mapInUse, sameMapKey]

/-- R48: window `w` covers node `n` by its base and size. -/
def Bank.Covers (b : Bank) (w : Nat) (n : Byte) : Prop :=
  b.field 4 w 1 ≤ (n.toNat : Int) ∧ (n.toNat : Int) < b.field 4 w 1 + b.field 4 w 2

/-- R48: the conditions that an in-use window satisfies. -/
def Bank.Sound (b : Bank) (own : Byte) (w : Nat) : Prop :=
  b.field 4 w 2 ∈ [(1 : Int), 2, 4, 8, 16, 32, 64, 128] ∧ b.field 4 w 1 % b.field 4 w 2 = 0 ∧
    b.field 4 w 1 + b.field 4 w 2 ≤ 255 ∧ 1 ≤ b.field 4 w 3 ∧ b.field 4 w 3 ≤ 5 ∧
    (b.field 4 w 4 ≠ 0 → 1 ≤ b.field 4 w 5 ∧ b.field 4 w 5 + b.field 4 w 2 - 1 ≤ 254) ∧
    (∀ v, v < 8 → v ≠ w → b.field 4 v 0 ≠ 0 → ∀ n, ¬(b.Covers v n ∧ b.Covers w n)) ∧
    (b.field 4 w 3 = 4 ∨ b.field 4 w 3 = 5 → ¬b.Covers w own)

theorem windowsMeet_iff {v w : Nat} : windowsMeet b v w = true ↔ ∃ n, b.Covers v n ∧ b.Covers w n := by
  simp only [windowsMeet, decide_eq_true_eq, Bank.Covers]
  constructor
  · intro meets
    refine ⟨BitVec.ofNat 8 (max (max (b.field 4 v 1) (b.field 4 w 1)) 0).toNat, ?_⟩
    rw [BitVec.toNat_ofNat]
    omega
  · rintro ⟨n, covers⟩
    have bound := n.isLt
    omega

theorem classOfCode_ne_none {c : Int} : (classOfCode c != .none) = true ↔ 1 ≤ c ∧ c ≤ 5 := by
  unfold classOfCode
  split_ifs <;> simp <;> omega

theorem classOfCode_judged {c : Int} : (classOfCode c == .actuator || classOfCode c == .turner) = true ↔ c = 4 ∨ c = 5 := by
  unfold classOfCode
  split_ifs <;> simp <;> omega

theorem windowCovers_iff {w : Nat} {n : Byte} (used : b.field 4 w 0 ≠ 0) : b.windowCovers n w = true ↔ b.Covers w n := by
  simp [Bank.windowCovers, Bank.Covers, used]

theorem windowGood_iff {w : Nat} (used : b.field 4 w 0 ≠ 0) : windowGood b own w = true ↔ b.Sound own w := by
  have meets : ((List.range 8).any fun v => v != w && b.field 4 v 0 != 0 && windowsMeet b v w) = false ↔
      ∀ v, v < 8 → v ≠ w → b.field 4 v 0 ≠ 0 → ∀ n, ¬(b.Covers v n ∧ b.Covers w n) := by
    rw [List.any_eq_false]
    refine forall_congr' fun v => ?_
    rw [List.mem_range]
    refine imp_congr_right fun _ => ?_
    simp only [Bool.and_eq_true, bne_iff_ne, windowsMeet_iff, not_and, and_imp, not_exists]
  have judges : ((classOfCode (b.field 4 w 3) == .actuator || classOfCode (b.field 4 w 3) == .turner) && b.windowCovers own w) = false ↔
      (b.field 4 w 3 = 4 ∨ b.field 4 w 3 = 5 → ¬b.Covers w own) := by
    rw [← windowCovers_iff used, ← classOfCode_judged, Bool.and_eq_false_iff, imp_iff_not_or, Bool.not_eq_true, Bool.not_eq_true]
  have target : (b.field 4 w 4 == 0 || (decide (1 ≤ b.field 4 w 5) && decide (b.field 4 w 5 + b.field 4 w 2 - 1 ≤ 254))) = true ↔
      (b.field 4 w 4 ≠ 0 → 1 ≤ b.field 4 w 5 ∧ b.field 4 w 5 + b.field 4 w 2 - 1 ≤ 254) := by
    simp only [Bool.or_eq_true, beq_iff_eq, Bool.and_eq_true, decide_eq_true_eq]
    tauto
  simp only [windowGood, Bank.Sound]
  rw [Bool.and_eq_true, Bool.and_eq_true, Bool.and_eq_true, Bool.and_eq_true, Bool.and_eq_true, Bool.and_eq_true, target,
    Bool.not_eq_true', Bool.not_eq_true', meets, judges, classOfCode_ne_none]
  simp only [List.contains_iff_mem, beq_iff_eq, decide_eq_true_eq, windowSizes, and_assoc]

/-- R48: window `w` is in use and at fault. -/
def Bank.Unsound (b : Bank) (own : Byte) (w : Nat) : Prop := w < 8 ∧ b.field 4 w 0 ≠ 0 ∧ ¬b.Sound own w

theorem windowFault_finds : Finds (windowFault b own) (b.Unsound own) := by
  refine find_range_finds fun w => and_congr_right fun _ => ?_
  rw [Bool.and_eq_true, bne_iff_ne, Bool.not_eq_true', ← Bool.not_eq_true]
  exact and_congr_right fun used => not_congr (windowGood_iff used).symm

/-- R78: an entry has a field out of range. -/
def Bank.Outside (b : Bank) (v : Nat) : Prop :=
  ∃ n e, n < 12 ∧ e < tableEntries n ∧ v = 65536 * n + e ∧ entryGood b n e = false

theorem tableEntries_small (n : Nat) : tableEntries n ≤ 256 := by
  unfold tableEntries
  split <;> omega

theorem badReference_finds : Finds (badReference b) b.Outside := by
  refine findSome_range_finds (Q := fun n e => e < tableEntries n ∧ entryGood b n e = false) (fun n => ?_) (fun n e within => ?_)
    fun v => ?_
  · refine find_range_finds fun e => and_congr_right fun _ => ?_
    rw [Bool.not_eq_true']
  · have := tableEntries_small n
    have := within.1
    omega
  · constructor
    · rintro ⟨n, e, table, entry, rfl, bad⟩
      exact ⟨n, e, table, ⟨entry, bad⟩, rfl⟩
    · rintro ⟨n, e, table, ⟨entry, bad⟩, rfl⟩
      exact ⟨n, e, table, entry, rfl, bad⟩

theorem find_finRange_finds {n base : Nat} {p : Fin n → Bool} {P : Nat → Prop}
    (same : ∀ v, P v ↔ ∃ c : Fin n, v = base + c ∧ p c = true) :
    Finds (((List.finRange n).find? p).map fun c => base + (c : Nat)) P := by
  have maps (o : Option (Fin n)) : (o.map fun c => base + (c : Nat)) = o.map fun c : Fin n => base + (c : Nat) := by
    cases o <;> rfl
  rw [maps, ← Fin.find?_eq_find?_finRange]
  refine ⟨fun v found => ?_, fun lacks v has => ?_⟩
  · obtain ⟨c, is, rfl⟩ := Option.map_eq_some_iff.mp found
    obtain ⟨holds, before⟩ := Fin.find?_eq_some_iff.mp is
    refine ⟨(same _).mpr ⟨c, rfl, holds⟩, fun m below has => ?_⟩
    obtain ⟨d, rfl, holds'⟩ := (same m).mp has
    have fails := before d (by omega)
    simp [holds'] at fails
  · obtain ⟨c, -, holds⟩ := (same v).mp has
    have fails := Fin.find?_eq_none_iff.mp (Option.map_eq_none_iff.mp lacks) c
    simp [holds] at fails

/-- R79: an entry differs between two banks. -/
def EntriesDiffer (old new : Bank) (n e : Nat) : Prop := ∃ i, i < tableFields n ∧ old.field n e i ≠ new.field n e i

theorem entryDiffers_iff {old new : Bank} {n e : Nat} : entryDiffers old new n e = true ↔ EntriesDiffer old new n e := by
  simp [entryDiffers, Bank.entry, EntriesDiffer]

/-- R79: an occupied unit or an open channel whose entry would change. -/
def Busy (old new : Bank) (f : Floor) (v : Nat) : Prop :=
  (∃ u : PlantUnit, v = 65536 * 6 + u.index ∧ (f.ctx u).state ≠ .empty ∧ EntriesDiffer old new 6 u.index) ∨
    (v = 65536 * 6 + 20 ∧ f.arbiter.state ≠ .idle ∧ f.arbiter.state ≠ .disabled ∧ EntriesDiffer old new 6 20) ∨
    ∃ c : Fin 12, v = 65536 * 7 + c ∧ f.channels[c].isOpen = true ∧ EntriesDiffer old new 7 c

/-- R79: a unit, or the arbiter, is busy with binding entry `u`. -/
def UnitIsBusy (old new : Bank) (f : Floor) (u : Nat) : Prop := u < 21 ∧ occupied f u = true ∧ EntriesDiffer old new 6 u

theorem occupied_unit {u : PlantUnit} : occupied f u.index = true ↔ (f.ctx u).state ≠ .empty := by
  simp [occupied, unitOf_eq_some.mpr rfl]

theorem occupied_arbiter : occupied f 20 = true ↔ f.arbiter.state ≠ .idle ∧ f.arbiter.state ≠ .disabled := by
  simp [occupied, unitOf]

theorem index_small (u : PlantUnit) : u.index < 20 := by
  cases u <;> simp only [PlantUnit.index] <;> omega

theorem unitIsBusy_iff {old new : Bank} {u : Nat} : UnitIsBusy old new f u ↔
    (∃ w : PlantUnit, u = w.index ∧ (f.ctx w).state ≠ .empty ∧ EntriesDiffer old new 6 w.index) ∨
      (u = 20 ∧ f.arbiter.state ≠ .idle ∧ f.arbiter.state ≠ .disabled ∧ EntriesDiffer old new 6 20) := by
  constructor
  · rintro ⟨bound, busy, differs⟩
    by_cases arbiter : u = 20
    · subst arbiter
      obtain ⟨idle, disabled⟩ := occupied_arbiter.mp busy
      exact .inr ⟨rfl, idle, disabled, differs⟩
    · obtain ⟨w, names⟩ := Option.isSome_iff_exists.mp (unitOf_isSome ⟨u, by omega⟩)
      obtain rfl : u = w.index := unitOf_eq_some.mp names
      exact .inl ⟨w, rfl, occupied_unit.mp busy, differs⟩
  · rintro (⟨w, rfl, busy, differs⟩ | ⟨rfl, idle, disabled, differs⟩)
    · exact ⟨by have := index_small w; omega, occupied_unit.mpr busy, differs⟩
    · exact ⟨by omega, occupied_arbiter.mpr ⟨idle, disabled⟩, differs⟩

theorem busy_iff {old new : Bank} {v : Nat} : Busy old new f v ↔ (∃ u, v = 65536 * 6 + u ∧ UnitIsBusy old new f u) ∨
    ∃ c : Fin 12, v = 65536 * 7 + c ∧ f.channels[c].isOpen = true ∧ EntriesDiffer old new 7 c := by
  simp only [unitIsBusy_iff, Busy]
  constructor
  · rintro (⟨w, rfl, rest⟩ | ⟨rfl, rest⟩ | channel)
    · exact .inl ⟨_, rfl, .inl ⟨w, rfl, rest⟩⟩
    · exact .inl ⟨_, rfl, .inr ⟨rfl, rest⟩⟩
    · exact .inr channel
  · rintro (⟨u, rfl, ⟨w, rfl, rest⟩ | ⟨rfl, rest⟩⟩ | channel)
    · exact .inl ⟨w, rfl, rest⟩
    · exact .inr (.inl ⟨rfl, rest⟩)
    · exact .inr (.inr channel)

theorem unitBusy_finds {old new : Bank} : Finds (unitBusy old new f) (Busy old new f) := by
  have units : Finds ((List.range 21).find? fun u => occupied f u && entryDiffers old new 6 u) (UnitIsBusy old new f) := by
    refine find_range_finds fun u => and_congr_right fun _ => ?_
    rw [Bool.and_eq_true, entryDiffers_iff]
  have channels : Finds (((List.finRange 12).find? fun c : Fin 12 => f.channels[c].isOpen && entryDiffers old new 7 c).map
      fun c => 65536 * 7 + (c : Nat)) fun v => ∃ c : Fin 12, v = 65536 * 7 + c ∧ f.channels[c].isOpen = true ∧
        EntriesDiffer old new 7 c := by
    refine find_finRange_finds fun v => ?_
    simp only [Bool.and_eq_true, entryDiffers_iff]
  rw [unitBusy]
  cases first : (List.range 21).find? fun u => occupied f u && entryDiffers old new 6 u with
  | some u =>
    obtain ⟨busy, before⟩ := units.found u first
    refine ⟨fun v found => ?_, fun none => nomatch none⟩
    obtain rfl := Option.some.inj found
    refine ⟨busy_iff.mpr (.inl ⟨u, rfl, busy⟩), fun m below has => ?_⟩
    obtain ⟨w, rfl, busy'⟩ | ⟨c, rfl, -⟩ := busy_iff.mp has
    · exact before w (by omega) busy'
    · have := busy.1
      omega
  | none =>
    have idle := units.lacks first
    dsimp only
    refine ⟨fun v found => ?_, fun none v has => ?_⟩
    · obtain ⟨open', before⟩ := channels.found v found
      refine ⟨busy_iff.mpr (.inr open'), fun m below has => ?_⟩
      obtain ⟨w, -, busy⟩ | open'' := busy_iff.mp has
      · exact idle w busy
      · exact before m below open''
    · obtain ⟨w, -, busy⟩ | open' := busy_iff.mp has
      · exact idle w busy
      · exact channels.lacks none v open'

end Tests

/-! ### The order of the tests (R76) -/

section Order

variable {own : Byte} {f : Floor} {t : TableBank}

/-- R76: the tests after the generation's. -/
def laterFailure (own : Byte) (f : Floor) (t : TableBank) : Option (Status × Nat) :=
  match duplicateKey t.shadow, windowFault t.shadow own, badReference t.shadow, unitBusy t.active t.shadow f with
  | some j, _, _, _ => some (.dupKey, 65536 + j)
  | none, some w, _, _ => some (.badWindow, 65536 * 4 + w)
  | none, none, some v, _ => some (.badReference, v)
  | none, none, none, some v => some (.unitBusy, v)
  | none, none, none, none => none

theorem activationFailure_eq : activationFailure own f t =
    if !nameGood t.shadow then some (.badName, 0)
    else if !checkGood t.shadow then some (.badCheck, t.shadow.checkCode.toNat)
    else if oldGeneration t then some (.oldGeneration, t.active.unsigned 0 0 3)
    else laterFailure own f t := rfl

theorem activationFailure_unnamed (unnamed : ¬t.shadow.Named) : activationFailure own f t = some (.badName, 0) := by
  rw [activationFailure_eq, if_pos]
  rw [Bool.not_eq_true', ← Bool.not_eq_true, nameGood_iff]
  exact unnamed

theorem activationFailure_named (named : t.shadow.Named) : activationFailure own f t =
    if !checkGood t.shadow then some (.badCheck, t.shadow.checkCode.toNat)
    else if oldGeneration t then some (.oldGeneration, t.active.unsigned 0 0 3)
    else laterFailure own f t := by
  rw [activationFailure_eq, nameGood_iff.mpr named]
  rfl

theorem activationFailure_uncoded (named : t.shadow.Named) (uncoded : ¬t.shadow.unsigned 0 0 4 = t.shadow.checkCode.toNat) :
    activationFailure own f t = some (.badCheck, t.shadow.checkCode.toNat) := by
  rw [activationFailure_named named, if_pos]
  rw [Bool.not_eq_true', ← Bool.not_eq_true, checkGood_iff]
  exact uncoded

theorem activationFailure_coded (named : t.shadow.Named) (coded : t.shadow.unsigned 0 0 4 = t.shadow.checkCode.toNat) :
    activationFailure own f t =
      if oldGeneration t then some (.oldGeneration, t.active.unsigned 0 0 3) else laterFailure own f t := by
  rw [activationFailure_named named, checkGood_iff.mpr coded]
  rfl

theorem laterFailure_duplicate {j : Nat} (found : duplicateKey t.shadow = some j) :
    laterFailure own f t = some (.dupKey, 65536 + j) := by
  simp only [laterFailure, found]

theorem laterFailure_window {w : Nat} (unique : duplicateKey t.shadow = none) (found : windowFault t.shadow own = some w) :
    laterFailure own f t = some (.badWindow, 65536 * 4 + w) := by
  simp only [laterFailure, unique, found]

theorem laterFailure_reference {v : Nat} (unique : duplicateKey t.shadow = none) (windows : windowFault t.shadow own = none)
    (found : badReference t.shadow = some v) : laterFailure own f t = some (.badReference, v) := by
  simp only [laterFailure, unique, windows, found]

theorem laterFailure_units (unique : duplicateKey t.shadow = none) (windows : windowFault t.shadow own = none)
    (references : badReference t.shadow = none) :
    laterFailure own f t = (unitBusy t.active t.shadow f).map fun v => (.unitBusy, v) := by
  simp only [laterFailure, unique, windows, references]
  cases unitBusy t.active t.shadow f <;> rfl

end Order

/-! ### The end of a check (R80, R83) -/

section Swap

variable {s : State} {node tag : Byte} {e : Env} {f : Floor}

theorem endOfCheck_fails {st : Status} {v : Nat} (check : s.tables.check = some (node, tag))
    (fails : activationFailure s.loop.node s.floor s.tables = some (st, v)) :
    endOfCheck s = ({ s with tables := { s.tables with check := none } }).told node 6#8 tag v st.code := by
  simp only [endOfCheck, check, fails]
  rfl

theorem endOfCheck_swaps (check : s.tables.check = some (node, tag))
    (passes : activationFailure s.loop.node s.floor s.tables = none) :
    endOfCheck s = (swapBanks s).onFloor fun e => reportSwap node tag e := by
  simp only [endOfCheck, check, passes]

/-- R76: every test passes. -/
theorem activationFailure_passes {own : Byte} {t : TableBank} (named : nameGood t.shadow = true) (coded : checkGood t.shadow = true)
    (young : oldGeneration t = false) (unique : duplicateKey t.shadow = none) (windows : windowFault t.shadow own = none)
    (references : badReference t.shadow = none) (idle : unitBusy t.active t.shadow f = none) : activationFailure own f t = none := by
  rw [activationFailure_eq, named, coded, young]
  refine Eq.trans ?_ ((laterFailure_units unique windows references).trans (by rw [idle]; rfl))
  rfl

/-- A pass that treats every entry of a vector by its number. -/
theorem foldl_upd_get {α : Type} {n : Nat} (treat : Fin n → α → α) (v : Vector α n) (i : Fin n) :
    ((List.finRange n).foldl (fun v p => upd v p (treat p)) v)[i] = treat i v[i] := by
  have each := foldl_eachAt (fun (v : Vector α n) (i : Fin n) => v[i]) treat (fun v p => upd v p (treat p)) (fun v p i => by
    rw [upd_get]
    by_cases same : i = p
    · rw [if_pos same, if_pos same.symm, same]
    · rw [if_neg same, if_neg (Ne.symm same)]) (List.finRange n) (List.nodup_finRange n) v i
  rw [if_pos (List.mem_finRange i)] at each
  exact each

/-- R83: a point at the swap, in the words of the statement. -/
theorem swapPoint_eq (b : Bank) (p : Nat) (x : Point) : swapPoint b p x =
    let c := clamp (min (b.field 2 p 3) (b.field 2 p 4)) (max (b.field 2 p 3) (b.field 2 p 4)) x.value
    if b.field 2 p 0 = 1 ∨ x.quality = .none ∨ c = x.value then x else { x with value := c, clamped := true } := by
  by_cases total : b.field 2 p 0 = 1
  · simp [swapPoint, Bank.isTotal, total]
  · by_cases none : x.quality = .none
    · simp [swapPoint, none]
    · simp only [swapPoint, Bank.isTotal, Bank.lo, Bank.hi]
      have neither : ¬(b.field 2 p 0 == 1 || x.quality == .none) = true := by simp [total, none]
      refine (if_neg neither).trans ?_
      exact if_congr ⟨fun same => .inr (.inr same), fun any => (any.resolve_left total).resolve_left none⟩ rfl rfl

theorem swapFloor_ctx {old new : Bank} {now : Nat} (u : PlantUnit) : (swapFloor old new now f).ctx u = f.ctx u := by
  cases u <;> simp [swapFloor, Floor.ctx]

theorem reportSwap_ctx (u : PlantUnit) : (reportSwap node tag e f).ctx u = f.ctx u := by
  rw [reportSwap, grantDecision_ctx, raiseEvent_ctx, offerReply_ctx]

theorem reportSwap_records : (reportSwap node tag e f).batches = f.batches ∧ (reportSwap node tag e f).register = f.register := by
  simp [reportSwap]

/-- R80: the state with its banks swapped, for points and a floor. -/
def State.swappedTo (s : State) (points : Vector Point 192) (f : Floor) : State :=
  { s with tables := s.tables.swapped, points := points, retries := .replicate 8 none, floor := f }

theorem finish_swappedTo (x : State) (points : Vector Point 192) (op : Env → Floor → Floor) :
    let t := finish x ((s.swappedTo points f).onFloor op)
    t = { s with
      tables := s.tables.swapped, retries := .replicate 8 none, points := points, floor := t.floor, pins := t.pins } :=
  finish_eq x _

/-- What the end of a check leaves where every test has passed. -/
theorem finish_swapped : let t := finish s ((swapBanks s).onFloor fun e => reportSwap node tag e)
    t = { s with
      tables := s.tables.swapped, retries := .replicate 8 none, points := (swapBanks s).points, floor := t.floor
      pins := t.pins } :=
  finish_swappedTo s _ _

end Swap

/-- Settles O18: the tests in their order, the answer to a failure, and the swap. -/
theorem endOfCheckSwapsOrAnswers : Obligations.EndOfCheckSwapsOrAnswers := by
  refine ⟨fun own f t => ?_, fun s node tag awake lines check => ?_⟩
  · refine ⟨activationFailure_unnamed, activationFailure_uncoded, fun named coded old => ?_, fun named coded young => ?_⟩
    · rw [activationFailure_coded named coded, if_pos (oldGeneration_iff.mpr old)]
    · rw [activationFailure_coded named coded, if_neg fun old => young (oldGeneration_iff.mp old)]
      refine ⟨fun j first => laterFailure_duplicate (duplicateKey_finds.of_lowest first), fun unique => ?_⟩
      have unique := duplicateKey_finds.of_none unique
      refine ⟨fun w first => laterFailure_window unique (windowFault_finds.of_lowest first), fun windows => ?_⟩
      have windows := windowFault_finds.of_none windows
      refine ⟨fun v first => laterFailure_reference unique windows (badReference_finds.of_lowest first), fun references => ?_⟩
      rw [laterFailure_units unique windows (badReference_finds.of_none references)]
      refine ⟨fun v first => ?_, fun idle => ?_⟩
      · rw [unitBusy_finds.of_lowest first]
        rfl
      · rw [unitBusy_finds.of_none idle]
        rfl
  · have runs : exec .endOfCheck s = .next (finish s (endOfCheck s)) := congrArg Host.Outcome.next (ownEvent_taken _ s awake)
    refine ⟨fun st v fails => ?_, fun named coded young unique windows references idle => ?_⟩
    · rw [runs, endOfCheck_fails check fails, finish_of_endInputs lines]
      exact (told_quiet ..).endInputs _
    · have passes := activationFailure_passes named coded young unique windows references idle
      rw [endOfCheck_swaps check passes] at runs
      have leaves := finish_swapped (s := s) (node := node) (tag := tag)
      have floor : (finish s ((swapBanks s).onFloor fun e => reportSwap node tag e)).floor = _ := finish_floor ..
      generalize finish s ((swapBanks s).onFloor fun e => reportSwap node tag e) = t at runs leaves floor
      have points : t.points = (swapBanks s).points := by rw [leaves]
      refine ⟨t, runs, by rw [leaves]; rfl, by rw [leaves], fun p => ?_, ?_, fun u => ?_, ?_, ?_⟩
      · rw [points]
        exact (foldl_upd_get (fun p => swapPoint s.tables.shadow p) s.points p).trans (swapPoint_eq ..)
      · rw [leaves]
      · rw [floor, tellOwners_ctx]
        exact (reportSwap_ctx u).trans (swapFloor_ctx u)
      · rw [floor, (tellOwners_frame ..).2.2.2.2.2.1]
        exact reportSwap_records.1
      · rw [floor, (tellOwners_frame ..).2.2.2.2.2.2.1]
        exact reportSwap_records.2

end Sys2Proof.Machine

/-! SUPPORT. READ of tables and of views, and the fields of the views (R72, R144, R216 to R219): O16. -/

namespace Sys2Proof.Machine

/-! ### The entries of the views -/

section Entries

variable (s : State)

theorem indexOf_val {n : Nat} (i : Fin n) : indexOf n ((i : Nat) : Int) = some i := by
  have bound : 0 ≤ ((i : Nat) : Int) ∧ ((i : Nat) : Int).toNat < n := ⟨by omega, by simp⟩
  rw [indexOf, dif_pos bound]
  rfl

theorem viewEntry_point (p : Fin 192) : viewEntry s 32 p = pointView s.points[p] := by simp only [viewEntry, indexOf_val]

theorem viewEntry_unit (u : PlantUnit) : viewEntry s 33 u.index = unitView s.tables.active s.floor u := by
  simp only [viewEntry, unitOf_eq_some.mpr rfl]

theorem viewEntry_batch (b : Fin 20) : viewEntry s 34 b = batchView s.floor.batches[b] := by simp only [viewEntry, indexOf_val]

theorem viewEntry_channel (c : Fin 12) : viewEntry s 35 c = channelView s.floor.channels[c] := by simp only [viewEntry, indexOf_val]

theorem viewEntry_kiln (k : Fin 2) : viewEntry s 37 k = kilnView s.floor.kilns[k] := by simp only [viewEntry, indexOf_val]

theorem viewEntry_request (i : Nat) : viewEntry s 36 (i + 1) = requestView s.floor.arbiter (i + 1) := by
  have other : i + 1 ≠ 0 := by omega
  simp only [viewEntry, if_neg other]

theorem viewEntry_record {i : Nat} (small : i < 256) {x : SampleRecord} (held : s.floor.register.retained.records[i]? = some x) :
    viewEntry s 38 i = recordView x := by
  have other : i ≠ 256 := by omega
  simp only [viewEntry, exciseView, if_neg other, held]

/-- View 34: the fields of a batch's transfer come last. -/
theorem batchView_transfer (x : Batch) : (batchView (some x)).drop 18 = transferView x.transfer := rfl

/-- View 37: the fields of the trip record. -/
theorem kilnView_trip (x : Kiln) : ((kilnView x).drop 30).take 5 = tripView x.trip := by
  cases trip : x.trip <;> simp [kilnView, trip] <;> rfl

theorem kilnView_counts (x : Kiln) : ((kilnView x).drop 35).take 2 =
    [(x.skipped : Int), flag x.noBasis + 2 * flag x.noPickup + 4 * flag x.skipNote] := by
  cases trip : x.trip <;> simp [kilnView, trip] <;> rfl

theorem kilnView_times (x : Kiln) : (kilnView x).drop 37 = kilnTimesView x := by
  cases trip : x.trip <;> simp [kilnView, trip, tripView] <;> rfl

/-- View 37: the history of the filter. -/
theorem kilnView_history (x : Kiln) {i : Nat} (small : i < 16) : (kilnView x)[9 + i]? = some (x.history.getD i 0) := by
  simp only [kilnView, List.append_assoc]
  rw [List.getElem?_append_right (by simp), List.getElem?_append_left (by simp; omega)]
  simp [small]

/-- View 36: the arbiter's own entry, the result of the turn by its code. -/
theorem arbiterView_eq (a : Arbiter) : arbiterView a = [(a.state.code : Int), orAbsent (a.grant.map fun b => 6 + (b : Nat)), a.faults,
    (match a.result with | .none => 0 | .complete => 1 | .incomplete => 2), orAbsent a.timer, flag a.parked,
    orAbsent a.parkTimer, a.queue.length, a.counter, flag a.parkOffered] := by
  cases result : a.result <;> simp [arbiterView, result, TurnResult.code]

/-- R223: the sum of the conditions that hold. -/
theorem alertConditions_sum : (alertConditions s : Int) = flag s.floor.anyTripped + 2 * flag s.loop.silenceAlert +
    4 * flag s.floor.queue.congested + 8 * flag s.floor.anyOverdue + 16 * flag (s.floor.arbiter.state == .disabled) +
    32 * flag s.floor.registerAlert := by
  have weighs (b : Bool) (n : Nat) : (((if b then n else 0 : Nat)) : Int) = n * flag b := by cases b <;> simp [flag]
  have disabled : (if s.floor.arbiter.state = .disabled then 16 else 0 : Nat) =
      if (s.floor.arbiter.state == .disabled) = true then 16 else 0 := by simp
  simp only [alertConditions, disabled, Int.natCast_add, weighs]
  simp

theorem depth_eq (q : Queue) : q.depth = q.trip.length + q.command.length + q.reply.length + q.event.length := by
  simp only [Queue.depth, Queue.shared]
  omega

theorem deviceView_eq : deviceView s = [(s.loop.node.toNat : Int), flag s.tables.present, flag s.loop.up, flag s.tables.present,
    (if s.tables.present = true then (s.tables.active.unsigned 0 0 3 : Int) else 0), flag s.tables.check.isSome,
    s.time.toNat, flag s.timeUnset, s.floor.register.state.code, s.floor.queue.depth, s.floor.queue.trip.length,
    s.floor.queue.command.length, s.floor.queue.reply.length, s.floor.queue.event.length, flag s.floor.queue.lost,
    alertConditions s, s.floor.eventSeq.toNat] := rfl

variable {a : Arbiter} {i : Nat} {q : Request}

theorem requestView_none (none : a.queue[i]? = none) : requestView a (i + 1) = [-1, -1, -1] := by
  simp only [requestView, Nat.add_sub_cancel, none]

theorem requestView_some (waits : a.queue[i]? = some q) :
    requestView a (i + 1) = [6 + ((q.box : Nat) : Int), if q.urgent = true then 2 else 1, q.number] := by
  simp only [requestView, Nat.add_sub_cancel, waits]

end Entries

/-! ### The codes -/

/-- R217 to R219: the codes of the states, the qualities, the reasons and the statuses. -/
theorem codes_listed :
    [UnitState.empty, .loaded, .running, .held, .manual, .done, .discharging, .receiving, .tripped].map UnitState.code =
      [0, 1, 2, 3, 4, 5, 6, 7, 8] ∧
    [HoldReason.station, .loop, .point, .dose, .restart, .programGone].map HoldReason.code = [1, 2, 3, 4, 5, 6] ∧
    [Quality.none, .fresh, .held, .stale].map Quality.code = [0, 1, 2, 3] ∧
    [ChannelState.idle, .active, .paused, .done, .stopped].map ChannelState.code = [0, 1, 2, 3, 4] ∧
    [ArbiterState.idle, .parking, .preparing, .dispatched, .turning, .releasing, .disabled].map ArbiterState.code =
      [0, 1, 2, 3, 4, 5, 6] ∧
    [FillState.none, .notBegun, .filling, .complete].map FillState.code = [0, 1, 2, 3] ∧
    [TripCause.tonHigh, .tonLost, .flameLost, .loop].map TripCause.code = [1, 2, 3, 4] ∧
    [RegisterState.unset, .checking, .ready, .faulted].map RegisterState.code = [0, 1, 2, 3] ∧
    [CaptureReason.none, .badCell, .orphan, .badKind, .denied, .retryExhausted, .unmappedPoll].map CaptureReason.code =
      [0, 1, 2, 3, 4, 5, 6] ∧
    [VoteStatus.agreed3, .agreed2, .disagree, .missing].map voteCode = [1, 2, 3, 4] ∧
    [SampleKind.steepOut, .kilnIn, .kilnOut, .spot, .void].map kindCode = [1, 2, 3, 4, 5] ∧
    [Status.ok, .busy, .denied, .badFunction, .badArgument, .notActive, .refused, .retry, .clamped, .hold, .full, .wait,
        .badName, .badCheck, .oldGeneration, .dupKey, .badWindow, .badReference, .unitBusy].map Status.code =
      [0, 1, 2, 3, 4, 5, 6, 7, 8, 9, 10, 11, 16, 17, 18, 19, 20, 21, 22] := by
  refine ⟨?_, ?_, ?_, ?_, ?_, ?_, ?_, ?_, ?_, ?_, ?_, ?_⟩ <;> rfl

/-! ### READ -/

section Reading

variable {s t : State} {r : Req}

theorem serveFunction_read (r : Req) (t : State) : serveFunction .read { r with fillFirst := false } t = serveRead r t := rfl

theorem serveRead_table (small : t.tables.cursorNumber < 32) {st : Status} {v : Int}
    (reads : readTable (r.qual.toNat % 128) (decide (128 ≤ r.qual.toNat)) t.tables = (st, v)) : serveRead r t = t.answer .read r st v := by
  have table : ¬t.tables.onView = true := by simp [TableBank.onView, small]
  simp only [serveRead, if_neg table, reads]
  rfl

theorem serveRead_view (view : 32 ≤ t.tables.cursorNumber) : serveRead r t =
    match (viewEntry t t.tables.cursorNumber t.tables.cursorIndex)[r.qual.toNat % 128]? with
    | some v => clearTc (t.answer .read r .ok v)
    | none => t.answer .read r .badArgument 0 := by
  have onView : t.tables.onView = true := by simp [TableBank.onView, view]
  simp only [serveRead, if_pos onView]
  rfl

/-- R72: a READ that is answered from a table. -/
theorem exec_read_table (h : s.Ready .read r) (small : s.tables.cursorNumber < 32) {st : Status} {v : Int}
    (reads : readTable (r.qual.toNat % 128) (decide (128 ≤ r.qual.toNat)) s.tables = (st, v)) :
    exec (.read r) s = .next (s.afterRequest .read r fun t => t.answer .read r st v) := by
  refine exec_ready_told h fun t arrived => (serveFunction_read r t).trans (serveRead_table ?_ ?_)
  · rw [arrived.tables]
    exact small
  · rw [arrived.tables]
    exact reads

/-- What a READ on a view that is no channel's does. -/
def readView (n i field : Nat) (r : Req) (t : State) : State :=
  match (viewEntry t n i)[field]? with
  | some v => t.answer .read r .ok v
  | none => t.answer .read r .badArgument 0

theorem readView_endInputs (n i field : Nat) (t : State) : (readView n i field r t).endInputs = t.endInputs := by
  unfold readView
  split <;> exact (answer_quiet ..).endInputs t

theorem clearTc_other (other : t.tables.cursorNumber ≠ 35) : clearTc t = t := if_neg other

theorem exec_read_view (h : s.Ready .read r) (view : 32 ≤ s.tables.cursorNumber) (other : s.tables.cursorNumber ≠ 35) :
    exec (.read r) s = .next (s.afterRequest .read r
      (readView s.tables.cursorNumber s.tables.cursorIndex (r.qual.toNat % 128) r)) := by
  refine exec_ready_does h (fun t arrived => ?_) fun t _ => readView_endInputs ..
  rw [serveFunction_read, serveRead_view (by rw [arrived.tables]; exact view), arrived.tables]
  simp only [readView]
  split
  · refine clearTc_other ?_
    have tables : t.tables.cursorNumber = s.tables.cursorNumber := by rw [arrived.tables]
    exact fun is => other (tables.symm.trans is)
  · rfl

/-- R144: the state with the TC of a channel cleared, its channels as they were. -/
def tcCleared (c : Fin 12) (channels : Vector Channel 12) (t : State) : State :=
  { t with floor := { t.floor with channels := channels.set c { channels[c] with tc := false } } }

theorem clearTc_channel {c : Fin 12} (number : t.tables.cursorNumber = 35) (index : t.tables.cursorIndex = c) {v : Int} :
    clearTc (t.answer .read r .ok v) = (tcCleared c t.floor.channels t).answer .read r .ok v := by
  have at' : indexOf 12 ((t.answer .read r .ok v).tables.cursorIndex : Int) = some c := by
    have same : (t.answer .read r .ok v).tables.cursorIndex = c := index
    rw [same, indexOf_val]
  have number' : (t.answer .read r .ok v).tables.cursorNumber = 35 := number
  simp only [clearTc, if_pos number', at']
  rfl

theorem exec_read_channel {c : Fin 12} (h : s.Ready .read r) (number : s.tables.cursorNumber = 35) (index : s.tables.cursorIndex = c)
    {v : Int} (field : (channelView s.floor.channels[c])[r.qual.toNat % 128]? = some v) :
    exec (.read r) s = .next (s.afterRequest .read r fun t => (tcCleared c s.floor.channels t).answer .read r .ok v) := by
  refine exec_ready_does h (fun t arrived => ?_) fun t _ => (answer_quiet ..).endInputs _
  have number' : t.tables.cursorNumber = 35 := by rw [arrived.tables]; exact number
  have index' : t.tables.cursorIndex = c := by rw [arrived.tables]; exact index
  rw [serveFunction_read, serveRead_view (by omega), number', index', viewEntry_channel, arrived.channels, field,
    ← arrived.channels]
  exact clearTc_channel number' index'

theorem exec_read_absent {c : Fin 12} (h : s.Ready .read r) (number : s.tables.cursorNumber = 35) (index : s.tables.cursorIndex = c)
    (absent : (channelView s.floor.channels[c])[r.qual.toNat % 128]? = none) :
    exec (.read r) s = .next (s.afterRequest .read r fun t => t.answer .read r .badArgument 0) := by
  refine exec_ready_told h fun t arrived => ?_
  have number' : t.tables.cursorNumber = 35 := by rw [arrived.tables]; exact number
  have index' : t.tables.cursorIndex = c := by rw [arrived.tables]; exact index
  rw [serveFunction_read, serveRead_view (by omega), number', index', viewEntry_channel, arrived.channels, absent]

end Reading

/-- Settles O16: the codes, the fields of the views, and READ of tables, of views and of a channel's entry. -/
theorem readAnswersTheField : Obligations.ReadAnswersTheField := by
  refine ⟨codes_listed, fun s => ?_, fun r s h => ⟨fun table => ⟨fun beyond => ?_, fun within shadow => ?_, fun within active present => ?_,
    fun within active absent => ?_⟩, exec_read_view h, fun c number index => ⟨fun v => exec_read_channel h number index,
      exec_read_absent h number index⟩⟩⟩
  · intro bit count figure setting output
    refine ⟨fun p => viewEntry_point s p, fun u => ?_, fun v => ?_, fun b => ?_, fun k => ?_, fun b x held => ⟨?_, fun none => ?_,
      fun t is => ?_⟩, fun c => ?_, ⟨?_, fun i small none => ?_, fun i q small waits => ?_⟩, fun k => ⟨?_, fun i small => ?_, ?_,
        fun none => ?_, fun t is => ?_, ?_, ?_⟩, ⟨?_, fun i x small held => ?_⟩, ?_, ?_⟩
    · rw [viewEntry_unit]
      rfl
    · exact congrArg (List.drop 8) (viewEntry_unit s (.vessel v))
    · exact congrArg (List.drop 8) (viewEntry_unit s (.box b))
    · exact congrArg (List.drop 8) (viewEntry_unit s (.kiln k))
    · rw [viewEntry_batch, held]
      rfl
    · rw [viewEntry_batch, held, batchView_transfer, none]
      rfl
    · rw [viewEntry_batch, held, batchView_transfer, is]
      rfl
    · exact viewEntry_channel s c
    · exact arbiterView_eq _
    · rw [viewEntry_request, requestView_none none]
    · rw [viewEntry_request, requestView_some waits]
    · rw [viewEntry_kiln]
      rfl
    · rw [viewEntry_kiln, kilnView_history _ small]
      simp only [List.getD_eq_getElem?_getD]
      cases s.floor.kilns[k].history[i]? <;> rfl
    · rw [viewEntry_kiln]
      rfl
    · rw [viewEntry_kiln, kilnView_trip, none]
      rfl
    · rw [viewEntry_kiln, kilnView_trip, is]
      rfl
    · rw [viewEntry_kiln, kilnView_counts]
      rfl
    · rw [viewEntry_kiln, kilnView_times]
      rfl
    · rfl
    · exact viewEntry_record s small held
    · rfl
    · refine (deviceView_eq s).trans ?_
      rw [alertConditions_sum, depth_eq]
      rfl
  · exact exec_read_table h table (if_pos beyond)
  · refine exec_read_table h table ?_
    simp [readTable, not_le.mpr within, not_le.mpr shadow]
  · refine exec_read_table h table ?_
    simp [readTable, not_le.mpr within, active, present]
  · refine exec_read_table h table ?_
    simp [readTable, not_le.mpr within, active, absent]

end Sys2Proof.Machine
